-- ==== Sys2Proof/Word.lean ====
section
/-! DEFINITION. The word of the CX16's control port (the byte) and the records "one value for each member of a
small fixed set" that the rest of the model is written with. -/

namespace Sys2Proof

/-- One byte of a frame, a body or a report's data (R164). -/
abbrev Byte := BitVec 8

/-- A run of bytes: a body, a frame, a report's data. -/
abbrev Bytes := List Byte

end Sys2Proof
end

