-- ==== Sys2Proof/Config.lean ====
section
/-! DEFINITION. What the manual fixes once for every part of stepping 1.0 (capacities, thresholds, intervals), and the
values it leaves open. An open value is an opaque constant: nothing in Lean can evaluate it, so no statement can rest
on it. -/

namespace Sys2Proof.Config

/-- Capacity of the report queue (R7). -/
def reportCapacity : Nat := 24

/-- Reports a FETCH_REPORTS returns at most (R8). -/
def fetchLimit : Nat := 4

/-- Capacity of the station list (R115). -/
def listCapacity : Nat := 40

/-- Capacity of the chime queue (R86). -/
def chimeCapacity : Nat := 8

/-- Segment slots of pattern memory (R81). -/
def segmentSlots : Nat := 512

/-- Indices an alternate list holds at most (R112, R115). -/
def alternateCapacity : Nat := 12

/-- Quality below which alternate following starts its low timer (R124). -/
def followThreshold : Nat := 30

/-- What a candidate's quality must exceed the old smoothed quality by (R125, R126). -/
def followMargin : Nat := 10

/-- Cap of the speed lifts, in quarter-decibels (R58, R64). -/
def liftCap : Int := 48

/-- Blocks of 1 ms in a voicing crossfade (R69). -/
def fadeBlocks : Nat := 10

/-- Part code carried by GET_PART_STATE (R13). -/
def partCode : Nat := 0x0C16

/-- Stepping carried by GET_PART_STATE, major then minor (R13). -/
def stepping : Nat × Nat := (1, 0)

/-- DESIGN CHOICE (log 3). The two bytes by which a PATTERN_SEGMENT reply carries the cursor END. R83 says that the
reply carries "a slot or END"; no rule gives END a code. -/
opaque cursorEnd : Byte × Byte

/-- DESIGN CHOICE (log 3). The byte by which GET_ZONE carries the presence of a source, for PRESENT (`true`) and for
ABSENT (`false`). R43 names the field; section 12.4 gives its two values no code. -/
opaque presence : Bool → Byte

/-- DESIGN CHOICE (log 3). The byte by which a BAD_SAFETY reply names a failed check, in the order of R27's table:
0 level limits, 1 fail-safe chime, 2 fallback channels. No rule gives the checks codes. -/
opaque safetyCheck : Fin 3 → Byte

end Sys2Proof.Config
end

