-- ==== Sys2Proof/Syntax.lean ====
section
/-! DEFINITION. The commands of the CX16, one constructor of `Instr` for each row of spec/opcode_table.json, and the
names their operands use. A request carries the bytes of its body as the host sent them (R2, R164); an event carries
the measured or sensed value the spec says comes with it. -/

namespace Sys2Proof

/-- The three cabin zones (00_scope, section 7). -/
inductive Cabin where
  | front | rear | load
  deriving DecidableEq, Repr

/-- The two headphone zones, and the headphone drivers that serve them. -/
inductive Hp where
  | hpl | hpr
  deriving DecidableEq, Repr

/-- The five zones: three cabin zones and two headphone zones. -/
inductive Zone where
  | cabin (c : Cabin)
  | hp (h : Hp)
  deriving DecidableEq, Repr

/-- The two broadcast bands (R100). -/
inductive Band where
  | fm | am
  deriving DecidableEq, Repr

/-- The two receivers, RX-A and RX-B (R99). -/
inductive Rx where
  | a | b
  deriving DecidableEq, Repr

/-- The two chime voices, V1 and V2 (R90). -/
inductive VoiceId where
  | v1 | v2
  deriving DecidableEq, Repr

/-- The four microphones, MIC_FL, MIC_FR, MIC_RL and MIC_RR (R145). -/
inductive Mic where
  | fl | fr | rl | rr
  deriving DecidableEq, Repr

/-- The two amplifier banks: bank 1 is AMP1 to AMP5, bank 2 is AMP6 to AMP10 (R61). -/
inductive Bank where
  | b1 | b2
  deriving DecidableEq, Repr

/-- An amplifier channel. The number `k` stands for AMP(k+1): `0` is AMP1 and `9` is AMP10. -/
abbrev Amp := Fin 10

/-- A digital output channel. The number `k` stands for DOUT(k+1). -/
abbrev Dout := Fin 6

/-- An output channel: an amplifier, a digital output slot or a headphone driver (chapter 11). -/
inductive Chan where
  | amp (k : Amp)
  | dout (k : Dout)
  | hp (h : Hp)
  deriving DecidableEq, Repr

/-- The three inputs of one receiver measurement (R102): signal level in dBuV, multipath (FM only) and
adjacent-channel interference. -/
structure Measurement where
  level : Nat
  multipath : Nat
  adjacent : Nat
  deriving DecidableEq, Repr

/-- The payload of one broadcast data group (R111, R112). -/
inductive Payload where
  /-- A name segment: its position and two character codes. -/
  | name (position : Fin 4) (c1 c2 : Byte)
  /-- A pair of alternate frequency indices, taken first one first. -/
  | alternates (i j : Nat)
  /-- The traffic carrier flag and the traffic-on flag. -/
  | flags (carrier trafficOn : Bool)
  deriving DecidableEq, Repr

/-- One of the nineteen items of the monitor scan (R162). -/
inductive Item where
  | amp (k : Amp)
  | bank (b : Bank)
  | supply
  | mic (m : Mic)
  | hp (h : Hp)
  deriving DecidableEq, Repr

/-- One sample of the monitor scan with what the spec says the part makes of it (R162). A current or a bias whose
limit the data sheet fixes is taken as the spec takes it: on one side of the limit or on the other. -/
inductive Sample where
  /-- An amplifier's current, below the open threshold or not, and the channel's output level in dBFS (R160). -/
  | ampCurrent (k : Amp) (belowOpen : Bool) (outputLevel : Int)
  /-- A bank temperature in degrees Celsius (R157). -/
  | temperature (b : Bank) (celsius : Int)
  /-- The amplifier supply in units of 0.1 V (R158). -/
  | supply (tenths : Nat)
  /-- A microphone's bias current, inside its window or not (R145). -/
  | micBias (m : Mic) (inside : Bool)
  /-- A headphone driver's current, above its short limit or not (R138). -/
  | hpCurrent (h : Hp) (aboveLimit : Bool)
  deriving DecidableEq, Repr

/-- The request kinds, in the order of section 1.6 read row by row, which is the order of their kind bytes (R164). -/
inductive Kind where
  | poll | fetchReports | setReportMask | getPartState | setInstall | getInstall
  | openSafetyEdit | setSafety | lockSafety | startAudio | standby | wake
  | restart | selectSource | setVolume | setMute | setBalanceFader | setSourceTrim
  | setClassDuck | setSpeedLift | setRearQuiet | getZone | promptStart | promptEnd
  | setVoicing | vehicleState | setCondition | patternLoad | patternSegment | definePattern
  | chimeRequest | chimeCancel | tune | step | seek | setReception
  | getStation | scanNow | setScan | setFollow | setTrafficWatch | trafficSkip
  | rearTune | setRearCeiling | callState | callRoute | setUplinkMute | setMicPolicy
  | loadTest | setProtection | setMonitor | retryChannel | clearFault | getFaults
  deriving DecidableEq, Repr

/-- The commands of the part: what the host sends on the control port (one frame of each request kind, or a frame the
port turns away) and the events that reach the part from its pins, its clocks and its measurements. One constructor for
each row of spec/opcode_table.json, in the table's order. A request's `body` is the frame's body, of the length the
frame's byte 2 gives (R2). -/
inductive Instr where
  /-- POWER_ON_RESET (R14). -/
  | powerOnReset
  /-- INITIALISATION_COMPLETE (R14). -/
  | initialisationComplete
  /-- FRAME_ERROR (R2). -/
  | frameError (received : Bytes)
  /-- UNKNOWN_KIND (R2). -/
  | unknownKind (kind : Byte)
  /-- POLL (R6). -/
  | poll (body : Bytes)
  /-- FETCH_REPORTS (R8). -/
  | fetchReports (body : Bytes)
  /-- SET_REPORT_MASK (R9). -/
  | setReportMask (body : Bytes)
  /-- GET_PART_STATE (R13). -/
  | getPartState (body : Bytes)
  /-- SET_INSTALL (R22). -/
  | setInstall (body : Bytes)
  /-- GET_INSTALL (R22). -/
  | getInstall (body : Bytes)
  /-- OPEN_SAFETY_EDIT (R26). -/
  | openSafetyEdit (body : Bytes)
  /-- SET_SAFETY (R25). -/
  | setSafety (body : Bytes)
  /-- LOCK_SAFETY (R27). -/
  | lockSafety (body : Bytes)
  /-- START_AUDIO (R17). -/
  | startAudio (body : Bytes)
  /-- STANDBY (R18). -/
  | standby (body : Bytes)
  /-- WAKE (R19). -/
  | wake (body : Bytes)
  /-- RESTART (R21). -/
  | restart (body : Bytes)
  /-- SELECT_SOURCE (R37). -/
  | selectSource (body : Bytes)
  /-- SET_VOLUME (R38). -/
  | setVolume (body : Bytes)
  /-- SET_MUTE (R39). -/
  | setMute (body : Bytes)
  /-- SET_BALANCE_FADER (R40). -/
  | setBalanceFader (body : Bytes)
  /-- SET_SOURCE_TRIM (R41). -/
  | setSourceTrim (body : Bytes)
  /-- SET_CLASS_DUCK (R42). -/
  | setClassDuck (body : Bytes)
  /-- SET_SPEED_LIFT (R40). -/
  | setSpeedLift (body : Bytes)
  /-- SET_REAR_QUIET (R40). -/
  | setRearQuiet (body : Bytes)
  /-- GET_ZONE (R43). -/
  | getZone (body : Bytes)
  /-- PROMPT_START (R51). -/
  | promptStart (body : Bytes)
  /-- PROMPT_END (R51). -/
  | promptEnd (body : Bytes)
  /-- SET_VOICING (R68). -/
  | setVoicing (body : Bytes)
  /-- VEHICLE_STATE (R71). -/
  | vehicleState (body : Bytes)
  /-- SET_CONDITION (R74). -/
  | setCondition (body : Bytes)
  /-- PATTERN_LOAD (R82). -/
  | patternLoad (body : Bytes)
  /-- PATTERN_SEGMENT (R83). -/
  | patternSegment (body : Bytes)
  /-- DEFINE_PATTERN (R85). -/
  | definePattern (body : Bytes)
  /-- CHIME_REQUEST (R87). -/
  | chimeRequest (body : Bytes)
  /-- CHIME_CANCEL (R89). -/
  | chimeCancel (body : Bytes)
  /-- TUNE (R104). -/
  | tune (body : Bytes)
  /-- STEP (R105). -/
  | step (body : Bytes)
  /-- SEEK (R106). -/
  | seek (body : Bytes)
  /-- SET_RECEPTION (R107). -/
  | setReception (body : Bytes)
  /-- GET_STATION (R118). -/
  | getStation (body : Bytes)
  /-- SCAN_NOW (R121). -/
  | scanNow (body : Bytes)
  /-- SET_SCAN (R121). -/
  | setScan (body : Bytes)
  /-- SET_FOLLOW (R124). -/
  | setFollow (body : Bytes)
  /-- SET_TRAFFIC_WATCH (R128). -/
  | setTrafficWatch (body : Bytes)
  /-- TRAFFIC_SKIP (R130). -/
  | trafficSkip (body : Bytes)
  /-- REAR_TUNE (R132). -/
  | rearTune (body : Bytes)
  /-- SET_REAR_CEILING (R135). -/
  | setRearCeiling (body : Bytes)
  /-- CALL_STATE (R142). -/
  | callState (body : Bytes)
  /-- CALL_ROUTE (R143). -/
  | callRoute (body : Bytes)
  /-- SET_UPLINK_MUTE (R148). -/
  | setUplinkMute (body : Bytes)
  /-- SET_MIC_POLICY (R148). -/
  | setMicPolicy (body : Bytes)
  /-- LOAD_TEST (R159). -/
  | loadTest (body : Bytes)
  /-- SET_PROTECTION (R156). -/
  | setProtection (body : Bytes)
  /-- SET_MONITOR (R162). -/
  | setMonitor (body : Bytes)
  /-- RETRY_CHANNEL (R156). -/
  | retryChannel (body : Bytes)
  /-- CLEAR_FAULT (R163). -/
  | clearFault (body : Bytes)
  /-- GET_FAULTS (R161). -/
  | getFaults (body : Bytes)
  /-- WATCHDOG_EXPIRY (R12). -/
  | watchdogExpiry
  /-- CLOCK_LOSS (R31). -/
  | clockLoss
  /-- CLOCK_RETURN (R32). -/
  | clockReturn
  /-- RAMP_STEP (R65). -/
  | rampStep
  /-- VOICING_BLOCK_BOUNDARY (R69). -/
  | voicingBlockBoundary
  /-- HOLD_TIMER_RUNOUT (R77). -/
  | holdTimerRunout (slot : Fin 16)
  /-- VOICE_PHASE_END (R92). -/
  | voicePhaseEnd (v : VoiceId)
  /-- TUNE_SETTLE_END (R101). -/
  | tuneSettleEnd (rx : Rx) (m : Measurement)
  /-- QUALITY_MEASUREMENT (R103). -/
  | qualityMeasurement (rx : Rx) (m : Measurement)
  /-- SEEK_STEP_END (R106). -/
  | seekStepEnd (m : Measurement)
  /-- RX_B_SETTLE_END (R109). -/
  | rxBSettleEnd (m : Measurement)
  /-- DWELL_END (R119). -/
  | dwellEnd
  /-- DATA_GROUP (R111). -/
  | dataGroup (rx : Rx) (code : Nat) (payload : Payload)
  /-- TRAFFIC_TIMER_RUNOUT (R112). -/
  | trafficTimerRunout (rx : Rx)
  /-- LOW_TIMER_RUNOUT (R124). -/
  | lowTimerRunout
  /-- CHECK_TIMEOUT (R125). -/
  | checkTimeout
  /-- SWITCH_SETTLE_END (R125). -/
  | switchSettleEnd (m : Measurement)
  /-- BLIND_CHECK_DECISION (R126). -/
  | blindCheckDecision (m : Measurement)
  /-- AF_RETURN_SETTLE_END (R126). -/
  | afReturnSettleEnd (m : Measurement)
  /-- VERIFY_TIMEOUT (R126). -/
  | verifyTimeout
  /-- BACKOFF_RUNOUT (R127). -/
  | backoffRunout
  /-- CARRIER_JUDGEMENT (R128). -/
  | carrierJudgement
  /-- BRIDGE_TIMER_RUNOUT (R130). -/
  | bridgeTimerRunout
  /-- JACK_STATE_CHANGE (R136). -/
  | jackStateChange (h : Hp) (inserted : Bool)
  /-- MONITOR_SAMPLE (R162). -/
  | monitorSample (sample : Sample)
  /-- ERLE_ESTIMATE (R150). -/
  | erleEstimate (erle : Nat) (downlink : Int)
  /-- CONVERGENCE_TIMER_RUNOUT (R150). -/
  | convergenceTimerRunout
  /-- DIVERGENCE_TIMER_RUNOUT (R150). -/
  | divergenceTimerRunout
  /-- NOISE_ESTIMATE (R151). -/
  | noiseEstimate (levelFL levelFR : Int)
  /-- LIMIT_ENGAGE (R155). -/
  | limitEngage (k : Amp)
  /-- LIMIT_RELEASE (R155). -/
  | limitRelease (k : Amp)
  /-- SOFT_START_END (R154). -/
  | softStartEnd (k : Amp)
  /-- TRIP_TIMER_RUNOUT (R155). -/
  | tripTimerRunout (k : Amp)
  /-- RETRY_TIMER_RUNOUT (R155). -/
  | retryTimerRunout (k : Amp)
  /-- LOAD_TEST_CHECK_END (R159). -/
  | loadTestCheckEnd (registered : Bool)
  /-- OPEN_TIMER_RUNOUT (R160). -/
  | openTimerRunout (k : Amp)
  deriving DecidableEq, Repr

end Sys2Proof
end

