-- ==== Sys2Proof/Decode.lean ====
section
/-! DEFINITION. From bytes to commands: the check byte (R3, R165), the kind bytes (R164), the judgement of a received
frame (R2) that makes of one transfer one command, and the frame by which the host sends a command. The opcode table
gives no row bits, so `decodeTableWord` answers none. -/

namespace Sys2Proof

/-! ### The check byte -/

/-- One of the eight shifts of R165 step (2). -/
def crcShift (r : Byte) : Byte := if r.msb then (r <<< 1) ^^^ 0x1D#8 else r <<< 1

/-- One byte taken into the register (R165 step (2)). -/
def crcByte (r b : Byte) : Byte :=
  crcShift (crcShift (crcShift (crcShift (crcShift (crcShift (crcShift (crcShift (r ^^^ b))))))))

/-- The check byte over a run of bytes (R3, R165). -/
def checkByte (bs : Bytes) : Byte := (bs.foldl crcByte 0xFF#8) ^^^ 0xFF#8

/-! ### Kind bytes -/

/-- The kind byte of a request kind (R164: numbered from 0x01 in the order of section 1.6). -/
def Kind.code : Kind → Byte
  | .poll => 0x01#8
  | .fetchReports => 0x02#8
  | .setReportMask => 0x03#8
  | .getPartState => 0x04#8
  | .setInstall => 0x05#8
  | .getInstall => 0x06#8
  | .openSafetyEdit => 0x07#8
  | .setSafety => 0x08#8
  | .lockSafety => 0x09#8
  | .startAudio => 0x0a#8
  | .standby => 0x0b#8
  | .wake => 0x0c#8
  | .restart => 0x0d#8
  | .selectSource => 0x0e#8
  | .setVolume => 0x0f#8
  | .setMute => 0x10#8
  | .setBalanceFader => 0x11#8
  | .setSourceTrim => 0x12#8
  | .setClassDuck => 0x13#8
  | .setSpeedLift => 0x14#8
  | .setRearQuiet => 0x15#8
  | .getZone => 0x16#8
  | .promptStart => 0x17#8
  | .promptEnd => 0x18#8
  | .setVoicing => 0x19#8
  | .vehicleState => 0x1a#8
  | .setCondition => 0x1b#8
  | .patternLoad => 0x1c#8
  | .patternSegment => 0x1d#8
  | .definePattern => 0x1e#8
  | .chimeRequest => 0x1f#8
  | .chimeCancel => 0x20#8
  | .tune => 0x21#8
  | .step => 0x22#8
  | .seek => 0x23#8
  | .setReception => 0x24#8
  | .getStation => 0x25#8
  | .scanNow => 0x26#8
  | .setScan => 0x27#8
  | .setFollow => 0x28#8
  | .setTrafficWatch => 0x29#8
  | .trafficSkip => 0x2a#8
  | .rearTune => 0x2b#8
  | .setRearCeiling => 0x2c#8
  | .callState => 0x2d#8
  | .callRoute => 0x2e#8
  | .setUplinkMute => 0x2f#8
  | .setMicPolicy => 0x30#8
  | .loadTest => 0x31#8
  | .setProtection => 0x32#8
  | .setMonitor => 0x33#8
  | .retryChannel => 0x34#8
  | .clearFault => 0x35#8
  | .getFaults => 0x36#8

/-- The request kinds in the order of their codes. -/
def Kind.all : List Kind :=
  [.poll, .fetchReports, .setReportMask, .getPartState, .setInstall, .getInstall,
   .openSafetyEdit, .setSafety, .lockSafety, .startAudio, .standby, .wake,
   .restart, .selectSource, .setVolume, .setMute, .setBalanceFader, .setSourceTrim,
   .setClassDuck, .setSpeedLift, .setRearQuiet, .getZone, .promptStart, .promptEnd,
   .setVoicing, .vehicleState, .setCondition, .patternLoad, .patternSegment, .definePattern,
   .chimeRequest, .chimeCancel, .tune, .step, .seek, .setReception,
   .getStation, .scanNow, .setScan, .setFollow, .setTrafficWatch, .trafficSkip,
   .rearTune, .setRearCeiling, .callState, .callRoute, .setUplinkMute, .setMicPolicy,
   .loadTest, .setProtection, .setMonitor, .retryChannel, .clearFault, .getFaults]

/-- The request kind a kind byte names, if it names one (R2 check 5, R164). -/
def Kind.ofCode (b : Byte) : Option Kind := Kind.all.find? (fun k => k.code == b)

/-- The command that a request kind with a body is. -/
def Instr.ofRequest (k : Kind) (body : Bytes) : Instr :=
  match k with
  | .poll => .poll body
  | .fetchReports => .fetchReports body
  | .setReportMask => .setReportMask body
  | .getPartState => .getPartState body
  | .setInstall => .setInstall body
  | .getInstall => .getInstall body
  | .openSafetyEdit => .openSafetyEdit body
  | .setSafety => .setSafety body
  | .lockSafety => .lockSafety body
  | .startAudio => .startAudio body
  | .standby => .standby body
  | .wake => .wake body
  | .restart => .restart body
  | .selectSource => .selectSource body
  | .setVolume => .setVolume body
  | .setMute => .setMute body
  | .setBalanceFader => .setBalanceFader body
  | .setSourceTrim => .setSourceTrim body
  | .setClassDuck => .setClassDuck body
  | .setSpeedLift => .setSpeedLift body
  | .setRearQuiet => .setRearQuiet body
  | .getZone => .getZone body
  | .promptStart => .promptStart body
  | .promptEnd => .promptEnd body
  | .setVoicing => .setVoicing body
  | .vehicleState => .vehicleState body
  | .setCondition => .setCondition body
  | .patternLoad => .patternLoad body
  | .patternSegment => .patternSegment body
  | .definePattern => .definePattern body
  | .chimeRequest => .chimeRequest body
  | .chimeCancel => .chimeCancel body
  | .tune => .tune body
  | .step => .step body
  | .seek => .seek body
  | .setReception => .setReception body
  | .getStation => .getStation body
  | .scanNow => .scanNow body
  | .setScan => .setScan body
  | .setFollow => .setFollow body
  | .setTrafficWatch => .setTrafficWatch body
  | .trafficSkip => .trafficSkip body
  | .rearTune => .rearTune body
  | .setRearCeiling => .setRearCeiling body
  | .callState => .callState body
  | .callRoute => .callRoute body
  | .setUplinkMute => .setUplinkMute body
  | .setMicPolicy => .setMicPolicy body
  | .loadTest => .loadTest body
  | .setProtection => .setProtection body
  | .setMonitor => .setMonitor body
  | .retryChannel => .retryChannel body
  | .clearFault => .clearFault body
  | .getFaults => .getFaults body

/-- The request kind and body of a command, if it is a request. -/
def Instr.request (i : Instr) : Option (Kind × Bytes) :=
  match i with
  | .poll body => some (.poll, body)
  | .fetchReports body => some (.fetchReports, body)
  | .setReportMask body => some (.setReportMask, body)
  | .getPartState body => some (.getPartState, body)
  | .setInstall body => some (.setInstall, body)
  | .getInstall body => some (.getInstall, body)
  | .openSafetyEdit body => some (.openSafetyEdit, body)
  | .setSafety body => some (.setSafety, body)
  | .lockSafety body => some (.lockSafety, body)
  | .startAudio body => some (.startAudio, body)
  | .standby body => some (.standby, body)
  | .wake body => some (.wake, body)
  | .restart body => some (.restart, body)
  | .selectSource body => some (.selectSource, body)
  | .setVolume body => some (.setVolume, body)
  | .setMute body => some (.setMute, body)
  | .setBalanceFader body => some (.setBalanceFader, body)
  | .setSourceTrim body => some (.setSourceTrim, body)
  | .setClassDuck body => some (.setClassDuck, body)
  | .setSpeedLift body => some (.setSpeedLift, body)
  | .setRearQuiet body => some (.setRearQuiet, body)
  | .getZone body => some (.getZone, body)
  | .promptStart body => some (.promptStart, body)
  | .promptEnd body => some (.promptEnd, body)
  | .setVoicing body => some (.setVoicing, body)
  | .vehicleState body => some (.vehicleState, body)
  | .setCondition body => some (.setCondition, body)
  | .patternLoad body => some (.patternLoad, body)
  | .patternSegment body => some (.patternSegment, body)
  | .definePattern body => some (.definePattern, body)
  | .chimeRequest body => some (.chimeRequest, body)
  | .chimeCancel body => some (.chimeCancel, body)
  | .tune body => some (.tune, body)
  | .step body => some (.step, body)
  | .seek body => some (.seek, body)
  | .setReception body => some (.setReception, body)
  | .getStation body => some (.getStation, body)
  | .scanNow body => some (.scanNow, body)
  | .setScan body => some (.setScan, body)
  | .setFollow body => some (.setFollow, body)
  | .setTrafficWatch body => some (.setTrafficWatch, body)
  | .trafficSkip body => some (.trafficSkip, body)
  | .rearTune body => some (.rearTune, body)
  | .setRearCeiling body => some (.setRearCeiling, body)
  | .callState body => some (.callState, body)
  | .callRoute body => some (.callRoute, body)
  | .setUplinkMute body => some (.setUplinkMute, body)
  | .setMicPolicy body => some (.setMicPolicy, body)
  | .loadTest body => some (.loadTest, body)
  | .setProtection body => some (.setProtection, body)
  | .setMonitor body => some (.setMonitor, body)
  | .retryChannel body => some (.retryChannel, body)
  | .clearFault body => some (.clearFault, body)
  | .getFaults body => some (.getFaults, body)
  | .powerOnReset => none
  | .initialisationComplete => none
  | .frameError _ => none
  | .unknownKind _ => none
  | .watchdogExpiry => none
  | .clockLoss => none
  | .clockReturn => none
  | .rampStep => none
  | .voicingBlockBoundary => none
  | .holdTimerRunout _ => none
  | .voicePhaseEnd _ => none
  | .tuneSettleEnd _ _ => none
  | .qualityMeasurement _ _ => none
  | .seekStepEnd _ => none
  | .rxBSettleEnd _ => none
  | .dwellEnd => none
  | .dataGroup _ _ _ => none
  | .trafficTimerRunout _ => none
  | .lowTimerRunout => none
  | .checkTimeout => none
  | .switchSettleEnd _ => none
  | .blindCheckDecision _ => none
  | .afReturnSettleEnd _ => none
  | .verifyTimeout => none
  | .backoffRunout => none
  | .carrierJudgement => none
  | .bridgeTimerRunout => none
  | .jackStateChange _ _ => none
  | .monitorSample _ => none
  | .erleEstimate _ _ => none
  | .convergenceTimerRunout => none
  | .divergenceTimerRunout => none
  | .noiseEstimate _ _ => none
  | .limitEngage _ => none
  | .limitRelease _ => none
  | .softStartEnd _ => none
  | .tripTimerRunout _ => none
  | .retryTimerRunout _ => none
  | .loadTestCheckEnd _ => none
  | .openTimerRunout _ => none

/-! ### Frames -/

/-- The request SYNC value (R2). -/
def requestSync : Byte := 0xA5#8

/-- The longest body a request frame carries (R2 check 3). -/
def maxBody : Nat := 60

/-- A request frame: SYNC, kind, body length, body, padding of 0x00 and the check byte (section 12.2). -/
def requestFrame (kind : Byte) (body : Bytes) : Bytes :=
  let front := [requestSync, kind, BitVec.ofNat 8 body.length] ++ body
  let filled := front ++ List.replicate (63 - front.length) 0x00#8
  filled ++ [checkByte filled]

/-- Checks 1 to 4 of R2 on the bytes of one transfer, of which those after the 64th are ignored (R1). -/
def isGoodFrame (bytes : Bytes) : Bool :=
  decide (64 ≤ bytes.length) &&
  (bytes.getD 0 0#8 == requestSync) &&
  decide ((bytes.getD 2 0#8).toNat ≤ maxBody) &&
  (bytes.getD 63 0#8 == checkByte (bytes.take 63))

/-- The command that one transfer of bytes is (R1, R2): a frame that fails checks 1 to 4, a good frame whose kind byte
names no request, or the request its kind byte names with the body its length byte bounds. -/
def receive (bytes : Bytes) : Instr :=
  if isGoodFrame bytes then
    match Kind.ofCode (bytes.getD 1 0#8) with
    | some k => Instr.ofRequest k ((bytes.drop 3).take (bytes.getD 2 0#8).toNat)
    | none => .unknownKind (bytes.getD 1 0#8)
  else .frameError (bytes.take 64)

/-- The bytes by which the host sends a command on the control port; none for an event. -/
def Instr.frame (i : Instr) : Option Bytes :=
  match i with
  | .frameError received => some received
  | .unknownKind kind => some (requestFrame kind [])
  | _ => i.request.map (fun kb => requestFrame kb.1.code kb.2)

/-! ### The opcode table's words -/

/-- The command a word of the opcode table spells. The table gives none of its rows bits, so no word spells one. -/
def decodeTableWord (_nbits _w : Nat) : Option Instr := none

end Sys2Proof
end

