-- ==== Sys2Proof/Machine/State.lean ====
section
/-! DEFINITION. The state of the CX16 as plain data: one record for each block of 00_scope section 3, holding what the
chapters give that block, and the queue of commands that wait. `State.reset` is the part right after a power-on reset
(R14 and the power-on values each chapter gives). -/

namespace Sys2Proof.Machine

/-- The reasons for which the machine stops with a fault. There are none: every command of the table ends in a next
state. An event that finds nothing to act on (a timer's run-out after the timer was discarded) changes nothing, as the
spec's own races say (log 1). -/
inductive Fault where
  deriving DecidableEq, Repr

/-- The reasons for which a command is refused by the MODEL (not by the part: the part's own refusals are replies).-/
inductive Refusal where
  /-- Raised by an arm of `exec` whose command has no meaning yet; safe, since nothing is said of it. No arm raises it
  in this model. -/
  | notModelled (mnemonic : String)
  deriving DecidableEq, Repr

/-! ### Families of values over a small set of names -/

/-- One value for each zone. -/
structure PerZone (α : Type) where
  front : α
  rear : α
  load : α
  hpl : α
  hpr : α
  deriving DecidableEq, Repr

/-- One value for each cabin zone. -/
structure PerCabin (α : Type) where
  front : α
  rear : α
  load : α
  deriving DecidableEq, Repr

/-- One value for each headphone zone. -/
structure PerHp (α : Type) where
  hpl : α
  hpr : α
  deriving DecidableEq, Repr

/-- One value for each microphone. -/
structure PerMic (α : Type) where
  fl : α
  fr : α
  rl : α
  rr : α
  deriving DecidableEq, Repr

/-- One value for each source but CHIME. -/
structure PerSource (α : Type) where
  fgt : α
  bgt : α
  meda : α
  medb : α
  call : α
  prompt : α
  deriving DecidableEq, Repr

/-- A set of cabin zones. -/
abbrev CabinSet := PerCabin Bool

/-! ### Values -/

/-- The seven sources (00_scope, section 7). -/
inductive Source where
  | fgt | bgt | meda | medb | call | prompt | chime
  deriving DecidableEq, Repr

/-- The five classes of entries, highest priority first (R44). -/
inductive Class where
  | chime | call | prompt | traffic | base
  deriving DecidableEq, Repr

/-- A duck depth or rear-quiet depth: a number of qdB, or FULL (00_scope, section 6.2). -/
inductive Depth where
  | full
  | num (d : Nat)
  deriving DecidableEq, Repr

/-- A gain: MUTE or a whole number of qdB (R54). -/
inductive Gain where
  | mute
  | num (q : Int)
  deriving DecidableEq, Repr

/-- A band and an index on its grid (R100). -/
structure Station where
  band : Band
  index : Nat
  deriving DecidableEq, Repr

/-! ### Control Port (chapter 1) -/

/-- The status codes of section 1.1, in the order of their codes (R164). -/
inductive Status where
  | ok | frameError | unknownKind | badLength | outOfRange | wrongState | locked | editClosed | alreadySet
  | notInstalled | notLocked | notFitted | busy | queueFull | noReceiver | badTransition | badPattern | badSafety
  | cursorEnd | conflict
  deriving DecidableEq, Repr

/-- The report kinds of section 1.3, in the order of their codes (R164). -/
inductive ReportKind where
  | partReady | failsafeEntered | failsafeLeft | clockLost | clockRestored | zoneState | conditionChanged
  | chimeEnded | chimeDropped | chimeRerouted | tuneDone | seekDone | seekFailed | seekAborted | stationData
  | stationListChanged | rxBHolder | scanDone | afSwitched | afReverted | afFailed | trafficNoCarrier
  | trafficStarted | trafficDeferred | trafficEnded | headphonePlug | headphoneShort | aecState | callRouteChanged
  | micFault | thermalLevel | supplyState | loadTestDone | onOpenSuspect | channelFault | channelRecovered
  deriving DecidableEq, Repr

/-- A report: its kind, its subject (0 to 255) and its ten data bytes (section 1.3, R164). -/
structure Report where
  kind : ReportKind
  subject : Nat
  data : Bytes
  deriving DecidableEq, Repr

/-- A composed reply: the kind byte it echoes, its status and its body (R4). -/
structure Reply where
  kind : Byte
  status : Status
  body : Bytes
  deriving DecidableEq, Repr

/-- The link watchdog (R11). `counting` holds the milliseconds left of the interval. -/
inductive Watchdog where
  | stopped
  | counting (remaining : Nat)
  | expired
  deriving DecidableEq, Repr

/-- What the Control Port owns (chapter 1). -/
structure ControlPort where
  /-- The pending reply; absent is EMPTY (R5). -/
  reply : Option Reply
  /-- The report queue, oldest first (R7). -/
  reports : List Report
  /-- The reports-lost flag (R7). -/
  lost : Bool
  /-- The report kinds that are MASKED, in the order of their codes (R9). -/
  masked : List ReportKind
  /-- The ATTN line: `true` while it is driven low (R10). -/
  attnLow : Bool
  /-- The link watchdog (R11). -/
  watchdog : Watchdog
  deriving DecidableEq, Repr

/-! ### State Controller (chapter 2) -/

/-- The operating state (R14). -/
inductive OpState where
  | boot | config | run | failsafe | standby
  deriving DecidableEq, Repr

/-- What led to BOOT, as PART_READY reports it (R14). -/
inductive ResetCause where
  | powerOn | restart
  deriving DecidableEq, Repr

/-- The operating state and what its reports carry. -/
structure Controller where
  opState : OpState
  resetCause : ResetCause
  /-- Milliseconds spent in FAILSAFE since it was last entered (R20). -/
  failsafeMs : Nat
  deriving DecidableEq, Repr

/-- The position of a channel within its zone (section 2.6). -/
inductive Position where
  | left | right | centre | sub
  deriving DecidableEq, Repr

/-- A written channel role (section 2.6). -/
inductive Role where
  | unused
  | zone (c : Cabin) (p : Position)
  deriving DecidableEq, Repr

/-- The frame-clock role (R24). -/
inductive ClockRole where
  | follower | leader
  deriving DecidableEq, Repr

/-- The installation record (section 2.6). An absent field is UNSET. `bridge` is indexed by pair k - 1, and its value
`true` is BRIDGED. -/
structure Install where
  variant : Option Nat
  ampRole : Vector (Option Role) 10
  doutRole : Vector (Option Role) 6
  bridge : Vector (Option Bool) 5
  hpFitted : PerHp (Option Bool)
  micFitted : PerMic (Option Bool)
  clockRole : Option ClockRole
  deriving DecidableEq, Repr

/-- A zone's fail-safe profile (section 2.7). -/
inductive Profile where
  | hold | quiet
  deriving DecidableEq, Repr

/-- The identifier of a pattern (section 6.3). -/
abbrev PatternId := Fin 32

/-- The safety configuration (section 2.7). -/
structure SafetyConfig where
  watchdogMs : Nat
  profile : PerZone Profile
  /-- The fail-safe chime; absent is NONE. -/
  chime : Option PatternId
  chimeZones : CabinSet
  chimeDuck : Depth
  chimeFloor : Int
  chimeCeiling : Int
  chimeLift : Nat
  fallback : List Chan
  deriving DecidableEq, Repr

/-- The safety configuration with its lock (R28) and its edit window (R26). -/
structure Safety where
  config : SafetyConfig
  locked : Bool
  windowOpen : Bool
  deriving DecidableEq, Repr

/-! ### Zone Router and Rear Listening (chapters 3 and 9) -/

/-- One entry of a precedence list (R44). `src` absent is a BASE entry whose base source is NONE. -/
structure Entry where
  cls : Class
  src : Option Source
  deferred : Bool
  deriving DecidableEq, Repr

/-- The cabin settings record (section 3.3). The speed lift cap is fixed at 48 (`Config.liftCap`). -/
structure CabinSettings where
  base : Option Source
  volBase : Nat
  volCall : Nat
  volPrompt : Nat
  volTraffic : Nat
  balance : Int
  fader : Int
  speedLift : Nat
  /-- Rear-quiet; absent is OFF. -/
  rearQuiet : Option Depth
  deriving DecidableEq, Repr

/-- What each cabin zone keeps of its own (section 3.3). -/
structure CabinZone where
  mute : Bool
  quiet : Bool
  list : List Entry
  deriving DecidableEq, Repr

/-- A headphone zone record (section 3.3). `jack` is `true` while INSERTED. -/
structure HpZone where
  base : Option Source
  volBase : Nat
  volCall : Nat
  ceiling : Nat
  mute : Bool
  quiet : Bool
  jack : Bool
  list : List Entry
  deriving DecidableEq, Repr

/-- The class duck depths (section 3.3). -/
structure Ducks where
  call : Depth
  prompt : Depth
  traffic : Depth
  deriving DecidableEq, Repr

/-- What the Zone Router owns, the clock watch of R31 among it. -/
structure ZoneRouter where
  cabin : CabinSettings
  zones : PerCabin CabinZone
  hps : PerHp HpZone
  ducks : Ducks
  trims : PerSource Int
  /-- The clock watch is LOST (R31). -/
  clockLost : Bool
  /-- Milliseconds since the clock was lost (R32). -/
  lostMs : Nat
  deriving DecidableEq, Repr

/-! ### Gain Engine (chapter 4) -/

/-- A path with its target and audible gains (R54). -/
structure Path where
  zone : Zone
  cls : Class
  src : Option Source
  chan : Chan
  target : Gain
  audible : Gain
  retiring : Bool
  deriving DecidableEq, Repr

/-- The type of an equaliser band (R67). -/
inductive BandType where
  | off | peak | lowShelf | highShelf
  deriving DecidableEq, Repr

/-- An equaliser band's record (R67). -/
structure BandRecord where
  type : BandType
  freq : Nat
  gain : Int
  q : Nat
  deriving DecidableEq, Repr

/-- The processing a channel applies to its sum: its delay and its five bands, band 1 first (R67). -/
structure Processing where
  delay : Nat
  bands : Vector BandRecord 5
  deriving DecidableEq, Repr

/-- A voicing record (R67). -/
structure Voicing where
  trim : Int
  processing : Processing
  deriving DecidableEq, Repr

/-- A mixture of processings that a channel sends (R69, R70): one processing alone, or `tenths` tenths of `incoming`
and the rest of `outgoing`, whose own weights stand as they were when it was fixed. -/
inductive Mix where
  | pure (p : Processing)
  | blend (tenths : Nat) (outgoing : Mix) (incoming : Processing)
  deriving DecidableEq, Repr

/-- A crossfade in flight: what it fades from, and which of its ten blocks is being sent (R69). -/
structure Fade where
  outgoing : Mix
  block : Nat
  deriving DecidableEq, Repr

/-- A channel's voicing (R67 to R70): the record as last written, whether it waits for the next block boundary, and
what is in force: the trim, the processing and the crossfade towards it. -/
structure ChannelVoicing where
  record : Voicing
  written : Bool
  trim : Int
  processing : Processing
  fade : Option Fade
  deriving DecidableEq, Repr

/-- What the Gain Engine owns. `voicing` is indexed by the channel's code less one (section 12.4). -/
structure GainEngine where
  paths : List Path
  voicing : Vector ChannelVoicing 18
  deriving DecidableEq, Repr

/-! ### Condition Unit (chapter 5) -/

/-- The eleven quantities (sections 5.1 and 5.2), in the order of their codes. -/
inductive Quantity where
  | speed | reverse | tailgate | ignition | qualA | qualB | tempBank1 | tempBank2 | supply | cabinNoise | callActive
  deriving DecidableEq, Repr

/-- A record's comparison (R76). -/
inductive Comparison where
  | atOrAbove | below | differs
  deriving DecidableEq, Repr

/-- A record's effect (section 5.3). -/
inductive Effect where
  | muteWhenTrue
  | muteWhenFalse
  | cutWhenTrue (depth : Nat)
  deriving DecidableEq, Repr

/-- A pending change: the pending result and what remains of the hold timer, in ms (R76). -/
structure PendingChange where
  result : Bool
  remaining : Nat
  deriving DecidableEq, Repr

/-- A condition record (section 5.3). `state` absent is UNSET. -/
structure Condition where
  quantity : Quantity
  comparison : Comparison
  threshold : Int
  hold : Nat
  zones : PerZone Bool
  sources : PerSource Bool
  effect : Effect
  state : Option Bool
  change : Option PendingChange
  deriving DecidableEq, Repr

/-- What the Condition Unit owns: the held value of each quantity, absent for "no value" (R71 to R73), and the sixteen
slots, absent for EMPTY. -/
structure ConditionUnit where
  values : Vector (Option Int) 11
  slots : Vector (Option Condition) 16
  deriving DecidableEq, Repr

/-! ### Signal-Sound Generator (chapter 6) -/

/-- The waveform of a segment's tone (section 6.1). -/
inductive Waveform where
  | sine | softSquare | click
  deriving DecidableEq, Repr

/-- The position of a segment (section 6.1). -/
inductive SegmentPosition where
  | left | right | both
  deriving DecidableEq, Repr

/-- A segment (section 6.1). -/
structure Segment where
  freq : Nat
  waveform : Waveform
  level : Int
  duration : Nat
  position : SegmentPosition
  gapAfter : Nat
  deriving DecidableEq, Repr

/-- A repeat count or the repeats remaining: a number, or CONTINUOUS (sections 6.3 and 6.4). -/
inductive Repeats where
  | count (n : Nat)
  | continuous
  deriving DecidableEq, Repr

/-- A defined pattern (section 6.3). -/
structure Pattern where
  first : Nat
  count : Nat
  repeats : Repeats
  repeatGap : Nat
  priority : Nat
  deriving DecidableEq, Repr

/-- The load cursor while load mode is ON (R82). -/
inductive Cursor where
  | slot (n : Nat)
  | atEnd
  deriving DecidableEq, Repr

/-- Pattern memory, the pattern table and load mode (R81 to R85). `memory` lists the slots that hold a segment, slot
numbers rising; an unlisted slot is EMPTY. `load` is the cursor, absent while load mode is OFF. -/
structure PatternStore where
  memory : List (Nat × Segment)
  table : Vector (Option Pattern) 32
  load : Option Cursor
  deriving DecidableEq, Repr

/-- An entry of the chime queue (R86). `voice` absent is QUEUED. -/
structure ChimeEntry where
  pattern : PatternId
  zones : CabinSet
  remaining : Repeats
  voice : Option VoiceId
  arrival : Nat
  rerouted : Bool
  cutShort : Bool
  reached : Nat
  /-- Whether a voice has ever taken the entry, as CHIME_ENDED reports it (R92). -/
  played : Bool
  deriving DecidableEq, Repr

/-- The phase of a playing voice (section 6.5). -/
inductive Phase where
  | tone | gap | repeatGap
  deriving DecidableEq, Repr

/-- A chime path: the zone it is attributed to (R95), its channel, and its gain, which is its target and its audible
gain alike (R65). -/
structure ChimePath where
  zone : Cabin
  chan : Chan
  gain : Int
  deriving DecidableEq, Repr

/-- A playing voice (section 6.5). `paths` are the channels chosen for the present segment (R94), `level` its level. -/
structure Voice where
  pattern : PatternId
  rep : Nat
  seg : Nat
  phase : Phase
  remaining : Nat
  start : Nat
  level : Int
  paths : List ChimePath
  deriving DecidableEq, Repr

/-- The chime queue, the two voices (absent is IDLE), and the counters that arrival and start marks are drawn from. -/
structure ChimeUnit where
  queue : List ChimeEntry
  v1 : Option Voice
  v2 : Option Voice
  nextArrival : Nat
  nextStart : Nat
  deriving DecidableEq, Repr

/-! ### Receivers (chapter 7) -/

/-- A receiver's state (R99). -/
inductive RxState where
  | idle | tuning | locked | seeking | scanning | checking
  deriving DecidableEq, Repr

/-- RX-A's tuner mute (R108). -/
inductive TunerMute where
  | off | seek | switch | blind
  deriving DecidableEq, Repr

/-- What the tune that RX-A is making, or last made, was made for: a retune (TUNE, STEP, START_AUDIO), the switch of
R125, the blind check of R126, or the return to the old index. -/
inductive TunePurpose where
  | retune | switch | blind | back
  deriving DecidableEq, Repr

/-- A seek in flight: its start index and whether its direction is UP (R106). -/
structure Seek where
  start : Nat
  up : Bool
  deriving DecidableEq, Repr

/-- A receiver's data record (section 7.6). -/
structure DataRecord where
  candidate : Option Nat
  code : Option Nat
  segments : Vector (Option (Byte × Byte)) 4
  carrier : Bool
  trafficOn : Bool
  /-- Milliseconds since the last group that carried the station code (R112). -/
  timer : Option Nat
  alternates : List Nat
  deriving DecidableEq, Repr

/-- What each receiver holds (R99). -/
structure Receiver where
  state : RxState
  station : Station
  settle : Option Nat
  qs : Option Nat
  mute : TunerMute
  record : DataRecord
  deriving DecidableEq, Repr

/-- The two receivers, RX-A's last tuned station (R100), its seek and the seek threshold (R107). -/
structure Receivers where
  a : Receiver
  b : Receiver
  lastTuned : Station
  purpose : TunePurpose
  seek : Option Seek
  threshold : Nat
  deriving DecidableEq, Repr

/-! ### Station List Manager (chapter 8) -/

/-- An entry of the station list (R115). The pins are read from RX-A and the holder (`pinA`, `pinR` in Flags.lean). -/
structure ListEntry where
  station : Station
  quality : Nat
  code : Option Nat
  name : Option Bytes
  carrier : Bool
  alternates : List Nat
  age : Nat
  seen : Bool
  deriving DecidableEq, Repr

/-- The RX-B holder (R122); REAR_LISTEN with its station. -/
inductive Holder where
  | none
  | rear (st : Station)
  | check
  | scan
  deriving DecidableEq, Repr

/-- The station list, the sweep's settings and position, its counts, and the RX-B holder. `dwell` is what remains of a
dwell in ms, absent while the position is being settled on, and `quickThreshold` the list threshold as it stood when the
latest quick measure was ordered, by which that measure is judged (R119). -/
structure StationManager where
  entries : List ListEntry
  scanning : Bool
  amScanning : Bool
  threshold : Nat
  quickThreshold : Nat
  position : Station
  dwell : Option Nat
  inserted : Nat
  completed : Nat
  holder : Holder
  deriving DecidableEq, Repr

/-- The attempt state of alternate following (section 8.4). -/
inductive AttemptState where
  | idle | low | attempt | verify | backoff
  deriving DecidableEq, Repr

/-- Alternate following (section 8.4). `timer` is what remains, in ms, of the timer of the present stage: the low timer
in LOW, the 150 ms of a check on RX-B, the second of VERIFY, the backoff. `passed` is the quality that passed the trial
of the candidate `current`. -/
structure Following where
  follow : Bool
  state : AttemptState
  timer : Option Nat
  oldIndex : Option Nat
  code : Option Nat
  current : Option Nat
  candidates : List Nat
  tried : Nat
  passed : Option Nat
  deriving DecidableEq, Repr

/-- An ACTIVE announcement: the zone set it began with, its sounding zones and its deferred zones (section 8.5). -/
structure Announcement where
  zones : CabinSet
  sounding : CabinSet
  deferred : CabinSet
  deriving DecidableEq, Repr

/-- The no-carrier note (R128). -/
structure CarrierNote where
  station : Station
  code : Nat
  deriving DecidableEq, Repr

/-- The traffic watch (section 8.5). `codeHeld` is for how many ms, up to 2000, RX-A's record has held its present
station code. -/
structure TrafficWatch where
  on : Bool
  zones : CabinSet
  announcement : Option Announcement
  bridge : Option Nat
  note : Option CarrierNote
  codeHeld : Option Nat
  deriving DecidableEq, Repr

/-! ### Call Processor (chapter 10) -/

/-- The call state (R141). -/
inductive CallState where
  | idle | ringing | active | held
  deriving DecidableEq, Repr

/-- The call route (R141). -/
inductive Route where
  | cabin
  | hp (h : Hp)
  deriving DecidableEq, Repr

/-- The mic policy (R141). -/
inductive MicPolicy where
  | driver | frontPair | allFitted
  deriving DecidableEq, Repr

/-- The canceller state (section 10.5). -/
inductive Canceller where
  | bypass | converging | converged | diverged
  deriving DecidableEq, Repr

/-- The basis of the uplink selection (R146). -/
inductive Basis where
  | route | fallback | none
  deriving DecidableEq, Repr

/-- The uplink selection: its microphones and its basis (R146). -/
structure Selection where
  mics : PerMic Bool
  basis : Basis
  deriving DecidableEq, Repr

/-- The call context (R141), with the canceller's timers (ms left) and whether the half-duplex attenuation of R150
applies. `faulty` is `true` for a microphone whose health is FAULTY. -/
structure CallContext where
  state : CallState
  route : Route
  uplinkMute : Bool
  policy : MicPolicy
  canceller : Canceller
  erle : Option Nat
  restarts : Nat
  faulty : PerMic Bool
  selection : Selection
  convergence : Option Nat
  divergence : Option Nat
  attenuated : Bool
  deriving DecidableEq, Repr

/-! ### Output Stage (chapter 11) -/

/-- An amplifier channel's state (R153). -/
inductive AmpState where
  | unused | bridged | off | diag | starting | on | limiting | faultWait | faultLatched
  deriving DecidableEq, Repr

/-- A load-test result (R153). -/
inductive LoadResult where
  | untested | ok | openLoad | shortBat | shortGnd | shortedLoad
  deriving DecidableEq, Repr

/-- The kinds of fault a record holds, in the order of their bits (R161, section 12.4). -/
inductive FaultKind where
  | overcurrentTrip | thermalShutdown | ovHold | openLoad | shortBat | shortGnd | shortedLoad | onOpenSuspect
  deriving DecidableEq, Repr

/-- An amplifier channel's record (R153); times in ms. The current limit is engaged while the trip timer runs (R155).
`causes` are the held kinds whose cause has not ended, and `thermalBank` the bank whose shutdown is the cause of
THERMAL_SHUTDOWN (R161). -/
structure AmpChannel where
  state : AmpState
  startPending : Bool
  soft : Option Nat
  trip : Option Nat
  retry : Option Nat
  restartMark : Bool
  outage : Option Nat
  openTimer : Option Nat
  result : LoadResult
  faults : List FaultKind
  causes : List FaultKind
  thermalBank : Option Bank
  deriving DecidableEq, Repr

/-- A digital output channel's state (R163). -/
inductive DoutState where
  | unused | off | on
  deriving DecidableEq, Repr

/-- A headphone driver's state (R163). -/
inductive HpDriver where
  | off | on | heldOff
  deriving DecidableEq, Repr

/-- A bank's foldback level and thermal shutdown flag (R157). -/
structure BankState where
  level : Nat
  shutdown : Bool
  deriving DecidableEq, Repr

/-- The supply state (R158). -/
inductive SupplyState where
  | normal | undervoltage | overvoltage
  deriving DecidableEq, Repr

/-- The protection mode (R156). -/
inductive ProtectionMode where
  | retry | latchOff
  deriving DecidableEq, Repr

/-- The fault holding (R156). -/
inductive FaultHolding where
  | latched | live
  deriving DecidableEq, Repr

/-- The blanking time of a load-test check (R156): 0.4, 1, 2 or 4 ms. -/
inductive Blanking where
  | ms04 | ms1 | ms2 | ms4
  deriving DecidableEq, Repr

/-- The four protection settings (R156). -/
structure Protection where
  mode : ProtectionMode
  tripMs : Nat
  holding : FaultHolding
  blanking : Blanking
  deriving DecidableEq, Repr

/-- A load test in flight (R159): the set under test, the channels still waiting, those done, the channel in DIAG, how
many of its four checks have ended, the first that registered, the blanking time it began with, and what remains of
the present check in units of 0.1 ms. -/
structure LoadTest where
  set : List Amp
  waiting : List Amp
  done : List Amp
  current : Amp
  checks : Nat
  found : Option LoadResult
  blanking : Blanking
  remaining : Nat
  deriving DecidableEq, Repr

/-- What the Output Stage owns. -/
structure OutputStage where
  amps : Vector AmpChannel 10
  douts : Vector DoutState 6
  hps : PerHp HpDriver
  bank1 : BankState
  bank2 : BankState
  supply : SupplyState
  protection : Protection
  /-- The monitor items excluded from sampling, in scan order (R162). -/
  excluded : List Item
  loadTest : Option LoadTest
  deriving DecidableEq, Repr

/-- The sensed level of the two headphone jacks, `true` for a plug sensed: the pins' own level, which a reset does not
change (R136, R137). -/
structure Pins where
  jack : PerHp Bool
  deriving DecidableEq, Repr

/-! ### The whole part -/

/-- The state of the CX16, block by block, and the queue of waiting commands, first in first out. -/
structure State where
  cp : ControlPort
  sc : Controller
  install : Install
  safety : Safety
  zr : ZoneRouter
  ge : GainEngine
  cu : ConditionUnit
  patterns : PatternStore
  chimes : ChimeUnit
  rx : Receivers
  slm : StationManager
  af : Following
  tw : TrafficWatch
  clp : CallContext
  os : OutputStage
  pins : Pins
  pending : List Instr
  deriving DecidableEq, Repr

/-! ### Power-on values -/

/-- The same value for every zone. -/
def PerZone.all {α : Type} (a : α) : PerZone α := ⟨a, a, a, a, a⟩

/-- The same value for every cabin zone. -/
def PerCabin.all {α : Type} (a : α) : PerCabin α := ⟨a, a, a⟩

/-- The same value for both headphone zones. -/
def PerHp.all {α : Type} (a : α) : PerHp α := ⟨a, a⟩

/-- The same value for every microphone. -/
def PerMic.all {α : Type} (a : α) : PerMic α := ⟨a, a, a, a⟩

/-- The same value for every source but CHIME. -/
def PerSource.all {α : Type} (a : α) : PerSource α := ⟨a, a, a, a, a, a⟩

/-- The Control Port after a power-on reset (R5, R7, R9, R10, R11). -/
def ControlPort.reset : ControlPort :=
  { reply := none, reports := [], lost := false, masked := [], attnLow := false, watchdog := .stopped }

/-- The State Controller after a power-on reset (R14). -/
def Controller.reset : Controller :=
  { opState := .boot, resetCause := .powerOn, failsafeMs := 0 }

/-- Every installation field UNSET (R22). -/
def Install.reset : Install :=
  { variant := none, ampRole := Vector.replicate 10 none, doutRole := Vector.replicate 6 none
    bridge := Vector.replicate 5 none, hpFitted := PerHp.all none, micFitted := PerMic.all none, clockRole := none }

/-- The safety configuration's power-on values (section 2.7). -/
def SafetyConfig.reset : SafetyConfig :=
  { watchdogMs := 1000, profile := PerZone.all .hold, chime := none, chimeZones := ⟨true, false, false⟩
    chimeDuck := .num 24, chimeFloor := -80, chimeCeiling := 0, chimeLift := 4, fallback := [] }

/-- UNLOCKED with the edit window CLOSED (R26, R28). -/
def Safety.reset : Safety :=
  { config := SafetyConfig.reset, locked := false, windowOpen := false }

/-- The BASE entry alone, with no source (R53). -/
def baseOnly : List Entry := [{ cls := .base, src := none, deferred := false }]

/-- The cabin settings record's power-on values (section 3.3). -/
def CabinSettings.reset : CabinSettings :=
  { base := none, volBase := 16, volCall := 24, volPrompt := 22, volTraffic := 22, balance := 0, fader := 0
    speedLift := 2, rearQuiet := none }

/-- A cabin zone's power-on values (section 3.3). -/
def CabinZone.reset : CabinZone := { mute := false, quiet := false, list := baseOnly }

/-- A headphone zone record's power-on values (section 3.3). A headphone that is not fitted reads REMOVED (R137). -/
def HpZone.reset : HpZone :=
  { base := none, volBase := 12, volCall := 20, ceiling := 30, mute := false, quiet := false, jack := false
    list := baseOnly }

/-- The Zone Router's power-on values (section 3.3, R31). -/
def ZoneRouter.reset : ZoneRouter :=
  { cabin := CabinSettings.reset, zones := PerCabin.all CabinZone.reset, hps := PerHp.all HpZone.reset
    ducks := { call := .full, prompt := .num 40, traffic := .full }, trims := PerSource.all 0
    clockLost := false, lostMs := 0 }

/-- A band record's power-on values (R67). -/
def BandRecord.reset : BandRecord := { type := .off, freq := 1000, gain := 0, q := 7 }

/-- A channel's processing at power-on (R67). -/
def Processing.reset : Processing := { delay := 0, bands := Vector.replicate 5 BandRecord.reset }

/-- A channel's voicing at power-on (R67). -/
def ChannelVoicing.reset : ChannelVoicing :=
  { record := { trim := 0, processing := Processing.reset }, written := false, trim := 0
    processing := Processing.reset, fade := none }

/-- No path, since no channel has a role, and every voicing record at its power-on values (R54, R67). -/
def GainEngine.reset : GainEngine :=
  { paths := [], voicing := Vector.replicate 18 ChannelVoicing.reset }

/-- The vehicle store at its power-on values, no internal quantity with a value, every slot EMPTY (R72, R73, R77). -/
def ConditionUnit.reset : ConditionUnit :=
  { values := #v[some 0, some 0, some 0, some 0, none, none, none, none, none, none, none]
    slots := Vector.replicate 16 none }

/-- Every slot EMPTY, every pattern UNDEFINED, load mode OFF (R98). -/
def PatternStore.reset : PatternStore :=
  { memory := [], table := Vector.replicate 32 none, load := none }

/-- The chime queue empty and both voices IDLE (R86). -/
def ChimeUnit.reset : ChimeUnit :=
  { queue := [], v1 := none, v2 := none, nextArrival := 0, nextStart := 0 }

/-- An empty data record (section 7.6). -/
def DataRecord.empty : DataRecord :=
  { candidate := none, code := none, segments := Vector.replicate 4 none, carrier := false, trafficOn := false
    timer := none, alternates := [] }

/-- A receiver's power-on and RESTART values (R99). -/
def Receiver.reset : Receiver :=
  { state := .idle, station := ⟨.fm, 0⟩, settle := none, qs := none, mute := .off, record := DataRecord.empty }

/-- The receivers after a power-on reset (R99, R100, R107). -/
def Receivers.reset : Receivers :=
  { a := Receiver.reset, b := Receiver.reset, lastTuned := ⟨.fm, 0⟩, purpose := .retune, seek := none, threshold := 45 }

/-- The station list empty, the sweep at FM 0 with its power-on settings, no holder (R115, R119, R121, R123). -/
def StationManager.reset : StationManager :=
  { entries := [], scanning := true, amScanning := false, threshold := 35, quickThreshold := 35, position := ⟨.fm, 0⟩, dwell := none
    inserted := 0, completed := 0, holder := .none }

/-- Alternate following at its power-on values (section 8.4). -/
def Following.reset : Following :=
  { follow := true, state := .idle, timer := none, oldIndex := none, code := none, current := none
    candidates := [], tried := 0, passed := none }

/-- The traffic watch at its power-on values (section 8.5). -/
def TrafficWatch.reset : TrafficWatch :=
  { on := false, zones := ⟨true, true, false⟩, announcement := none, bridge := none, note := none, codeHeld := none }

/-- The call context at its power-on values (R141). -/
def CallContext.reset : CallContext :=
  { state := .idle, route := .cabin, uplinkMute := false, policy := .frontPair, canceller := .bypass, erle := none
    restarts := 0, faulty := PerMic.all false, selection := { mics := PerMic.all false, basis := .none }
    convergence := none, divergence := none, attenuated := false }

/-- An amplifier channel's record at power-on, no role being written (R153). -/
def AmpChannel.reset : AmpChannel :=
  { state := .unused, startPending := false, soft := none, trip := none, retry := none, restartMark := false
    outage := none, openTimer := none, result := .untested, faults := [], causes := []
    thermalBank := none }

/-- The Output Stage after a power-on reset (R153, R156, R157, R158, R162, R163). -/
def OutputStage.reset : OutputStage :=
  { amps := Vector.replicate 10 AmpChannel.reset, douts := Vector.replicate 6 .unused, hps := PerHp.all .off
    bank1 := { level := 0, shutdown := false }, bank2 := { level := 0, shutdown := false }, supply := .normal
    protection := { mode := .retry, tripMs := 8, holding := .latched, blanking := .ms1 }
    excluded := [], loadTest := none }

/-- The CX16 right after a power-on reset, in BOOT (R14), with no command waiting. The sensed level of the jacks is
the pins' and not the part's; `false` is the model's choice (log 2). -/
def State.reset : State :=
  { cp := ControlPort.reset, sc := Controller.reset, install := Install.reset, safety := Safety.reset
    zr := ZoneRouter.reset, ge := GainEngine.reset, cu := ConditionUnit.reset, patterns := PatternStore.reset
    chimes := ChimeUnit.reset, rx := Receivers.reset, slm := StationManager.reset, af := Following.reset
    tw := TrafficWatch.reset, clp := CallContext.reset, os := OutputStage.reset
    pins := { jack := PerHp.all false }, pending := [] }

end Sys2Proof.Machine
end

