-- ==== Sys2Proof/Machine/Access.lean ====
section
/-! DEFINITION. Reading and writing the parts of the state: one update per block of the state, and the reads, writes and
set operations of the small families of values. -/

namespace Sys2Proof.Machine

/-! ### One update per block -/

/-- The state with its `cp` block changed by `g`. -/
def State.modCp (s : State) (g : ControlPort → ControlPort) : State := { s with cp := g s.cp }

/-- The state with its `sc` block changed by `g`. -/
def State.modSc (s : State) (g : Controller → Controller) : State := { s with sc := g s.sc }

/-- The state with its `install` block changed by `g`. -/
def State.modInstall (s : State) (g : Install → Install) : State := { s with install := g s.install }

/-- The state with its `safety` block changed by `g`. -/
def State.modSafety (s : State) (g : Safety → Safety) : State := { s with safety := g s.safety }

/-- The state with its `zr` block changed by `g`. -/
def State.modZr (s : State) (g : ZoneRouter → ZoneRouter) : State := { s with zr := g s.zr }

/-- The state with its `ge` block changed by `g`. -/
def State.modGe (s : State) (g : GainEngine → GainEngine) : State := { s with ge := g s.ge }

/-- The state with its `cu` block changed by `g`. -/
def State.modCu (s : State) (g : ConditionUnit → ConditionUnit) : State := { s with cu := g s.cu }

/-- The state with its `patterns` block changed by `g`. -/
def State.modPatterns (s : State) (g : PatternStore → PatternStore) : State := { s with patterns := g s.patterns }

/-- The state with its `chimes` block changed by `g`. -/
def State.modChimes (s : State) (g : ChimeUnit → ChimeUnit) : State := { s with chimes := g s.chimes }

/-- The state with its `rx` block changed by `g`. -/
def State.modRx (s : State) (g : Receivers → Receivers) : State := { s with rx := g s.rx }

/-- The state with its `slm` block changed by `g`. -/
def State.modSlm (s : State) (g : StationManager → StationManager) : State := { s with slm := g s.slm }

/-- The state with its `af` block changed by `g`. -/
def State.modAf (s : State) (g : Following → Following) : State := { s with af := g s.af }

/-- The state with its `tw` block changed by `g`. -/
def State.modTw (s : State) (g : TrafficWatch → TrafficWatch) : State := { s with tw := g s.tw }

/-- The state with its `clp` block changed by `g`. -/
def State.modClp (s : State) (g : CallContext → CallContext) : State := { s with clp := g s.clp }

/-- The state with its `os` block changed by `g`. -/
def State.modOs (s : State) (g : OutputStage → OutputStage) : State := { s with os := g s.os }

/-- The state with its `pins` block changed by `g`. -/
def State.modPins (s : State) (g : Pins → Pins) : State := { s with pins := g s.pins }

/-- The state with another queue of waiting commands. -/
def State.setPending (s : State) (q : List Instr) : State := { s with pending := q }

/-! ### Families -/

/-- The cabin zones in the order of their codes. -/
def Cabin.all : List Cabin := [.front, .rear, .load]

/-- The headphone zones in the order of their codes. -/
def Hp.all : List Hp := [.hpl, .hpr]

/-- The zones in the order of their codes (section 12.4). -/
def Zone.all : List Zone := [.cabin .front, .cabin .rear, .cabin .load, .hp .hpl, .hp .hpr]

/-- The microphones in the order MIC1 to MIC4 (R145). -/
def Mic.all : List Mic := [.fl, .fr, .rl, .rr]

/-- The amplifier channels in order. -/
def Amp.all : List Amp := [0, 1, 2, 3, 4, 5, 6, 7, 8, 9]

/-- The digital output channels in order. -/
def Dout.all : List Dout := [0, 1, 2, 3, 4, 5]

/-- The output channels in the order of their codes (section 12.4). -/
def Chan.all : List Chan := Amp.all.map .amp ++ Dout.all.map .dout ++ Hp.all.map .hp

/-- The amplifier and digital channels, which take roles (section 2.6), in the order of their codes. -/
def Chan.roled : List Chan := Amp.all.map .amp ++ Dout.all.map .dout

/-- The other headphone zone. -/
def Hp.other : Hp → Hp
  | .hpl => .hpr
  | .hpr => .hpl

/-- A zone's value. -/
def PerZone.get {α : Type} (p : PerZone α) : Zone → α
  | .cabin .front => p.front
  | .cabin .rear => p.rear
  | .cabin .load => p.load
  | .hp .hpl => p.hpl
  | .hp .hpr => p.hpr

/-- A zone's value replaced. -/
def PerZone.set {α : Type} (p : PerZone α) (z : Zone) (a : α) : PerZone α :=
  match z with
  | .cabin .front => { p with front := a }
  | .cabin .rear => { p with rear := a }
  | .cabin .load => { p with load := a }
  | .hp .hpl => { p with hpl := a }
  | .hp .hpr => { p with hpr := a }

/-- A cabin zone's value. -/
def PerCabin.get {α : Type} (p : PerCabin α) : Cabin → α
  | .front => p.front
  | .rear => p.rear
  | .load => p.load

/-- A cabin zone's value replaced. -/
def PerCabin.set {α : Type} (p : PerCabin α) (c : Cabin) (a : α) : PerCabin α :=
  match c with
  | .front => { p with front := a }
  | .rear => { p with rear := a }
  | .load => { p with load := a }

/-- A headphone zone's value. -/
def PerHp.get {α : Type} (p : PerHp α) : Hp → α
  | .hpl => p.hpl
  | .hpr => p.hpr

/-- A headphone zone's value replaced. -/
def PerHp.set {α : Type} (p : PerHp α) (h : Hp) (a : α) : PerHp α :=
  match h with
  | .hpl => { p with hpl := a }
  | .hpr => { p with hpr := a }

/-- A microphone's value. -/
def PerMic.get {α : Type} (p : PerMic α) : Mic → α
  | .fl => p.fl
  | .fr => p.fr
  | .rl => p.rl
  | .rr => p.rr

/-- A microphone's value replaced. -/
def PerMic.set {α : Type} (p : PerMic α) (m : Mic) (a : α) : PerMic α :=
  match m with
  | .fl => { p with fl := a }
  | .fr => { p with fr := a }
  | .rl => { p with rl := a }
  | .rr => { p with rr := a }

/-- The value each microphone gets from `f`. -/
def PerMic.tabulate {α : Type} (f : Mic → α) : PerMic α := ⟨f .fl, f .fr, f .rl, f .rr⟩

/-- A source's value; CHIME, which no such family covers, reads as the default given. -/
def PerSource.get {α : Type} (p : PerSource α) (dflt : α) : Source → α
  | .fgt => p.fgt
  | .bgt => p.bgt
  | .meda => p.meda
  | .medb => p.medb
  | .call => p.call
  | .prompt => p.prompt
  | .chime => dflt

/-- A source's value replaced; CHIME has none. -/
def PerSource.set {α : Type} (p : PerSource α) (x : Source) (a : α) : PerSource α :=
  match x with
  | .fgt => { p with fgt := a }
  | .bgt => { p with bgt := a }
  | .meda => { p with meda := a }
  | .medb => { p with medb := a }
  | .call => { p with call := a }
  | .prompt => { p with prompt := a }
  | .chime => p

/-! ### Sets of cabin zones -/

/-- The set of the cabin zones for which `f` holds. -/
def cabinSet (f : Cabin → Bool) : CabinSet := ⟨f .front, f .rear, f .load⟩

/-- The zones of a set, in the order of their codes. -/
def CabinSet.toList (z : CabinSet) : List Cabin := Cabin.all.filter z.get

/-- Whether a set names no zone. -/
def CabinSet.isEmpty (z : CabinSet) : Bool := !z.front && !z.rear && !z.load

/-- The union of two sets. -/
def CabinSet.union (y z : CabinSet) : CabinSet := cabinSet (fun c => y.get c || z.get c)

/-- The zones of the first set that are not in the second. -/
def CabinSet.minus (y z : CabinSet) : CabinSet := cabinSet (fun c => y.get c && !z.get c)

/-- The empty set. -/
def CabinSet.none : CabinSet := ⟨false, false, false⟩

/-! ### Sets of fault kinds -/

/-- The fault kinds in the order of their bits (section 12.4). -/
def FaultKind.all : List FaultKind :=
  [.overcurrentTrip, .thermalShutdown, .ovHold, .openLoad, .shortBat, .shortGnd, .shortedLoad, .onOpenSuspect]

/-- A fault-kind set with one kind added, held once and in the order of the bits (R161). -/
def faultInsert (k : FaultKind) (l : List FaultKind) : List FaultKind :=
  FaultKind.all.filter (fun x => x == k || l.contains x)

/-- A fault-kind set without one kind. -/
def faultRemove (k : FaultKind) (l : List FaultKind) : List FaultKind := l.filter (fun x => x != k)

end Sys2Proof.Machine
end

