-- ==== Sys2Proof/Machine/Codes.lean ====
section
/-! DEFINITION. The wire encodings of R164 and section 12.4: how numbers, marks, sets and enumerated values are carried,
the reply frame of R4, and the body lengths each request kind allows (R2 check 6). -/

namespace Sys2Proof.Machine

/-! ### Numbers -/

/-- A number in one byte. -/
def u8 (n : Nat) : Bytes := [BitVec.ofNat 8 n]

/-- A number in two bytes, most significant byte first. -/
def u16 (n : Nat) : Bytes := [BitVec.ofNat 8 (n / 256), BitVec.ofNat 8 n]

/-- A signed number in one byte, in two's complement. -/
def s8 (q : Int) : Bytes := [BitVec.ofInt 8 q]

/-- A signed number in two bytes, in two's complement, most significant byte first. -/
def s16 (q : Int) : Bytes := u16 (q % 65536).toNat

/-- A two-valued field: OFF, NO, CLEAR, UNLOCKED 0; ON, YES, SET, LOCKED 1. -/
def bit (b : Bool) : Bytes := u8 b.toNat

/-- The mark of absence in a one-byte field. -/
def mark8 : Nat := 255

/-- The mark of absence in a two-byte field. -/
def mark16 : Nat := 0x7FFF

/-- A one-byte field that may be absent. -/
def opt8 (o : Option Nat) : Bytes := u8 (o.getD mark8)

/-- A two-byte field of the full range that may be absent: a byte that says whether it is present, then the field. -/
def codeField (o : Option Nat) : Bytes := bit o.isSome ++ u16 (o.getD 0)

/-- The number two bytes carry. -/
def nat16 (hi lo : Byte) : Nat := hi.toNat * 256 + lo.toNat

/-- The signed number two bytes carry. -/
def int16 (hi lo : Byte) : Int := (hi ++ lo : BitVec 16).toInt

/-- A set of bits as the number whose bit `n` is the `n`-th of the list. -/
def bitsOf : List Bool → Nat
  | [] => 0
  | b :: bs => b.toNat + 2 * bitsOf bs

/-- Limits a number to a range (00_scope, section 6.1). -/
def clampNat (x lo hi : Nat) : Nat := min (max x lo) hi

/-- Limits a signed number to a range (00_scope, section 6.1). -/
def clampInt (x lo hi : Int) : Int := min (max x lo) hi

/-! ### Codes of enumerated values (section 12.4) -/

/-- The status codes, OK 0x00 to CONFLICT 0x13. -/
def Status.code : Status → Nat
  | .ok => 0
  | .frameError => 1
  | .unknownKind => 2
  | .badLength => 3
  | .outOfRange => 4
  | .wrongState => 5
  | .locked => 6
  | .editClosed => 7
  | .alreadySet => 8
  | .notInstalled => 9
  | .notLocked => 10
  | .notFitted => 11
  | .busy => 12
  | .queueFull => 13
  | .noReceiver => 14
  | .badTransition => 15
  | .badPattern => 16
  | .badSafety => 17
  | .cursorEnd => 18
  | .conflict => 19

/-- The report kinds, PART_READY 0x01 to CHANNEL_RECOVERED 0x24. -/
def ReportKind.code : ReportKind → Nat
  | .partReady => 1
  | .failsafeEntered => 2
  | .failsafeLeft => 3
  | .clockLost => 4
  | .clockRestored => 5
  | .zoneState => 6
  | .conditionChanged => 7
  | .chimeEnded => 8
  | .chimeDropped => 9
  | .chimeRerouted => 10
  | .tuneDone => 11
  | .seekDone => 12
  | .seekFailed => 13
  | .seekAborted => 14
  | .stationData => 15
  | .stationListChanged => 16
  | .rxBHolder => 17
  | .scanDone => 18
  | .afSwitched => 19
  | .afReverted => 20
  | .afFailed => 21
  | .trafficNoCarrier => 22
  | .trafficStarted => 23
  | .trafficDeferred => 24
  | .trafficEnded => 25
  | .headphonePlug => 26
  | .headphoneShort => 27
  | .aecState => 28
  | .callRouteChanged => 29
  | .micFault => 30
  | .thermalLevel => 31
  | .supplyState => 32
  | .loadTestDone => 33
  | .onOpenSuspect => 34
  | .channelFault => 35
  | .channelRecovered => 36

/-- The report kinds in the order of their codes. -/
def ReportKind.all : List ReportKind :=
  [.partReady, .failsafeEntered, .failsafeLeft, .clockLost, .clockRestored, .zoneState,
   .conditionChanged, .chimeEnded, .chimeDropped, .chimeRerouted, .tuneDone, .seekDone,
   .seekFailed, .seekAborted, .stationData, .stationListChanged, .rxBHolder, .scanDone,
   .afSwitched, .afReverted, .afFailed, .trafficNoCarrier, .trafficStarted, .trafficDeferred,
   .trafficEnded, .headphonePlug, .headphoneShort, .aecState, .callRouteChanged, .micFault,
   .thermalLevel, .supplyState, .loadTestDone, .onOpenSuspect, .channelFault, .channelRecovered]

/-- Operating state. -/
def OpState.code : OpState → Nat
  | .boot => 0
  | .config => 1
  | .run => 2
  | .failsafe => 3
  | .standby => 4

/-- Reset cause. -/
def ResetCause.code : ResetCause → Nat
  | .powerOn => 0
  | .restart => 1

/-- Band. -/
def bandCode : Band → Nat
  | .fm => 0
  | .am => 1

/-- Source. -/
def Source.code : Source → Nat
  | .fgt => 0
  | .bgt => 1
  | .meda => 2
  | .medb => 3
  | .call => 4
  | .prompt => 5
  | .chime => 6

/-- Channel role position. -/
def Position.code : Position → Nat
  | .left => 0
  | .right => 1
  | .centre => 2
  | .sub => 3

/-- Waveform. -/
def Waveform.code : Waveform → Nat
  | .sine => 0
  | .softSquare => 1
  | .click => 2

/-- Segment position. -/
def SegmentPosition.code : SegmentPosition → Nat
  | .left => 0
  | .right => 1
  | .both => 2

/-- Quantity. -/
def Quantity.code : Quantity → Nat
  | .speed => 0
  | .reverse => 1
  | .tailgate => 2
  | .ignition => 3
  | .qualA => 4
  | .qualB => 5
  | .tempBank1 => 6
  | .tempBank2 => 7
  | .supply => 8
  | .cabinNoise => 9
  | .callActive => 10

/-- Comparison. -/
def Comparison.code : Comparison → Nat
  | .atOrAbove => 0
  | .below => 1
  | .differs => 2

/-- Equaliser band type. -/
def BandType.code : BandType → Nat
  | .off => 0
  | .peak => 1
  | .lowShelf => 2
  | .highShelf => 3

/-- Call state. -/
def CallState.code : CallState → Nat
  | .idle => 0
  | .ringing => 1
  | .active => 2
  | .held => 3

/-- Fail-safe profile. -/
def Profile.code : Profile → Nat
  | .hold => 0
  | .quiet => 1

/-- Clock role. -/
def ClockRole.code : ClockRole → Nat
  | .follower => 0
  | .leader => 1

/-- Mic policy. -/
def MicPolicy.code : MicPolicy → Nat
  | .driver => 0
  | .frontPair => 1
  | .allFitted => 2

/-- Canceller state. -/
def Canceller.code : Canceller → Nat
  | .bypass => 0
  | .converging => 1
  | .converged => 2
  | .diverged => 3

/-- Protection mode. -/
def ProtectionMode.code : ProtectionMode → Nat
  | .retry => 0
  | .latchOff => 1

/-- Fault holding. -/
def FaultHolding.code : FaultHolding → Nat
  | .latched => 0
  | .live => 1

/-- Blanking time. -/
def Blanking.code : Blanking → Nat
  | .ms04 => 0
  | .ms1 => 1
  | .ms2 => 2
  | .ms4 => 3

/-- Channel state of an amplifier. -/
def AmpState.code : AmpState → Nat
  | .unused => 0
  | .bridged => 1
  | .off => 2
  | .diag => 3
  | .starting => 4
  | .on => 5
  | .limiting => 6
  | .faultWait => 7
  | .faultLatched => 8

/-- Load-test result. -/
def LoadResult.code : LoadResult → Nat
  | .untested => 0
  | .ok => 1
  | .openLoad => 2
  | .shortBat => 3
  | .shortGnd => 4
  | .shortedLoad => 5

/-- Supply state. -/
def SupplyState.code : SupplyState → Nat
  | .normal => 0
  | .undervoltage => 1
  | .overvoltage => 2

/-- Class: its priority number, CHIME 1 to BASE 5. -/
def Class.code : Class → Nat
  | .chime => 1
  | .call => 2
  | .prompt => 3
  | .traffic => 4
  | .base => 5

/-- Channel state of a digital output. -/
def DoutState.code : DoutState → Nat
  | .unused => 0
  | .off => 2
  | .on => 5

/-- Channel state of a headphone driver. -/
def HpDriver.code : HpDriver → Nat
  | .off => 2
  | .on => 5
  | .heldOff => 9

/-- Zone: FRONT 0, REAR 1, LOAD 2, HPL 3, HPR 4. -/
def zoneCode : Zone → Nat
  | .cabin .front => 0
  | .cabin .rear => 1
  | .cabin .load => 2
  | .hp .hpl => 3
  | .hp .hpr => 4

/-- Channel: AMP1 to AMP10 are 1 to 10, DOUT1 to DOUT6 11 to 16, HPL 17, HPR 18. -/
def chanCode : Chan → Nat
  | .amp k => k.val + 1
  | .dout k => k.val + 11
  | .hp .hpl => 17
  | .hp .hpr => 18

/-- Route: CABIN 0, HPL 1, HPR 2. -/
def Route.code : Route → Nat
  | .cabin => 0
  | .hp .hpl => 1
  | .hp .hpr => 2

/-- Effect; the depth of CUT_WHEN_TRUE is a field of its own. -/
def Effect.code : Effect → Nat
  | .muteWhenTrue => 0
  | .muteWhenFalse => 1
  | .cutWhenTrue _ => 2

/-- Uplink selection basis. -/
def Basis.code : Basis → Nat
  | .route => 0
  | .fallback => 1
  | .none => 255

/-- RX-B holder. -/
def Holder.code : Holder → Nat
  | .rear _ => 0
  | .check => 1
  | .scan => 2
  | .none => 255

/-- Condition state: EMPTY 0, UNSET 1, TRUE 2, FALSE 3. -/
def conditionStateCode : Option Condition → Nat
  | none => 0
  | some r =>
    match r.state with
    | none => 1
    | some true => 2
    | some false => 3

/-- A fault kind by itself, as CHANNEL_FAULT names it. DEDUCED (log 4): the number of its bit in the fault-kind set. -/
def FaultKind.code : FaultKind → Nat
  | .overcurrentTrip => 0
  | .thermalShutdown => 1
  | .ovHold => 2
  | .openLoad => 3
  | .shortBat => 4
  | .shortGnd => 5
  | .shortedLoad => 6
  | .onOpenSuspect => 7

/-! ### Fields made of them -/

/-- A source, or NONE. -/
def sourceField (s : Option Source) : Bytes := opt8 (s.map Source.code)

/-- A depth: a number, or FULL as 255. -/
def depthField : Depth → Bytes
  | .full => u8 255
  | .num d => u8 d

/-- The rear-quiet setting: ON or OFF, then the depth, 0 with OFF. -/
def rearQuietField : Option Depth → Bytes
  | none => u8 0 ++ u8 0
  | some d => u8 1 ++ depthField d

/-- A channel role in two bytes: the zone code, then the position code; UNUSED is 254 in both, UNSET the two-byte
mark. -/
def roleField : Option Role → Bytes
  | none => u16 mark16
  | some .unused => u8 254 ++ u8 254
  | some (.zone c p) => u8 (zoneCode (.cabin c)) ++ u8 p.code

/-- A set of cabin zones as a zone set. -/
def cabinSetField (z : CabinSet) : Bytes := u8 (bitsOf [z.front, z.rear, z.load])

/-- A zone set. -/
def zoneSetField (z : PerZone Bool) : Bytes := u8 (bitsOf [z.front, z.rear, z.load, z.hpl, z.hpr])

/-- A source set. -/
def sourceSetField (z : PerSource Bool) : Bytes := u8 (bitsOf [z.fgt, z.bgt, z.meda, z.medb, z.call, z.prompt])

/-- A set of microphones, bit 0 for MIC1. DEDUCED (log 4): no set of microphones is laid out in section 12.4. -/
def micSetField (z : PerMic Bool) : Bytes := u8 (bitsOf [z.fl, z.fr, z.rl, z.rr])

/-- A fault-kind set. -/
def faultSetField (l : List FaultKind) : Bytes := u8 (bitsOf (FaultKind.all.map l.contains))

/-- A band and an index. -/
def stationField (st : Station) : Bytes := u8 (bandCode st.band) ++ u16 st.index

/-- A report's ten data bytes: its fields, then padding of 0x00 (R164). -/
def reportData (fields : Bytes) : Bytes := (fields ++ List.replicate 10 0#8).take 10

/-- The report-kind set of SET_REPORT_MASK, five bytes: bit k, from bit 0 of byte 0, names report kind k (section
12.3). -/
def maskField (masked : List ReportKind) : Bytes :=
  (List.range 5).map fun j =>
    BitVec.ofNat 8 (bitsOf ((List.range 8).map fun i => masked.any (fun k => k.code == 8 * j + i)))

/-- The place of a monitor item in the scan order of R162, from 0. -/
def itemPlace : Item → Nat
  | .amp k => k.val
  | .bank .b1 => 10
  | .bank .b2 => 11
  | .supply => 12
  | .mic .fl => 13
  | .mic .fr => 14
  | .mic .rl => 15
  | .mic .rr => 16
  | .hp .hpl => 17
  | .hp .hpr => 18

/-- The items of the monitor scan in scan order (R162). -/
def Item.all : List Item :=
  Amp.all.map .amp ++ ([.bank .b1, .bank .b2, .supply] ++ (Mic.all.map .mic ++ Hp.all.map .hp))

/-- The monitor item set of SET_MONITOR, three bytes, most significant byte first. -/
def itemSetField (l : List Item) : Bytes :=
  let n := bitsOf (Item.all.map l.contains)
  u8 (n / 65536) ++ u16 (n % 65536)

/-- The AMP channel set of LOAD_TEST and LOAD_TEST_DONE, two bytes, bit k - 1 for AMPk. -/
def ampSetField (l : List Amp) : Bytes := u16 (bitsOf (Amp.all.map l.contains))

/-- A repeat count as DEFINE_PATTERN carries it: less one, 255 for CONTINUOUS. -/
def repeatsField : Repeats → Bytes
  | .count n => u8 (n - 1)
  | .continuous => u8 255

/-! ### Frames the part sends -/

/-- The reply SYNC value (R4). -/
def replySync : Byte := 0x5A#8

/-- A frame of the part: SYNC, kind, status, body length, body, padding and check byte (R4). -/
def frameOf (kind : Byte) (status : Status) (body : Bytes) : Bytes :=
  let front := [replySync, kind, BitVec.ofNat 8 status.code, BitVec.ofNat 8 body.length] ++ body
  let filled := front ++ List.replicate (63 - front.length) 0#8
  filled ++ [checkByte filled]

/-- The frame that the next transfer sends: the pending reply, or the idle reply while it is EMPTY (R4, R5). -/
def ControlPort.sends (cp : ControlPort) : Bytes :=
  match cp.reply with
  | none => frameOf 0#8 .ok []
  | some r => frameOf r.kind r.status r.body

/-- The byte sent against the `n`-th byte received in one transfer, from 0: after the 64th, 0x00 (R1). -/
def ControlPort.sentByte (cp : ControlPort) (n : Nat) : Byte := cp.sends.getD n 0#8

/-- A report record of twelve bytes (section 12.3). -/
def reportRecord (r : Report) : Bytes := u8 r.kind.code ++ (u8 r.subject ++ r.data)

/-! ### Body lengths -/

/-- R2 check 6: whether a body has a length its kind allows, by the order of the fields its owning rule names (R164).
SET_SAFETY allows 3 bytes, and 2 to 6 for the fallback list, whose field code is 12; the count that the list carries is not
part of this check (log 6). -/
def lengthAllowed (k : Kind) (body : Bytes) : Bool :=
  let n := body.length
  match k with
  | .poll | .fetchReports | .getPartState | .getInstall | .openSafetyEdit | .lockSafety | .startAudio | .standby
  | .wake | .restart | .scanNow | .trafficSkip | .getFaults => n == 0
  | .setSpeedLift | .getZone | .promptStart | .promptEnd | .chimeCancel | .step | .seek | .setReception | .setFollow
  | .callState | .callRoute | .setUplinkMute | .setMicPolicy | .retryChannel | .clearFault => n == 1
  | .selectSource | .setMute | .setBalanceFader | .setSourceTrim | .setClassDuck | .setRearQuiet | .patternLoad
  | .chimeRequest | .setTrafficWatch | .setRearCeiling | .loadTest => n == 2
  | .setInstall | .setVolume | .tune | .setScan | .setMonitor => n == 3
  | .getStation | .setProtection => n == 4
  | .setReportMask | .vehicleState | .rearTune => n == 5
  | .definePattern => n == 9
  | .setCondition => n == 12
  | .setVoicing => n == 28
  | .patternSegment => n == 10 || n == 20 || n == 30 || n == 40 || n == 50
  | .setSafety =>
    if body.head? = some 12#8 then decide (2 ≤ n) && decide (n ≤ 6) else n == 3

end Sys2Proof.Machine
end

