-- ==== Sys2Proof/Machine/Operands.lean ====
section
/-! DEFINITION. The operand forms of the requests: what each byte or pair of bytes of a body stands for by R164 and the
layouts of sections 12.3 and 12.4. A reader answers none for a value outside its set, which the owning rule refuses with
OUT_OF_RANGE; numeric fields are read as they are and clamped by their owning rules. -/

namespace Sys2Proof.Machine

/-! ### Bands and their grids (R100) -/

/-- The highest index of a band. -/
def topIndex : Band → Nat
  | .fm => 410
  | .am => 119

/-- The settle time of a band, in ms. -/
def settleMs : Band → Nat
  | .fm => 20
  | .am => 40

/-- Whether a station's index lies on its band's grid. -/
def Station.inGrid (st : Station) : Bool := decide (st.index ≤ topIndex st.band)

/-! ### One-byte operands -/

/-- The member of `l` whose code a byte is. -/
def ofCode {α : Type} (l : List α) (code : α → Nat) (b : Byte) : Option α := l.find? (fun a => code a == b.toNat)

/-- A zone. -/
def readZone (b : Byte) : Option Zone := ofCode Zone.all zoneCode b

/-- A headphone zone, by its zone code. -/
def readHpZone (b : Byte) : Option Hp := ofCode Hp.all (fun h => zoneCode (.hp h)) b

/-- A source, NONE not allowed. -/
def readSource (b : Byte) : Option Source :=
  ofCode [.fgt, .bgt, .meda, .medb, .call, .prompt, .chime] Source.code b

/-- A source or NONE. -/
def readSourceOrNone (b : Byte) : Option (Option Source) :=
  if b.toNat = mark8 then some none else (readSource b).map some

/-- A class. -/
def readClass (b : Byte) : Option Class := ofCode [.chime, .call, .prompt, .traffic, .base] Class.code b

/-- A two-valued field. -/
def readBit (b : Byte) : Option Bool := ofCode [false, true] Bool.toNat b

/-- A band. -/
def readBand (b : Byte) : Option Band := ofCode [.fm, .am] bandCode b

/-- A non-empty set of cabin zones; a bit of another zone, or of none, is out of the set. -/
def readCabinSet (b : Byte) : Option CabinSet :=
  if 0 < b.toNat ∧ b.toNat < 8 then some ⟨b.getLsbD 0, b.getLsbD 1, b.getLsbD 2⟩ else none

/-- A zone set, empty included. -/
def readZoneSet (b : Byte) : Option (PerZone Bool) :=
  if b.toNat < 32 then some ⟨b.getLsbD 0, b.getLsbD 1, b.getLsbD 2, b.getLsbD 3, b.getLsbD 4⟩ else none

/-- A source set without CHIME, empty included; bit 6 is the CHIME refusal of R74. -/
def readSourceSet (b : Byte) : Option (PerSource Bool) :=
  if b.toNat < 64 then
    some ⟨b.getLsbD 0, b.getLsbD 1, b.getLsbD 2, b.getLsbD 3, b.getLsbD 4, b.getLsbD 5⟩
  else none

/-- A depth that may be FULL; a number is clamped to 0 to 240 (R42, R164). -/
def readDepth (n : Nat) : Depth := if n = 255 then .full else .num (min n 240)

/-- An output channel. -/
def readChan (b : Byte) : Option Chan := ofCode Chan.all chanCode b

/-- A channel that takes a role. -/
def readRoledChan (b : Byte) : Option Chan := ofCode Chan.roled chanCode b

/-- An amplifier channel. -/
def readAmp (b : Byte) : Option Amp := ofCode Amp.all (fun k => chanCode (.amp k)) b

/-- A headphone driver, by its channel code. -/
def readHpChan (b : Byte) : Option Hp := ofCode Hp.all (fun h => chanCode (.hp h)) b

/-- A call state. -/
def readCallState (b : Byte) : Option CallState := ofCode [.idle, .ringing, .active, .held] CallState.code b

/-- A route. -/
def readRoute (b : Byte) : Option Route := ofCode [.cabin, .hp .hpl, .hp .hpr] Route.code b

/-- A mic policy. -/
def readMicPolicy (b : Byte) : Option MicPolicy := ofCode [.driver, .frontPair, .allFitted] MicPolicy.code b

/-- A quantity. -/
def readQuantity (b : Byte) : Option Quantity :=
  ofCode [.speed, .reverse, .tailgate, .ignition, .qualA, .qualB, .tempBank1, .tempBank2, .supply, .cabinNoise,
    .callActive] Quantity.code b

/-- A comparison. -/
def readComparison (b : Byte) : Option Comparison := ofCode [.atOrAbove, .below, .differs] Comparison.code b

/-- An effect, with the depth byte that follows it: clamped to 1 to 240, and ignored with a MUTE effect (R74). -/
def readEffect (b depth : Byte) : Option Effect :=
  ofCode [.muteWhenTrue, .muteWhenFalse, .cutWhenTrue (clampNat depth.toNat 1 240)] Effect.code b

/-- An equaliser band type. -/
def readBandType (b : Byte) : Option BandType := ofCode [.off, .peak, .lowShelf, .highShelf] BandType.code b

/-- A waveform. -/
def readWaveform (b : Byte) : Option Waveform := ofCode [.sine, .softSquare, .click] Waveform.code b

/-- A segment position. -/
def readSegmentPosition (b : Byte) : Option SegmentPosition := ofCode [.left, .right, .both] SegmentPosition.code b

/-- A protection mode. -/
def readProtectionMode (b : Byte) : Option ProtectionMode := ofCode [.retry, .latchOff] ProtectionMode.code b

/-- A fault holding. -/
def readFaultHolding (b : Byte) : Option FaultHolding := ofCode [.latched, .live] FaultHolding.code b

/-- A blanking time. -/
def readBlanking (b : Byte) : Option Blanking := ofCode [.ms04, .ms1, .ms2, .ms4] Blanking.code b

/-- A pattern id. -/
def readPattern (b : Byte) : Option PatternId := if h : b.toNat < 32 then some ⟨b.toNat, h⟩ else none

/-- A repeat field of DEFINE_PATTERN: a count less one, or CONTINUOUS; 16 to 254 are out of the set (section 12.3). -/
def readRepeats (b : Byte) : Option Repeats :=
  if b.toNat = 255 then some .continuous
  else if b.toNat < 16 then some (.count (b.toNat + 1))
  else none

/-! ### Operands of several bytes -/

/-- A station given as a band and an index of its grid. -/
def readStation (band hi lo : Byte) : Option Station :=
  match readBand band with
  | none => none
  | some bd => if nat16 hi lo ≤ topIndex bd then some ⟨bd, nat16 hi lo⟩ else none

/-- How a request names a station: by a position in the station list or by band and index (section 12.3, R132). -/
inductive StationName where
  | position (n : Nat)
  | station (st : Station)
  deriving DecidableEq, Repr

/-- The selector byte and three bytes by which GET_STATION and REAR_TUNE name a station. With a position the last two bytes
are not read, whatever they hold (DESIGN CHOICE, log 21). -/
def readStationName (sel x hi lo : Byte) : Option StationName :=
  if sel = 0#8 then some (.position x.toNat)
  else if sel = 1#8 then (readStation x hi lo).map .station
  else none

/-- The report-kind set of SET_REPORT_MASK: none when a bit names no report kind (R9, section 12.3). -/
def readMask (bytes : Bytes) : Option (List ReportKind) :=
  let bitAt (k : Nat) : Bool := (bytes.getD (k / 8) 0#8).getLsbD (k % 8)
  if bitAt 0 || bitAt 37 || bitAt 38 || bitAt 39 then none
  else some (ReportKind.all.filter (fun r => bitAt r.code))

/-- The AMP channel set of LOAD_TEST, in ascending order: none when it is empty or a bit names no amplifier (R159). -/
def readAmpSet (hi lo : Byte) : Option (List Amp) :=
  let n := nat16 hi lo
  if n = 0 ∨ 1024 ≤ n then none else some (Amp.all.filter (fun k => n.testBit k.val))

/-- The item set of SET_MONITOR, in scan order: none when a bit names no item, a temperature or the supply (R162). -/
def readItemSet (b2 b1 b0 : Byte) : Option (List Item) :=
  let n := b2.toNat * 65536 + nat16 b1 b0
  let l := Item.all.filter (fun i => n.testBit (itemPlace i))
  if 524288 ≤ n ∨ l.contains (.bank .b1) ∨ l.contains (.bank .b2) ∨ l.contains .supply then none else some l

/-- One band record of a voicing record, its numeric fields clamped (R68). -/
def readBandRecord (type hi lo gain q : Byte) : Option BandRecord :=
  (readBandType type).map fun t =>
    { type := t, freq := clampNat (nat16 hi lo) 20 20000, gain := clampInt gain.toInt (-48) 48
      q := clampNat q.toNat 3 80 }

/-- The five band records of SET_VOICING. -/
def readBands (bytes : Bytes) : Option (Vector BandRecord 5) :=
  let one (j : Nat) : Option BandRecord :=
    readBandRecord (bytes.getD (5 * j) 0#8) (bytes.getD (5 * j + 1) 0#8) (bytes.getD (5 * j + 2) 0#8)
      (bytes.getD (5 * j + 3) 0#8) (bytes.getD (5 * j + 4) 0#8)
  match one 0, one 1, one 2, one 3, one 4 with
  | some a, some b, some c, some d, some e => some #v[a, b, c, d, e]
  | _, _, _, _, _ => none

/-- A band record as a voicing record carries it (section 12.3). -/
def bandRecordField (r : BandRecord) : Bytes := u8 r.type.code ++ (u16 r.freq ++ (s8 r.gain ++ u8 r.q))

/-- A voicing record of a channel, 28 bytes (section 12.3). -/
def voicingField (c : Chan) (v : Voicing) : Bytes :=
  u8 (chanCode c) ++ (u8 v.processing.delay ++ (s8 v.trim ++ (v.processing.bands.toList.map bandRecordField).flatten))

/-- One pattern segment of ten bytes, its numeric fields clamped (R83): none when its waveform or position is outside
its set. -/
def readSegment (bytes : Bytes) : Option Segment :=
  match bytes with
  | [f1, f0, w, l1, l0, d1, d0, p, g1, g0] =>
    match readWaveform w, readSegmentPosition p with
    | some wf, some pos =>
      some { freq := clampNat (nat16 f1 f0) 100 8000, waveform := wf, level := clampInt (int16 l1 l0) (-160) 0
             duration := clampNat (nat16 d1 d0) 1 2000, position := pos, gapAfter := min (nat16 g1 g0) 2000 }
    | _, _ => none
  | _ => none

/-- The segments of a PATTERN_SEGMENT body, `n` of them, in order. -/
def readSegments : Nat → Bytes → Option (List Segment)
  | 0, _ => some []
  | n + 1, bytes =>
    match readSegment (bytes.take 10), readSegments n (bytes.drop 10) with
    | some g, some gs => some (g :: gs)
    | _, _ => none

/-! ### Installation and safety fields (section 12.4) -/

/-- A field of the installation record (section 2.6). -/
inductive InstallField where
  | variant
  | ampRole (k : Amp)
  | doutRole (k : Dout)
  | bridge (p : Fin 5)
  | hpFitted (h : Hp)
  | micFitted (m : Mic)
  | clockRole
  deriving DecidableEq, Repr

/-- The field a SET_INSTALL field code names. -/
def readInstallField (b : Byte) : Option InstallField :=
  let n := b.toNat
  if n = 0 then some .variant
  else if h : n < 11 then some (.ampRole ⟨n - 1, by omega⟩)
  else if h : n < 17 then some (.doutRole ⟨n - 11, by omega⟩)
  else if h : n < 22 then some (.bridge ⟨n - 17, by omega⟩)
  else if n = 22 then some (.hpFitted .hpl)
  else if n = 23 then some (.hpFitted .hpr)
  else if n = 24 then some (.micFitted .fl)
  else if n = 25 then some (.micFitted .fr)
  else if n = 26 then some (.micFitted .rl)
  else if n = 27 then some (.micFitted .rr)
  else if n = 28 then some .clockRole
  else none

/-- A value for an installation field. -/
inductive InstallValue where
  | number (n : Nat)
  | role (r : Role)
  | flag (b : Bool)
  | clock (r : ClockRole)
  deriving DecidableEq, Repr

/-- A channel role in two bytes. -/
def readRole (z p : Byte) : Option Role :=
  if z.toNat = 254 ∧ p.toNat = 254 then some .unused
  else
    match ofCode Cabin.all (fun c => zoneCode (.cabin c)) z, ofCode [.left, .right, .centre, .sub] Position.code p with
    | some c, some q => some (.zone c q)
    | _, _ => none

/-- The value a SET_INSTALL carries for a field: none when it is not one of the field's values (R22 check 2). -/
def readInstallValue (f : InstallField) (hi lo : Byte) : Option InstallValue :=
  match f with
  | .variant => some (.number (nat16 hi lo))
  | .ampRole _ | .doutRole _ => (readRole hi lo).map .role
  | .bridge _ | .hpFitted _ | .micFitted _ => if hi = 0#8 then (readBit lo).map .flag else none
  | .clockRole => if hi = 0#8 then (ofCode [.follower, .leader] ClockRole.code lo).map .clock else none

/-- A value for a safety field, as applied (R25). -/
inductive SafetyWrite where
  | watchdog (ms : Nat)
  | profile (z : Zone) (p : Profile)
  | chime (p : Option PatternId)
  | chimeZones (z : CabinSet)
  | chimeDuck (d : Depth)
  | chimeFloor (q : Int)
  | chimeCeiling (q : Int)
  | chimeLift (n : Nat)
  | fallback (l : List Chan)
  deriving DecidableEq, Repr

/-- A pattern id or NONE as an enumerated value of SET_SAFETY. DEDUCED (log 4): R25 lists the pattern id among the
enumerated fields, so it is carried in the second byte, with NONE as 255. -/
def readPatternOrNone (hi lo : Byte) : Option (Option PatternId) :=
  if hi = 0#8 then (if lo.toNat = mark8 then some none else (readPattern lo).map some) else none

/-- The channels of a fallback list: none when one is no amplifier and no digital output (R25). -/
def readChans : Bytes → Option (List Chan)
  | [] => some []
  | b :: bs =>
    match readRoledChan b, readChans bs with
    | some c, some cs => some (c :: cs)
    | _, _ => none

/-- The write a SET_SAFETY body makes, checked and clamped by R25: none where R25 refuses with OUT_OF_RANGE. A fallback list
whose count is not the number of channels that follow it is refused so too (DESIGN CHOICE, log 6). -/
def readSafety (body : Bytes) : Option SafetyWrite :=
  match body with
  | [] => none
  | field :: value =>
    if field.toNat = 12 then
      match value with
      | [] => none
      | count :: codes =>
        if 4 < count.toNat ∨ codes.length ≠ count.toNat then none
        else
          match readChans codes with
          | none => none
          | some l => if l.Nodup then some (.fallback l) else none
    else
      match value with
      | [hi, lo] =>
        match field.toNat with
        | 0 => some (.watchdog (clampNat (nat16 hi lo) 200 5000 / 100 * 100))
        | 6 => (readPatternOrNone hi lo).map .chime
        | 7 => if hi = 0#8 then (readCabinSet lo).map .chimeZones else none
        | 8 => some (.chimeDuck (readDepth (nat16 hi lo)))
        | 9 => some (.chimeFloor (clampInt (int16 hi lo) (-160) 0))
        | 10 => some (.chimeCeiling (clampInt (int16 hi lo) (-120) 24))
        | 11 => some (.chimeLift (min (nat16 hi lo) 8))
        | n =>
          if n ≤ 5 then
            match ofCode Zone.all (fun z => zoneCode z + 1) field, ofCode [.hold, .quiet] Profile.code lo with
            | some z, some p => if hi = 0#8 then some (.profile z p) else none
            | _, _ => none
          else none
      | _ => none

/-- The value of a safety write as its reply carries it: two bytes, or the count and the channels (R164). -/
def safetyValueField : SafetyWrite → Bytes
  | .watchdog ms => u16 ms
  | .profile _ p => u16 p.code
  | .chime p => u16 ((p.map Fin.val).getD mark8)
  | .chimeZones z => u16 (bitsOf [z.front, z.rear, z.load])
  | .chimeDuck .full => u16 255
  | .chimeDuck (.num d) => u16 d
  | .chimeFloor q => s16 q
  | .chimeCeiling q => s16 q
  | .chimeLift n => u16 n
  | .fallback l => u8 l.length ++ (l.map (fun c => (u8 (chanCode c)))).flatten

end Sys2Proof.Machine
end

