-- ==== Sys2Proof/Machine/Flags.lean ====
section
/-! DEFINITION. The flags and statuses that follow from the rest of the state and are therefore computed, never stored:
what a channel serves (R23, R35), the presence of a source (R29), the activity of a headphone zone (R139), rear-quiet
(R140), the gates of the condition records (R79), the sweep state (R119), the pins of a list entry (R115), a channel's
restart gate (R153), and which request kinds an operating state accepts (R16). -/

namespace Sys2Proof.Machine

/-! ### Installation -/

/-- Whether a headphone is fitted (R24). -/
def hpIsFitted (s : State) (h : Hp) : Bool := s.install.hpFitted.get h == some true

/-- Whether a microphone is fitted (R24). -/
def micIsFitted (s : State) (m : Mic) : Bool := s.install.micFitted.get m == some true

/-- The pair an amplifier belongs to: AMP1 and AMP2 are pair 0, and so on (section 2.6). -/
def pairOf (k : Amp) : Fin 5 := ⟨k.val / 2, by omega⟩

/-- Whether an amplifier is the even channel of its pair: AMP2, AMP4, ... -/
def isEvenAmp (k : Amp) : Bool := k.val % 2 == 1

/-- Whether an amplifier is the even channel of a BRIDGED pair (R23). -/
def isBridgedEven (i : Install) (k : Amp) : Bool := isEvenAmp k && i.bridge[pairOf k] == some true

/-- The role a channel serves by (R23, R35): the even channel of a BRIDGED pair serves by none, and the odd channel's
role is the pair's. A headphone driver has no role. -/
def roleOf (i : Install) : Chan → Option Role
  | .amp k => if isBridgedEven i k then none else i.ampRole[k]
  | .dout k => i.doutRole[k]
  | .hp _ => none

/-- The cabin zone and position a channel serves, if it serves a cabin zone. -/
def servedBy (i : Install) (c : Chan) : Option (Cabin × Position) :=
  match roleOf i c with
  | some (.zone z p) => some (z, p)
  | _ => none

/-- Whether a channel serves a zone (R35). -/
def serves (i : Install) (z : Zone) (c : Chan) : Bool :=
  match z, c with
  | .cabin z, c => (servedBy i c).map Prod.fst == some z
  | .hp h, .hp h' => h == h' && i.hpFitted.get h == some true
  | .hp _, _ => false

/-- The channels that serve a zone, in the order of their codes (R35). -/
def channelsOf (i : Install) (z : Zone) : List Chan := Chan.all.filter (serves i z)

/-- Whether some channel serves a cabin zone (R87 check 3). -/
def isServed (i : Install) (z : Cabin) : Bool := !(channelsOf i (.cabin z)).isEmpty

/-- How many channel roles have been written (R13). -/
def rolesWritten (i : Install) : Nat :=
  (Amp.all.filter (fun k => i.ampRole[k].isSome)).length + (Dout.all.filter (fun k => i.doutRole[k].isSome)).length

/-- Whether every field of the installation record has been written, the even channel of a BRIDGED pair counted as
written (R13). -/
def installComplete (i : Install) : Bool :=
  i.variant.isSome && Amp.all.all (fun k => i.ampRole[k].isSome || isBridgedEven i k) &&
  Dout.all.all (fun k => i.doutRole[k].isSome) && i.bridge.toList.all Option.isSome &&
  Hp.all.all (fun h => (i.hpFitted.get h).isSome) && Mic.all.all (fun m => (i.micFitted.get m).isSome) &&
  i.clockRole.isSome

/-- The voicing record's place of a channel: its code less one. -/
def chanIndex : Chan → Fin 18
  | .amp k => ⟨k.val, by omega⟩
  | .dout k => ⟨k.val + 10, by omega⟩
  | .hp .hpl => 16
  | .hp .hpr => 17

/-! ### Zones -/

/-- A zone's precedence list. -/
def listOf (s : State) : Zone → List Entry
  | .cabin c => (s.zr.zones.get c).list
  | .hp h => (s.zr.hps.get h).list

/-- A zone's mute flag. -/
def muteOf (s : State) : Zone → Bool
  | .cabin c => (s.zr.zones.get c).mute
  | .hp h => (s.zr.hps.get h).mute

/-- A zone's quiet flag. -/
def quietOf (s : State) : Zone → Bool
  | .cabin c => (s.zr.zones.get c).quiet
  | .hp h => (s.zr.hps.get h).quiet

/-- A zone's base source: the cabin's, or the headphone zone's own (R33, R34). -/
def baseOf (s : State) : Zone → Option Source
  | .cabin _ => s.zr.cabin.base
  | .hp h => (s.zr.hps.get h).base

/-- Whether a list holds an entry of a class. -/
def holdsClass (l : List Entry) (c : Class) : Bool := l.any (fun e => e.cls == c)

/-- The presence status of a source (R29); CHIME has none and reads as present. -/
def isPresent (s : State) : Source → Bool
  | .fgt => s.rx.a.state == .locked && s.rx.a.mute == .off
  | .bgt =>
    (match s.slm.holder with
      | .rear _ => true
      | _ => false) && s.rx.b.state == .locked
  | .meda | .medb | .call | .prompt => !s.zr.clockLost
  | .chime => true

/-- The presence of a zone's base source; NONE is ABSENT (R62). -/
def basePresent (s : State) (z : Zone) : Bool :=
  match baseOf s z with
  | some src => isPresent s src
  | none => false

/-- Whether a headphone zone is active (R139). -/
def hpActive (s : State) (h : Hp) : Bool :=
  let r := s.zr.hps.get h
  hpIsFitted s h && r.jack && !r.mute && r.base.isSome && decide (0 < r.volBase) && s.os.hps.get h != .heldOff

/-- Whether rear-quiet is in force (R140). -/
def rearQuietInForce (s : State) : Bool :=
  s.zr.cabin.rearQuiet.isSome && (hpActive s .hpl || hpActive s .hpr)

/-- Whether a headphone zone has BGT as its base source. -/
def hasBgt (s : State) (h : Hp) : Bool := (s.zr.hps.get h).base == some .bgt

/-! ### Ducks (R45) -/

/-- A class's duck depth; BASE has none. -/
def classDepth (s : State) : Class → Option Depth
  | .chime => some s.safety.config.chimeDuck
  | .call => some s.zr.ducks.call
  | .prompt => some s.zr.ducks.prompt
  | .traffic => some s.zr.ducks.traffic
  | .base => none

/-- The larger of two depths, FULL above every number. -/
def Depth.larger : Depth → Depth → Depth
  | .full, _ => .full
  | _, .full => .full
  | .num a, .num b => .num (max a b)

/-- The larger of two depths of which either may be none. -/
def largerDepth : Option Depth → Option Depth → Option Depth
  | none, b => b
  | a, none => a
  | some a, some b => some (a.larger b)

/-- The duck D of an entry of a class: the largest depth among the entries above it, none for the top entry (R45). -/
def duckOf (s : State) (l : List Entry) (c : Class) : Option Depth :=
  (l.takeWhile (fun e => e.cls != c)).foldl (fun d e => largerDepth d (classDepth s e.cls)) none

/-! ### Gates (R79) -/

/-- Whether a record targets a zone and a source. -/
def Condition.targets (r : Condition) (z : Zone) (src : Source) : Bool := r.zones.get z && r.sources.get false src

/-- Whether a record gives the MUTE gate to the pairs it targets. -/
def Condition.mutes (r : Condition) : Bool :=
  match r.effect, r.state with
  | .muteWhenTrue, some true => true
  | .muteWhenFalse, some false => true
  | _, _ => false

/-- The depth by which a record cuts the pairs it targets. -/
def Condition.cutDepth (r : Condition) : Nat :=
  match r.effect, r.state with
  | .cutWhenTrue d, some true => d
  | _, _ => 0

/-- The records in the slots. -/
def records (s : State) : List Condition := s.cu.slots.toList.filterMap id

/-- Whether the MUTE gate holds for a zone and a source. -/
def muteGate (s : State) (z : Zone) (src : Source) : Bool := (records s).any (fun r => r.targets z src && r.mutes)

/-- The cut of a zone and a source: the sum of the depths that hold. -/
def cutOf (s : State) (z : Zone) (src : Source) : Nat :=
  ((records s).filter (fun r => r.targets z src)).foldl (fun n r => n + r.cutDepth) 0

/-! ### Reception -/

/-- Whether RX-B is held by REAR_LISTEN, and for which station. -/
def rearStation (s : State) : Option Station :=
  match s.slm.holder with
  | .rear st => some st
  | _ => none

/-- The sweep state of R119. -/
inductive SweepState where
  | running | suspended | stopped
  deriving DecidableEq, Repr

/-- Whether the part is in RUN or FAILSAFE. -/
def isPlaying (s : State) : Bool := s.sc.opState == .run || s.sc.opState == .failsafe

/-- The sweep state: RUNNING while the holder is SCAN, SUSPENDED while scanning is ON in RUN or FAILSAFE and the holder
is another, STOPPED otherwise (R119). -/
def sweepState (s : State) : SweepState :=
  if s.slm.holder = .scan then .running
  else if s.slm.scanning && isPlaying s then .suspended
  else .stopped

/-- Pin A: SET on the entry of RX-A's last tuned station while RX-A is not IDLE (R115). -/
def pinA (s : State) (e : ListEntry) : Bool := s.rx.a.state != .idle && e.station == s.rx.lastTuned

/-- Pin R: SET on the entry of the REAR_LISTEN station while REAR_LISTEN holds RX-B (R115). -/
def pinR (s : State) (e : ListEntry) : Bool := rearStation s == some e.station

/-- Whether either pin is SET. -/
def isPinned (s : State) (e : ListEntry) : Bool := pinA s e || pinR s e

/-- A data record's name: eight characters while all four segments are held (section 7.6). -/
def DataRecord.name (r : DataRecord) : Option Bytes :=
  match r.segments[0], r.segments[1], r.segments[2], r.segments[3] with
  | some a, some b, some c, some d => some [a.1, a.2, b.1, b.2, c.1, c.2, d.1, d.2]
  | _, _, _, _ => none

/-! ### Calls -/

/-- Whether the canceller is running (R149). -/
def cancellerRunning (s : State) : Bool := s.clp.canceller != .bypass

/-- Whether a microphone is usable (R146). -/
def micUsable (s : State) (m : Mic) : Bool := micIsFitted s m && !s.clp.faulty.get m

/-- The zones a route covers (R142). -/
def routeZones : Route → List Zone
  | .cabin => [.cabin .front, .cabin .rear]
  | .hp h => [.hp h]

/-! ### Outputs -/

/-- The bank of an amplifier (R61). -/
def bankOf (k : Amp) : Bank := if k.val < 5 then .b1 else .b2

/-- A bank's state. -/
def bankState (s : State) : Bank → BankState
  | .b1 => s.os.bank1
  | .b2 => s.os.bank2

/-- The banks whose thermal shutdown closes a channel's gate: its own, and for AMP5 both while pair 3 is BRIDGED
(R153). -/
def gateBanks (i : Install) (k : Amp) : List Bank :=
  if k.val == 4 && i.bridge[pairOf k] == some true then [.b1, .b2] else [bankOf k]

/-- Whether a channel's restart gate is open (R153). -/
def gateOpen (s : State) (k : Amp) : Bool :=
  s.os.supply != .overvoltage && (gateBanks s.install k).all (fun b => !(bankState s b).shutdown)

/-- Whether an amplifier state is one of the running ones (R153). -/
def AmpState.running : AmpState → Bool
  | .starting | .on | .limiting => true
  | _ => false

/-- Whether an amplifier state is ON or LIMITING. -/
def AmpState.live : AmpState → Bool
  | .on | .limiting => true
  | _ => false

/-- Whether a channel is live for a chime: ON or LIMITING (R94). -/
def chanLive (s : State) : Chan → Bool
  | .amp k => s.os.amps[k].state.live
  | .dout k => s.os.douts[k] == .on
  | .hp h => s.os.hps.get h == .on

/-- Whether a channel sends its signal, and not silence (R66, R158, R163). -/
def chanSends (s : State) : Chan → Bool
  | .amp k => s.os.amps[k].state.running && s.os.supply != .undervoltage
  | .dout k => s.os.douts[k] == .on && !s.zr.clockLost
  | .hp h => s.os.hps.get h == .on

/-- The state an amplifier takes from its installation fields (R153). -/
def installedState (i : Install) (k : Amp) : AmpState :=
  if isBridgedEven i k then .bridged
  else
    match i.ampRole[k] with
    | some (.zone _ _) => .off
    | _ => .unused

/-- The state a digital output takes from its role while it is not ON (R163). -/
def installedDout (i : Install) (k : Dout) : DoutState :=
  match i.doutRole[k] with
  | some (.zone _ _) => .off
  | _ => .unused

/-! ### Requests and operating states -/

/-- The operating states in which a request kind passes the state check, in BOOT, CONFIG, RUN and STANDBY in turn
(R16). -/
def acceptedIn (k : Kind) : Bool × Bool × Bool × Bool :=
  match k with
  | .poll | .fetchReports | .getPartState => (true, true, true, true)
  | .setReportMask => (true, true, true, false)
  | .restart => (false, true, true, true)
  | .wake => (false, false, false, true)
  | .standby => (false, true, true, false)
  | .startAudio | .setInstall | .loadTest => (false, true, false, false)
  | .getInstall => (false, true, true, false)
  | .openSafetyEdit | .setSafety | .lockSafety | .patternLoad | .patternSegment | .definePattern =>
    (false, true, true, false)
  | .selectSource | .setVolume | .setMute | .setBalanceFader | .setSourceTrim | .setClassDuck | .setSpeedLift
  | .setRearQuiet | .getZone | .setRearCeiling => (false, true, true, false)
  | .setVoicing | .vehicleState | .setCondition => (false, true, true, false)
  | .setProtection | .setMonitor | .getFaults | .retryChannel | .clearFault => (false, true, true, false)
  | .promptStart | .promptEnd | .chimeRequest | .chimeCancel => (false, false, true, false)
  | .tune | .step | .seek | .setReception | .getStation | .scanNow | .setScan | .setFollow | .setTrafficWatch
  | .trafficSkip | .rearTune => (false, false, true, false)
  | .callState | .callRoute | .setUplinkMute | .setMicPolicy => (false, false, true, false)

/-- Whether a request kind passes the state check of R16. No request is acted on in FAILSAFE (R15), so no kind passes
there. -/
def accepted (k : Kind) (o : OpState) : Bool :=
  let row := acceptedIn k
  match o with
  | .boot => row.1
  | .config => row.2.1
  | .run => row.2.2.1
  | .standby => row.2.2.2
  | .failsafe => false

end Sys2Proof.Machine
end

