-- ==== Sys2Proof/Machine/Gains.lean ====
section
/-! DEFINITION. The Gain Engine (chapter 4): the volume curve, the terms of the gain sum, the target of every path, the
ramp of a millisecond, and `settle`, which forms and drops paths and gives every path its target after a command. -/

namespace Sys2Proof.Machine

/-- The volume curve V(n); step 0 is MUTE (R56). -/
def volumeCurve (n : Nat) : Gain :=
  if n = 0 then .mute
  else if n ≤ 10 then .num (-214 - 12 * (11 - (n : Int)))
  else if n ≤ 30 then .num (-54 - 8 * (31 - (n : Int)))
  else .num (-6 * (40 - (n : Int)))

/-- The volume step of a class in a zone (R38). CHIME has none, and a headphone zone has those of BASE and CALL. -/
def volumeStep (s : State) (z : Zone) (c : Class) : Nat :=
  match z, c with
  | .cabin _, .base => s.zr.cabin.volBase
  | .cabin _, .call => s.zr.cabin.volCall
  | .cabin _, .prompt => s.zr.cabin.volPrompt
  | .cabin _, .traffic => s.zr.cabin.volTraffic
  | .hp h, .base => (s.zr.hps.get h).volBase
  | .hp h, .call => (s.zr.hps.get h).volCall
  | _, _ => 0

/-- T: the trim of the path's source (R57). -/
def trimTerm (s : State) (src : Source) : Int := s.zr.trims.get 0 src

/-- R of a smoothed quality (R57). -/
def receptionOf (qs : Nat) : Int := if 30 ≤ qs then 0 else -2 * (30 - (qs : Int))

/-- R: the reception term of a source (R57). -/
def receptionTerm (s : State) (src : Source) : Int :=
  match src with
  | .fgt => receptionOf (s.rx.a.qs.getD 30)
  | .bgt => receptionOf (s.rx.b.qs.getD 30)
  | _ => 0

/-- A speed lift: the smaller of the cap and ((v - 30) div 10) times the setting, v taken as at least 30 (R58, R64). -/
def liftOf (v : Int) (perTen : Nat) : Int := min Config.liftCap ((max v 30 - 30) / 10 * perTen)

/-- The held speed (R71). -/
def heldSpeed (s : State) : Int := s.cu.values[0].getD 0

/-- S: the speed lift of a cabin path (R58). -/
def speedLiftTerm (s : State) (z : Zone) : Int :=
  match z with
  | .cabin _ => liftOf (heldSpeed s) s.zr.cabin.speedLift
  | .hp _ => 0

/-- The balance part of B (R59). -/
def balancePart (p : Position) (b : Int) : Int :=
  match p with
  | .left => -6 * max 0 b
  | .right => -6 * max 0 (-b)
  | .centre | .sub => 0

/-- The fader part of B (R59). -/
def faderPart (z : Cabin) (f : Int) : Int :=
  match z with
  | .front => -6 * max 0 f
  | .rear => -6 * max 0 (-f)
  | .load => 0

/-- B: the balance and fader term, by the role of the channel the path ends at (R59). -/
def balanceTerm (s : State) (c : Chan) : Int :=
  match servedBy s.install c with
  | some (z, p) => balancePart p s.zr.cabin.balance + faderPart z s.zr.cabin.fader
  | none => 0

/-- The number a depth is subtracted as; FULL is tested before the sum, and none counts as 0 (R60). -/
def depthNumber : Option Depth → Int
  | some (.num d) => d
  | _ => 0

/-- Q_r: the rear-quiet depth in force for a path, if it is (R60). -/
def rearQuietOn (s : State) (z : Zone) (c : Class) : Option Depth :=
  if z = .cabin .rear ∧ c = .base ∧ rearQuietInForce s = true then s.zr.cabin.rearQuiet else none

/-- P: the trim in force of a channel (R61, R69). -/
def channelTrim (s : State) (c : Chan) : Int := s.ge.voicing[chanIndex c].trim

/-- H: the foldback of the channel's bank (R61). -/
def foldback (s : State) : Chan → Int
  | .amp k => 12 * ((bankState s (bankOf k)).level : Int)
  | _ => 0

/-- The number the volume curve contributes (V); its MUTE is a cause of R62, tested before. -/
def curveNumber (n : Nat) : Int :=
  match volumeCurve n with
  | .mute => 0
  | .num q => q

/-- The causes of MUTE that do not need the path's source (R62). -/
def zoneMuted (s : State) (z : Zone) (c : Class) : Bool :=
  (s.sc.opState == .boot || s.sc.opState == .config || s.sc.opState == .standby) ||
  volumeStep s z c == 0 ||
  (muteOf s z &&
    match z with
    | .cabin _ => c == .base || c == .traffic
    | .hp _ => c == .base) ||
  duckOf s (listOf s z) c == some .full ||
  rearQuietOn s z c == some .full ||
  (quietOf s z && (c == .base || c == .prompt || c == .traffic)) ||
  (match z with
    | .cabin _ => false
    | .hp h => !(s.zr.hps.get h).jack)

/-- The raw sum of the terms (R63). -/
def rawGain (s : State) (z : Zone) (c : Class) (src : Source) (ch : Chan) : Int :=
  trimTerm s src + receptionTerm s src + curveNumber (volumeStep s z c) + speedLiftTerm s z
    - depthNumber (duckOf s (listOf s z) c) + balanceTerm s ch - depthNumber (rearQuietOn s z c)
    - (cutOf s z src : Int) + channelTrim s ch - foldback s ch

/-- A raw sum made a target (R63): MUTE below -400, at most +24. -/
def targetOf (raw : Int) : Gain := if raw < -400 then .mute else .num (min raw 24)

/-- The target gain of a non-chime path that is not retiring (R62, R63). -/
def pathTarget (s : State) (z : Zone) (c : Class) (src : Option Source) (ch : Chan) : Gain :=
  match src with
  | none => .mute
  | some x =>
    if zoneMuted s z c || muteGate s z x || !isPresent s x then .mute else targetOf (rawGain s z c x ch)

/-- The gain of a chime path for a segment's level (R64), within the chime floor and ceiling. -/
def chimeGain (s : State) (level : Int) (ch : Chan) : Int :=
  let cfg := s.safety.config
  let g := level + liftOf (heldSpeed s) cfg.chimeLift + channelTrim s ch - foldback s ch
  if g < cfg.chimeFloor then cfg.chimeFloor else if cfg.chimeCeiling < g then cfg.chimeCeiling else g

/-! ### Forming and dropping paths (R35, R44, R54) -/

/-- The paths that the precedence lists and the channels call for, CHIME entries apart: for each entry of each list one
path to each channel that serves the zone, each starting from MUTE. -/
def calledPaths (s : State) : List Path :=
  Zone.all.flatMap fun z =>
    ((listOf s z).filter (fun e => e.cls != .chime)).flatMap fun e =>
      (channelsOf s.install z).map fun c =>
        { zone := z, cls := e.cls, src := e.src, chan := c, target := .mute, audible := .mute, retiring := false }

/-- Whether two paths have the same four names (R54). -/
def Path.sameNames (p q : Path) : Bool := p.zone == q.zone && p.cls == q.cls && p.src == q.src && p.chan == q.chan

/-- A called path with the audible gain of the standing path of its names, if there is one. -/
def keepAudible (old : List Path) (p : Path) : Path :=
  match old.find? (fun q => !q.retiring && q.sameNames p) with
  | some q => { p with audible := q.audible }
  | none => p

/-- Whether a standing path becomes a retiring path: its entry keeps its place and its channel, with another source
(R54). -/
def becomesRetiring (called : List Path) (q : Path) : Bool :=
  !q.retiring && !called.any (fun p => p.sameNames q) &&
  called.any (fun p => p.zone == q.zone && p.cls == q.cls && p.chan == q.chan)

/-- The retiring paths: those that retire already and those that begin to, less those that have reached MUTE. -/
def retiringPaths (old called : List Path) : List Path :=
  (old.filter (fun q => (q.retiring || becomesRetiring called q) && q.audible != .mute)).map
    (fun q => { q with retiring := true, target := .mute })

/-- The paths after entries have come and gone (R44, R54). -/
def formedPaths (s : State) : List Path :=
  let called := calledPaths s
  called.map (keepAudible s.ge.paths) ++ retiringPaths s.ge.paths called

/-- A path with its present target (R55); a retiring path's target is MUTE. -/
def retargeted (s : State) (p : Path) : Path :=
  if p.retiring then { p with target := .mute }
  else { p with target := pathTarget s p.zone p.cls p.src p.chan }

/-- A voice with its chime paths' gains as R64 gives them now (R96). -/
def revoiced (s : State) (v : Voice) : Voice :=
  { v with paths := v.paths.map (fun p => { p with gain := chimeGain s v.level p.chan }) }

/-- The Gain Engine after a command: paths formed and dropped, every target as the values now stand (R55), chime gains
taken at once. -/
def settle (s : State) : State :=
  (s.modGe (fun g => { g with paths := (formedPaths s).map (retargeted s) })).modChimes
    (fun c => { c with v1 := c.v1.map (revoiced s), v2 := c.v2.map (revoiced s) })

/-! ### Ramps (R65) -/

/-- The audible gain after one millisecond. -/
def rampStep (target audible : Gain) : Gain :=
  match target, audible with
  | .mute, .mute => .mute
  | .mute, .num a => if a - 6 ≤ -240 then .mute else .num (a - 6)
  | .num g, .mute => .num (min g (-240))
  | .num g, .num a => if a < g then .num (min g (a + 2)) else if g < a then .num (max g (a - 6)) else .num g

/-- Every non-chime path one millisecond on; retiring paths that reach MUTE are dropped (R54, R65). -/
def rampPaths (ps : List Path) : List Path :=
  (ps.map (fun p => { p with audible := rampStep p.target p.audible })).filter
    (fun p => !(p.retiring && p.audible == .mute))

/-! ### Voicing (R69, R70) -/

/-- The mixture a channel sends as its crossfade stands. -/
def ChannelVoicing.mix (v : ChannelVoicing) : Mix :=
  match v.fade with
  | none => .pure v.processing
  | some f => if Config.fadeBlocks ≤ f.block then .pure v.processing else .blend f.block f.outgoing v.processing

/-- A channel's voicing across a 1 ms block boundary: a written record takes effect and its crossfade starts or
restarts from what the channel sends; a crossfade in flight moves on a tenth, and ends after its tenth block. -/
def ChannelVoicing.boundary (v : ChannelVoicing) : ChannelVoicing :=
  if v.written then
    { v with written := false, trim := v.record.trim, processing := v.record.processing
             fade := some { outgoing := v.mix, block := 1 } }
  else
    match v.fade with
    | none => v
    | some f =>
      if Config.fadeBlocks ≤ f.block then { v with fade := none }
      else { v with fade := some { f with block := f.block + 1 } }

/-- A channel's voicing after RESTART: the written record is kept and alone in force (R69). -/
def ChannelVoicing.restarted (v : ChannelVoicing) : ChannelVoicing :=
  { v with written := false, trim := v.record.trim, processing := v.record.processing, fade := none }

/-! ### What leaves the part (R30, R66) -/

/-- The side of its source that a path sends to a channel (R35). -/
inductive Side where
  | left | right | halvedSum | both | mono
  deriving DecidableEq, Repr

/-- Whether a source is stereo (00_scope, section 7). -/
def Source.isStereo : Source → Bool
  | .fgt | .bgt | .meda | .medb => true
  | .call | .prompt | .chime => false

/-- The side of a source a channel takes (R35). -/
def sideFor (i : Install) (src : Source) (c : Chan) : Side :=
  if src.isStereo then
    match servedBy i c with
    | some (_, .left) => .left
    | some (_, .right) => .right
    | some _ => .halvedSum
    | none => .both
  else .mono

/-- What an input slot of the serial audio brings, slot `n + 1` for `n`: a side of a media source, the call downlink or ring
tone, or the navigation voice; slots 7 and 8 are read and discarded (R30). -/
def inputSlot (n : Fin 8) : Option (Source × Side) :=
  match n with
  | 0 => some (.meda, .left)
  | 1 => some (.meda, .right)
  | 2 => some (.medb, .left)
  | 3 => some (.medb, .right)
  | 4 => some (.call, .mono)
  | 5 => some (.prompt, .mono)
  | 6 | 7 => none

/-- Whether a side of a source takes in what a slot brings: the sum of the halves and both sides take in either (R35). -/
def Side.takes (side brought : Side) : Bool :=
  match side with
  | .halvedSum | .both => brought == .left || brought == .right
  | _ => side == brought

/-- The signal that a path or a voice brings to a channel: a side of a source (R35), or a segment's tone at its frequency
and waveform (R92). -/
inductive Feed where
  | source (src : Source) (side : Side)
  | tone (freq : Nat) (waveform : Waveform)
  deriving DecidableEq, Repr

/-- The input slots of the serial audio from which a signal is taken; a tuner's or a tone's comes from none (R30). -/
def Feed.inputSlots : Feed → List (Fin 8)
  | .source x side =>
    ([0, 1, 2, 3, 4, 5, 6, 7] : List (Fin 8)).filter fun n =>
      match inputSlot n with
      | some (y, brought) => x == y && side.takes brought
      | none => false
  | .tone _ _ => []

/-- What one path contributes to its channel's sum: its signal at its audible gain (R66). -/
structure Contribution where
  feed : Feed
  gain : Int
  deriving DecidableEq, Repr

/-- The contributions of the non-chime paths to a channel, retiring paths included; a path at MUTE contributes
nothing (R66). -/
def pathContributions (s : State) (c : Chan) : List Contribution :=
  (s.ge.paths.filter (fun p => p.chan == c)).filterMap fun p =>
    match p.src, p.audible with
    | some x, .num g => some { feed := .source x (sideFor s.install x c), gain := g }
    | _, _ => none

/-- A segment that no slot holds. A voice plays none: the slots of a defined pattern are loaded and do not change
(R28, R85). -/
def Segment.absent : Segment :=
  { freq := 100, waveform := .sine, level := -160, duration := 1, position := .both, gapAfter := 0 }

/-- The segment in a slot. -/
def segmentAt (s : State) (slot : Nat) : Segment :=
  match s.patterns.memory.find? (fun m => m.1 == slot) with
  | some m => m.2
  | none => Segment.absent

/-- A pattern that no entry of the table holds; no voice plays one. -/
def Pattern.absent : Pattern := { first := 0, count := 1, repeats := .count 1, repeatGap := 0, priority := 7 }

/-- A pattern of the table. -/
def patternAt (s : State) (p : PatternId) : Pattern := (s.patterns.table[p]).getD Pattern.absent

/-- The segment a voice is at. -/
def presentSegment (s : State) (v : Voice) : Segment := segmentAt s ((patternAt s v.pattern).first + (v.seg - 1))

/-- The contributions of a voice to a channel: the tone of its segment, and nothing through its gaps (R92). -/
def voiceContributions (s : State) (c : Chan) : Option Voice → List Contribution
  | none => []
  | some v =>
    if v.phase = .tone then
      (v.paths.filter (fun p => p.chan == c)).map fun p =>
        { feed := .tone (presentSegment s v).freq (presentSegment s v).waveform, gain := p.gain }
    else []

/-- The contributions that a channel sums, whatever its state (R66 steps (1) and (2)). -/
def channelMix (s : State) (c : Chan) : List Contribution :=
  pathContributions s c ++ (voiceContributions s c s.chimes.v1 ++ voiceContributions s c s.chimes.v2)

/-- A channel's signal as R66 forms it: a sum of contributions, a signal through the delay and bands of a voicing, and a
signal limited to full scale. The samples themselves are outside the manual (log 20). -/
inductive Signal where
  | sum (l : List Contribution)
  | voiced (voicing : Mix) (x : Signal)
  | limited (x : Signal)
  deriving DecidableEq, Repr

/-- The signal of a channel: its sum through its delay and bands, as its crossfade stands, limited to full scale (R66,
R69). -/
def channelSignal (s : State) (c : Chan) : Signal :=
  .limited (.voiced s.ge.voicing[chanIndex c].mix (.sum (channelMix s c)))

/-- What a channel sends: its signal, or silence for none (R66). -/
def channelOutput (s : State) (c : Chan) : Option Signal := if chanSends s c then some (channelSignal s c) else none

/-- Whether slot 7 carries the uplink (R147). -/
def uplinkOpen (s : State) : Bool :=
  s.clp.state == .active && !s.clp.uplinkMute && s.clp.selection.basis != .none

/-- What a slot of the serial audio output carries (R30). -/
inductive SlotContent where
  /-- The output sends nothing, the frame clock being LOST (R31). -/
  | nothing
  | silence
  | signal (x : Signal)
  /-- The uplink: its microphones and its half-duplex attenuation in qdB (R147, R150). -/
  | uplink (mics : PerMic Bool) (attenuation : Nat)
  deriving DecidableEq, Repr

/-- The content of output slot `n + 1` (R30, R147). -/
def outputSlot (s : State) (n : Fin 8) : SlotContent :=
  if s.zr.clockLost then .nothing
  else if h : n.val < 6 then
    (match channelOutput s (.dout ⟨n.val, h⟩) with
      | none => .silence
      | some x => .signal x)
  else if n.val = 6 ∧ uplinkOpen s = true then
    .uplink s.clp.selection.mics (if s.clp.attenuated then 48 else 0)
  else .silence

end Sys2Proof.Machine
end

