-- ==== Sys2Proof/Machine/Ops.lean ====
section
/-! DEFINITION. The operations the blocks share: posting a report (R7, R10), the precedence lists (R44 to R50), receipts of
quantities (R73 to R78), the echo canceller and the uplink selection (R146, R149), the announcements of the traffic watch
(R129, R130), and the amplifier channels' starts, shutdowns and fault records (R153 to R161). -/

namespace Sys2Proof.Machine

/-! ### The report queue and ATTN -/

/-- The change reports of section 1.3; every other kind is an event report. -/
def ReportKind.isChange : ReportKind → Bool
  | .zoneState | .conditionChanged | .stationData | .stationListChanged | .rxBHolder | .headphonePlug | .aecState
  | .thermalLevel | .supplyState => true
  | _ => false

/-- Whether two reports have the same kind and subject. -/
def Report.sameKey (r q : Report) : Bool := r.kind == q.kind && r.subject == q.subject

/-- Drives or releases ATTN as R10 lays down: low exactly while a queued report's kind is UNMASKED. -/
def ControlPort.reattn (cp : ControlPort) : ControlPort :=
  { cp with attnLow := cp.reports.any (fun r => !cp.masked.contains r.kind) }

/-- A report taken by the queue: it replaces the data of a queued change report of its kind and subject, or is appended
while there is room, or is lost (R7). -/
def ControlPort.enqueue (r : Report) (cp : ControlPort) : ControlPort :=
  if r.kind.isChange && cp.reports.any r.sameKey then
    { cp with reports := cp.reports.map (fun q => if r.sameKey q then { q with data := r.data } else q) }
  else if cp.reports.length < Config.reportCapacity then { cp with reports := cp.reports ++ [r] }
  else { cp with lost := true }

/-- Posts a report and re-evaluates ATTN (R7, R10). -/
def post (kind : ReportKind) (subject : Nat) (fields : Bytes) (s : State) : State :=
  s.modCp (fun cp => (cp.enqueue { kind := kind, subject := subject, data := reportData fields }).reattn)

/-! ### Precedence lists -/

/-- Whether a zone's list may hold a class besides BASE (section 3.5). -/
def mayHold (z : Zone) (c : Class) : Bool :=
  match z, c with
  | _, .base => false
  | .cabin _, _ => true
  | .hp _, .call => true
  | .hp _, _ => false

/-- An entry inserted in a list (R44): it takes the place of its class's entry, or stands after every entry of higher
priority. -/
def insertIn (e : Entry) (l : List Entry) : List Entry :=
  if holdsClass l e.cls then l.map (fun x => if x.cls == e.cls then e else x)
  else l.takeWhile (fun x => x.cls.code < e.cls.code) ++ e :: l.dropWhile (fun x => x.cls.code < e.cls.code)

/-- A class removed from a list; BASE is never removed (R44). -/
def removeFrom (c : Class) (l : List Entry) : List Entry :=
  if c = .base then l else l.filter (fun x => x.cls != c)

/-- A zone's list replaced. -/
def setList (z : Zone) (l : List Entry) (s : State) : State :=
  s.modZr fun r =>
    match z with
    | .cabin c => { r with zones := r.zones.set c { r.zones.get c with list := l } }
    | .hp h => { r with hps := r.hps.set h { r.hps.get h with list := l } }

/-- Posts ZONE_STATE for a zone: the classes of its list, the deferred marker, the mute and quiet flags (R48). -/
def postZone (z : Zone) (s : State) : State :=
  let l := listOf s z
  post .zoneState (zoneCode z)
    (u8 (bitsOf ([Class.chime, .call, .prompt, .traffic, .base].map (holdsClass l))) ++
      (bit (l.any (fun e => e.cls == .traffic && e.deferred)) ++ (bit (muteOf s z) ++ bit (quietOf s z)))) s

/-- A zone's list replaced, with ZONE_STATE when it differs from the one held (R44, R48). -/
def changeList (z : Zone) (l : List Entry) (s : State) : State :=
  if l = listOf s z then s else postZone z (setList z l s)

/-- Inserts an entry in a zone's list; a class the list may not hold is not inserted (R44). -/
def insertEntry (z : Zone) (e : Entry) (s : State) : State :=
  if mayHold z e.cls then changeList z (insertIn e (listOf s z)) s else s

/-- Removes a class from a zone's list (R44). -/
def removeEntry (z : Zone) (c : Class) (s : State) : State := changeList z (removeFrom c (listOf s z)) s

/-- A list with its BASE entry's source replaced (R37). -/
def withBase (src : Option Source) (l : List Entry) : List Entry :=
  l.map (fun e => if e.cls == .base then { e with src := src } else e)

/-- Sets the cabin base source and the BASE entries of the three cabin lists (R33). -/
def setCabinBase (src : Option Source) (s : State) : State :=
  s.modZr fun r =>
    { r with
      cabin := { r.cabin with base := src }
      zones :=
        { front := { r.zones.front with list := withBase src r.zones.front.list }
          rear := { r.zones.rear with list := withBase src r.zones.rear.list }
          load := { r.zones.load with list := withBase src r.zones.load.list } } }

/-- Changes a headphone zone's record. -/
def modHp (h : Hp) (f : HpZone → HpZone) (s : State) : State :=
  s.modZr (fun r => { r with hps := r.hps.set h (f (r.hps.get h)) })

/-- Sets a headphone zone's base source and its BASE entry (R131 step (1)). -/
def setHpBase (h : Hp) (src : Option Source) (s : State) : State :=
  modHp h (fun r => { r with base := src, list := withBase src r.list }) s

/-- Sets a zone's quiet flag, with ZONE_STATE when it changes (R48, R52). -/
def setQuiet (z : Zone) (q : Bool) (s : State) : State :=
  if quietOf s z = q then s
  else
    postZone z
      (s.modZr fun r =>
        match z with
        | .cabin c => { r with zones := r.zones.set c { r.zones.get c with quiet := q } }
        | .hp h => { r with hps := r.hps.set h { r.hps.get h with quiet := q } })

/-- Sets a zone's mute flag, with ZONE_STATE when it changes (R39, R48). -/
def setMuteFlag (z : Zone) (m : Bool) (s : State) : State :=
  if muteOf s z = m then s
  else
    postZone z
      (s.modZr fun r =>
        match z with
        | .cabin c => { r with zones := r.zones.set c { r.zones.get c with mute := m } }
        | .hp h => { r with hps := r.hps.set h { r.hps.get h with mute := m } })

/-! ### Quantities and condition records -/

/-- A quantity's place among the held values: its code. -/
def quantityIndex : Quantity → Fin 11
  | .speed => 0
  | .reverse => 1
  | .tailgate => 2
  | .ignition => 3
  | .qualA => 4
  | .qualB => 5
  | .tempBank1 => 6
  | .tempBank2 => 7
  | .supply => 8
  | .cabinNoise => 9
  | .callActive => 10

/-- A quantity's range (sections 5.1 and 5.2). -/
def quantityRange : Quantity → Int × Int
  | .speed => (0, 300)
  | .reverse | .tailgate | .callActive => (0, 1)
  | .ignition => (0, 3)
  | .qualA | .qualB => (0, 100)
  | .tempBank1 | .tempBank2 => (-40, 175)
  | .supply => (0, 250)
  | .cabinNoise => (30, 110)

/-- A value clamped to a quantity's range (R73, R74). -/
def clampQuantity (q : Quantity) (v : Int) : Int := clampInt v (quantityRange q).1 (quantityRange q).2

/-- A quantity's held value, absent for "no value". -/
def heldValue (s : State) (q : Quantity) : Option Int := s.cu.values[quantityIndex q]

/-- A comparison's result for a value (R76). -/
def Comparison.holds (c : Comparison) (v threshold : Int) : Bool :=
  match c with
  | .atOrAbove => decide (threshold ≤ v)
  | .below => decide (v < threshold)
  | .differs => decide (v ≠ threshold)

/-- A record after a receipt of its quantity's value (R76). -/
def Condition.evaluated (r : Condition) (v : Int) : Condition :=
  let result := r.comparison.holds v r.threshold
  match r.state with
  | none => { r with state := some result, change := none }
  | some st =>
    if result = st then { r with change := none }
    else
      match r.change with
      | some _ => r
      | none =>
        if r.hold = 0 then { r with state := some result }
        else { r with change := some { result := result, remaining := r.hold } }

/-- Posts CONDITION_CHANGED for a slot: its state, its quantity and the quantity's held value (R78). A slot that has become
EMPTY has neither; the report then carries the absence marks of R164, 255 and 0x7FFF (DEDUCED, log 4). -/
def postCondition (i : Fin 16) (s : State) : State :=
  let slot := s.cu.slots[i]
  post .conditionChanged i.val
    (u8 (conditionStateCode slot) ++
      (opt8 (slot.map (fun r => r.quantity.code)) ++ s16 (((slot.map (·.quantity)).bind (heldValue s)).getD mark16))) s

/-- Replaces a slot's contents, with CONDITION_CHANGED when the slot's state changes (R75 to R78). -/
def setSlot (i : Fin 16) (c : Option Condition) (s : State) : State :=
  let t := s.modCu (fun u => { u with slots := u.slots.set i c })
  if conditionStateCode c = conditionStateCode s.cu.slots[i] then t else postCondition i t

/-- Evaluates one slot on a receipt (R76). -/
def evaluateSlot (q : Quantity) (v : Int) (s : State) (i : Fin 16) : State :=
  match s.cu.slots[i] with
  | none => s
  | some r => if r.quantity = q then setSlot i (some (r.evaluated v)) s else s

/-- The slots in the order in which a receipt evaluates them, 0 to 15, and so of its reports; R76 gives none (DESIGN CHOICE,
log 22). -/
def slotsInOrder : List (Fin 16) := [0, 1, 2, 3, 4, 5, 6, 7, 8, 9, 10, 11, 12, 13, 14, 15]

/-- Stores a quantity's value. -/
def storeValue (q : Quantity) (v : Int) (s : State) : State :=
  s.modCu (fun u => { u with values := u.values.set (quantityIndex q) (some v) })

/-- A receipt of a quantity's value: stored, clamped to its range, and every record on it evaluated (R73, R76). -/
def receipt (q : Quantity) (v : Int) (s : State) : State :=
  slotsInOrder.foldl (evaluateSlot q (clampQuantity q v)) (storeValue q (clampQuantity q v) s)

/-! ### The echo canceller (R149, R150) -/

/-- Posts AEC_STATE (R150). -/
def postAec (s : State) : State :=
  post .aecState 0 (u8 s.clp.canceller.code ++ (opt8 s.clp.erle ++ u8 s.clp.restarts)) s

/-- Restarts a running canceller in CONVERGING; a canceller in BYPASS is left as it is (R149). -/
def restartCanceller (s : State) : State :=
  if cancellerRunning s then
    postAec (s.modClp fun c =>
      { c with canceller := .converging, erle := some 0, restarts := min (c.restarts + 1) 255
               convergence := none, divergence := none })
  else s

/-- Starts the canceller as the call leaves IDLE on the route CABIN (R142, R149): in CONVERGING, no restart counted, with an
ERLE estimate of 0 as after a restart (DEDUCED, log 12). -/
def startCanceller (s : State) : State :=
  postAec (s.modClp fun c =>
    { c with canceller := .converging, erle := some 0, convergence := none, divergence := none })

/-- Starts the canceller as a call's route becomes CABIN: a restart, counted, whatever the state was (R143, R149). -/
def routeCanceller (s : State) : State :=
  postAec (s.modClp fun c =>
    { c with canceller := .converging, erle := some 0, restarts := min (c.restarts + 1) 255
             convergence := none, divergence := none })

/-- Takes the canceller to BYPASS, posting AEC_STATE when its state changes (R142, R143). -/
def bypassCanceller (s : State) : State :=
  let t := s.modClp fun c =>
    { c with canceller := .bypass, erle := none, convergence := none, divergence := none, attenuated := false }
  if s.clp.canceller = .bypass then t else postAec t

/-! ### The uplink selection (R146) -/

/-- The first of two microphones that is usable, alone. -/
def firstUsable (s : State) (a b : Mic) : PerMic Bool :=
  if micUsable s a then PerMic.tabulate (· == a)
  else if micUsable s b then PerMic.tabulate (· == b)
  else PerMic.all false

/-- The usable microphones of those the route names (R146 try (1)). -/
def routeMics (s : State) : PerMic Bool :=
  match s.clp.route with
  | .cabin =>
    match s.clp.policy with
    | .driver => PerMic.tabulate (fun m => m == .fl && micUsable s m)
    | .frontPair => PerMic.tabulate (fun m => (m == .fl || m == .fr) && micUsable s m)
    | .allFitted => PerMic.tabulate (micUsable s)
  | .hp .hpl => firstUsable s .rl .rr
  | .hp .hpr => firstUsable s .rr .rl

/-- Whether a set of microphones is not empty. -/
def anyMic (m : PerMic Bool) : Bool := m.fl || m.fr || m.rl || m.rr

/-- The uplink selection as the context and the microphones stand (R146). -/
def selectionOf (s : State) : Selection :=
  if anyMic (routeMics s) then { mics := routeMics s, basis := .route }
  else if anyMic (PerMic.tabulate (micUsable s)) then { mics := PerMic.tabulate (micUsable s), basis := .fallback }
  else { mics := PerMic.all false, basis := .none }

/-- Posts MIC_FAULT: the health of the four microphones and the selection (R145). -/
def postMicFault (s : State) : State :=
  let f := s.clp.faulty
  post .micFault 0
    (bit f.fl ++ (bit f.fr ++ (bit f.rl ++ (bit f.rr ++
      (micSetField s.clp.selection.mics ++ u8 s.clp.selection.basis.code))))) s

/-- Makes the selection afresh, without a report. -/
def reselect (s : State) : State := s.modClp (fun c => { c with selection := selectionOf s })

/-- Whether a change of selection is one that MIC_FAULT reports: its basis passes from ROUTE to another (R145). -/
def basisLost (before after : Selection) : Bool := before.basis == .route && after.basis != .route

/-- Makes the selection afresh; MIC_FAULT is posted once when a microphone has just become FAULTY or the basis passes
from ROUTE to FALLBACK or NONE (R145, R146). -/
def remakeSelection (newFault : Bool) (s : State) : State :=
  let t := reselect s
  if newFault || basisLost s.clp.selection t.clp.selection then postMicFault t else t

/-! ### Announcements (R49, R50, R129, R130) -/

/-- Changes the announcement, if there is one. -/
def modAnnouncement (f : Announcement → Announcement) (s : State) : State :=
  s.modTw (fun w => { w with announcement := w.announcement.map f })

/-- The deferred zones; none without an announcement. -/
def deferredZones (s : State) : CabinSet :=
  match s.tw.announcement with
  | some a => a.deferred
  | none => CabinSet.none

/-- Posts TRAFFIC_DEFERRED with the deferred zones as they stand (R129). -/
def postDeferred (s : State) : State := post .trafficDeferred 0 (cabinSetField (deferredZones s)) s

/-- The TRAFFIC entry with its deferred marker (R50). -/
def trafficEntry (deferred : Bool) : Entry := { cls := .traffic, src := some .fgt, deferred := deferred }

/-- Inserts a TRAFFIC entry in each zone of a list (R50). -/
def insertTraffic (deferred : Bool) (zs : List Cabin) (s : State) : State :=
  zs.foldl (fun s c => insertEntry (.cabin c) (trafficEntry deferred) s) s

/-- Begins an announcement (R129): each traffic zone that holds no CALL entry takes a TRAFFIC entry and is sounding,
each other is deferred. -/
def beginAnnouncement (s : State) : State :=
  let zs := s.tw.zones
  let deferred := cabinSet (fun c => zs.get c && holdsClass (listOf s (.cabin c)) .call)
  let sounding := zs.minus deferred
  let s1 := insertTraffic false sounding.toList s
  let s2 := s1.modTw (fun w =>
    { w with announcement := some { zones := zs, sounding := sounding, deferred := deferred }, bridge := none })
  let s3 := if sounding.isEmpty then s2
    else post .trafficStarted 0 (cabinSetField sounding ++ cabinSetField deferred) s2
  if deferred.isEmpty then s3 else postDeferred s3

/-- Why an announcement ended, by its code (section 12.4). -/
inductive EndCause where
  | fall | stationChange | skip | watchOff | retune
  deriving DecidableEq, Repr

/-- TRAFFIC_ENDED cause. -/
def EndCause.code : EndCause → Nat
  | .fall => 0
  | .stationChange => 1
  | .skip => 2
  | .watchOff => 3
  | .retune => 4

/-- Removes the TRAFFIC entries from every cabin zone (R50). -/
def removeTraffic (s : State) : State := Cabin.all.foldl (fun s c => removeEntry (.cabin c) .traffic s) s

/-- Ends an ACTIVE announcement (R130); with none, nothing changes. -/
def endAnnouncement (cause : EndCause) (s : State) : State :=
  match s.tw.announcement with
  | none => s
  | some _ =>
    post .trafficEnded 0 (u8 cause.code)
      ((removeTraffic s).modTw (fun w => { w with announcement := none, bridge := none }))

/-- Places a CALL entry in one zone; a TRAFFIC entry there gives way, and its zone passes from sounding to deferred
(R49). -/
def placeCall (s : State) (z : Zone) : State :=
  let s1 :=
    match z with
    | .cabin c =>
      if holdsClass (listOf s z) .traffic then
        modAnnouncement (fun a => { a with sounding := a.sounding.set c false, deferred := a.deferred.set c true })
          (removeEntry z .traffic s)
      else s
    | .hp _ => s
  insertEntry z { cls := .call, src := some .call, deferred := false } s1

/-- Places CALL entries in zones; TRAFFIC_DEFERRED is posted when the deferred zones pass from none to some (R129). -/
def placeCalls (zs : List Zone) (s : State) : State :=
  let t := zs.foldl placeCall s
  if (deferredZones s).isEmpty && !(deferredZones t).isEmpty then postDeferred t else t

/-- Removes the CALL entry of one zone; a zone in which the announcement is deferred takes its TRAFFIC entry, with the
marker SET, and passes to sounding (R49, R129). -/
def liftCall (s : State) (z : Zone) : State :=
  let s1 := removeEntry z .call s
  match z with
  | .cabin c =>
    if (deferredZones s1).get c then
      modAnnouncement (fun a => { a with sounding := a.sounding.set c true, deferred := a.deferred.set c false })
        (insertEntry z (trafficEntry true) s1)
    else s1
  | .hp _ => s1

/-- Removes the CALL entries of zones. -/
def liftCalls (zs : List Zone) (s : State) : State := zs.foldl liftCall s

/-! ### Amplifier channels -/

/-- Whether a channel's passage between two states restarts the canceller: its role names FRONT or REAR and it passes
between ON or LIMITING and another state (R149). -/
def passesForCanceller (s : State) (k : Amp) (old new : AmpState) : Bool :=
  (old.live != new.live) &&
    match servedBy s.install (.amp k) with
    | some (.front, _) => true
    | some (.rear, _) => true
    | _ => false

/-- A channel's record after a change of its state: the outage time starts as it leaves running and is absent from its
entry to ON (R153, R154), and the open timer lasts in ON alone (R160). -/
def AmpChannel.kept (old new : AmpChannel) : AmpChannel :=
  { new with
    outage :=
      if old.state.running && !new.state.running then some 0
      else if new.state = .on then none
      else new.outage
    openTimer := if new.state = .on then new.openTimer else none }

/-- Changes an amplifier's record, and hands a passage of its state to the canceller (R149, R153). -/
def changeAmp (k : Amp) (f : AmpChannel → AmpChannel) (s : State) : State :=
  let old := s.os.amps[k]
  let new := old.kept (f old)
  let t := s.modOs (fun o => { o with amps := o.amps.set k new })
  if passesForCanceller s k old.state new.state then restartCanceller t else t

/-- Removes a kind from a record whose cause has ended when the holding is LIVE; ends its cause in either (R161). -/
def AmpChannel.endCause (kind : FaultKind) (holding : FaultHolding) (a : AmpChannel) : AmpChannel :=
  { a with
    causes := faultRemove kind a.causes
    faults := if holding = .live then faultRemove kind a.faults else a.faults }

/-- Places a kind, with its cause, in a record (R161). -/
def AmpChannel.addFault (kind : FaultKind) (a : AmpChannel) : AmpChannel :=
  { a with faults := faultInsert kind a.faults, causes := faultInsert kind a.causes }

/-- Ends the cause of a kind in a channel's record. -/
def endCause (kind : FaultKind) (k : Amp) (s : State) : State :=
  s.modOs (fun o => { o with amps := o.amps.set k (o.amps[k].endCause kind o.protection.holding) })

/-- Posts CHANNEL_FAULT: the channel's state, the kind that caused the report, and the kinds held (R161). -/
def postChannelFault (kind : FaultKind) (k : Amp) (s : State) : State :=
  post .channelFault (chanCode (.amp k))
    (u8 s.os.amps[k].state.code ++ (u8 kind.code ++ faultSetField s.os.amps[k].faults)) s

/-- Starts a channel (R154): through an open gate it enters STARTING; otherwise its start waits. No channel starts in
STANDBY (R163). -/
def startAmp (k : Amp) (mark : Bool) (s : State) : State :=
  if s.sc.opState = .standby then s
  else if gateOpen s k then
    changeAmp k (fun a =>
      { a with state := .starting, startPending := false, soft := some 20, trip := none, retry := none
               restartMark := mark }) s
  else changeAmp k (fun a => { a with startPending := true, retry := none, restartMark := mark }) s

/-- The pending starts whose gates are open proceed (R157, R158). -/
def proceedStarts (s : State) : State :=
  Amp.all.foldl
    (fun s k => if s.os.amps[k].startPending && gateOpen s k then startAmp k s.os.amps[k].restartMark s else s) s

/-- A channel's entry to ON (R154, R161): an overcurrent trip's cause ends, and a start that followed a shutdown is
reported with its outage time, rounded down to whole units (DESIGN CHOICE, log 23). The time is absent where the channel was
barred at START_AUDIO and has never run (R153, R156), so that R164's byte of presence precedes it. -/
def enterOn (k : Amp) (s : State) : State :=
  let a := s.os.amps[k]
  let s1 := endCause .overcurrentTrip k
    (changeAmp k (fun a => { a with state := .on, soft := none, trip := none, restartMark := false }) s)
  if a.restartMark then post .channelRecovered (chanCode (.amp k)) (codeField (a.outage.map (fun n => min (n / 10) 65535))) s1
  else s1

/-- Shuts a running channel down by a protection: to the state its rule gives, or to OFF in STANDBY (R163), with the
kind in its record and CHANNEL_FAULT. -/
def shutDown (kind : FaultKind) (f : AmpChannel → AmpChannel) (k : Amp) (s : State) : State :=
  let down (a : AmpChannel) : AmpChannel :=
    if s.sc.opState = .standby then { a with state := .off, startPending := false, retry := none, restartMark := false }
    else f a
  postChannelFault kind k
    (changeAmp k (fun a => { (down a).addFault kind with soft := none, trip := none }) s)

end Sys2Proof.Machine
end

