-- ==== Sys2Proof/Machine/Port.lean ====
section
/-! DEFINITION. What the Control Port does with every frame (R2, R4, R11, R12, R84): the good-frame signal, the end of load
mode, the checks of length and operating state, and the reply that becomes pending. A request's own rule is the function
`act`, which answers with the state, the status and the reply body. -/

namespace Sys2Proof.Machine

/-- What a request's own rule answers: the state it leaves, the status and the body of its reply (R4). -/
structure Answer where
  state : State
  status : Status
  body : Bytes
  deriving DecidableEq, Repr

/-- An accepted request's answer. -/
def accept (s : State) (body : Bytes) : Answer := { state := s, status := .ok, body := body }

/-- A refused request's answer: nothing changes and the body is empty (R4; 00_scope, section 6.5). -/
def refuse (s : State) (status : Status) : Answer := { state := s, status := status, body := [] }

/-- Makes a reply the pending reply (R1, R4). -/
def setReply (kind : Byte) (status : Status) (body : Bytes) (s : State) : State :=
  s.modCp (fun cp => { cp with reply := some { kind := kind, status := status, body := body } })

/-- Sets the watchdog. -/
def setWatchdog (w : Watchdog) (s : State) : State := s.modCp (fun cp => { cp with watchdog := w })

/-- Every quiet flag OFF, with ZONE_STATE for each zone whose flag changes (R52), in the order FRONT, REAR, LOAD, HPL, HPR
(DESIGN CHOICE, log 22). -/
def liftQuiet (s : State) : State := Zone.all.foldl (fun s z => setQuiet z false s) s

/-- The link-restored signal in FAILSAFE: RUN, FAILSAFE_LEFT with the time spent, and the quiet flags OFF (R12, R20). The
time is rounded down to whole units (DESIGN CHOICE, log 23). -/
def linkRestored (s : State) : State :=
  if s.sc.opState = .failsafe then
    liftQuiet
      (post .failsafeLeft 0 (u16 (min (s.sc.failsafeMs / 100) 65535)) (s.modSc (fun c => { c with opState := .run })))
  else s

/-- The good-frame signal to the link watchdog (R11, R12). -/
def goodFrame (s : State) : State :=
  match s.cp.watchdog with
  | .stopped => s
  | .counting _ => setWatchdog (.counting s.safety.config.watchdogMs) s
  | .expired => linkRestored (setWatchdog (.counting s.safety.config.watchdogMs) s)

/-- Ends load mode (R84). -/
def endLoad (s : State) : State := s.modPatterns (fun p => { p with load := none })

/-- What a good frame does before its request is checked: the good-frame signal, and the end of load mode unless the
kind byte is PATTERN_SEGMENT's (R2, R84). -/
def arrival (kind : Byte) (s : State) : State :=
  if kind = Kind.patternSegment.code then goodFrame s else endLoad (goodFrame s)

/-- Checks 6 of R2 and the state check of R16, then the owner's rule. -/
def answerTo (k : Kind) (body : Bytes) (act : State → Answer) (s : State) : Answer :=
  if lengthAllowed k body = false then refuse s .badLength
  else if accepted k s.sc.opState = false then refuse s .wrongState
  else act s

/-- A request frame of a known kind, from its arrival to its pending reply (R1, R2, R16). -/
def request (k : Kind) (body : Bytes) (act : State → Answer) (s : State) : State :=
  let a := answerTo k body act (arrival k.code s)
  settle (setReply k.code a.status a.body a.state)

end Sys2Proof.Machine
end

