-- ==== Sys2Proof/Machine/Chimes.lean ====
section
/-! DEFINITION. The Signal-Sound Generator's queue and voices (R86 to R97): placing, taking and preempting entries, the
segments a voice plays and the channels it chooses for them, and the CHIME entries of the cabin zones. -/

namespace Sys2Proof.Machine

/-! ### The queue and the voices -/

/-- The priority number of a pattern's chimes. A pattern in the queue is defined (R28, R87). -/
def priorityOf (s : State) (p : PatternId) : Nat :=
  match s.patterns.table[p] with
  | some t => t.priority
  | none => 7

/-- A voice. -/
def voiceOf (s : State) : VoiceId → Option Voice
  | .v1 => s.chimes.v1
  | .v2 => s.chimes.v2

/-- A voice replaced. -/
def setVoice (v : VoiceId) (x : Option Voice) (s : State) : State :=
  s.modChimes fun c =>
    match v with
    | .v1 => { c with v1 := x }
    | .v2 => { c with v2 := x }

/-- The entry of a pattern. -/
def entryFor (s : State) (p : PatternId) : Option ChimeEntry := s.chimes.queue.find? (fun e => e.pattern == p)

/-- The entry a voice plays. -/
def entryOn (s : State) (v : VoiceId) : Option ChimeEntry := s.chimes.queue.find? (fun e => e.voice == some v)

/-- The first QUEUED entry in the queue's order (R90). -/
def firstQueued (s : State) : Option ChimeEntry := s.chimes.queue.find? (fun e => e.voice.isNone)

/-- The last QUEUED entry in the queue's order: the one a newcomer may displace (R88). -/
def lastQueued (s : State) : Option ChimeEntry := (s.chimes.queue.filter (fun e => e.voice.isNone)).getLast?

/-- Changes the entry of a pattern. -/
def modEntry (p : PatternId) (f : ChimeEntry → ChimeEntry) (s : State) : State :=
  s.modChimes (fun c => { c with queue := c.queue.map (fun e => if e.pattern == p then f e else e) })

/-- Removes the entry of a pattern. -/
def dropEntry (p : PatternId) (s : State) : State :=
  s.modChimes (fun c => { c with queue := c.queue.filter (fun e => e.pattern != p) })

/-- Places a new entry after every entry of the same or higher priority (R87). -/
def placeChime (e : ChimeEntry) (s : State) : State :=
  let ahead (x : ChimeEntry) : Bool := decide (priorityOf s x.pattern ≤ priorityOf s e.pattern)
  s.modChimes fun c =>
    { c with queue := c.queue.takeWhile ahead ++ e :: c.queue.dropWhile ahead, nextArrival := c.nextArrival + 1 }

/-! ### The channels of a segment (R94, R95) -/

/-- The channels of a zone of a position. -/
def channelsAt (s : State) (z : Cabin) (p : Position) : List Chan :=
  Chan.all.filter (fun c => servedBy s.install c == some (z, p))

/-- The channels of a zone whose position is not SUB. -/
def channelsNotSub (s : State) (z : Cabin) : List Chan :=
  (channelsOf s.install (.cabin z)).filter (fun c => servedBy s.install c != some (z, .sub))

/-- The candidates of a zone for a segment position (R94). -/
def candidates (s : State) (z : Cabin) (p : SegmentPosition) : List Chan :=
  let named :=
    match p with
    | .left => channelsAt s z .left
    | .right => channelsAt s z .right
    | .both => channelsNotSub s z
  if named.isEmpty then channelsNotSub s z else named

/-- The live candidates of a zone (R94). -/
def liveCandidates (s : State) (z : Cabin) (p : SegmentPosition) : List Chan := (candidates s z p).filter (chanLive s)

/-- The fallback channels that can carry a segment (R95). -/
def liveFallback (s : State) : List Chan := s.safety.config.fallback.filter (chanLive s)

/-- Whether a zone calls for the fallback channels: some channel serves it and none of its candidates is live (R94). -/
def callsFallback (s : State) (p : SegmentPosition) (z : Cabin) : Bool :=
  isServed s.install z && (liveCandidates s z p).isEmpty

/-- The channels a zone is given for a segment: none for a zone that no channel serves (R93 to R95). -/
def chosenFor (s : State) (p : SegmentPosition) (z : Cabin) : List Chan :=
  if isServed s.install z then
    if (liveCandidates s z p).isEmpty then liveFallback s else liveCandidates s z p
  else []

/-- One more chime path, unless its channel has one already (R94). -/
def addChimePath (s : State) (level : Int) (z : Cabin) (ps : List ChimePath) (c : Chan) : List ChimePath :=
  if ps.any (fun p => p.chan == c) then ps else ps ++ [{ zone := z, chan := c, gain := chimeGain s level c }]

/-- The chime paths of a segment for a list of zones, beside those that stand. The zones choose in the order FRONT, REAR,
LOAD, so that a channel that two zones call for is attributed to the first (DESIGN CHOICE, log 22). -/
def chimePaths (s : State) (level : Int) (p : SegmentPosition) (zs : List Cabin) (ps : List ChimePath) : List ChimePath :=
  zs.foldl (fun ps z => (chosenFor s p z).foldl (addChimePath s level z) ps) ps

/-- Posts CHIME_REROUTED and sets the entry's rerouted mark the first time one of its zones is given fallback channels
that carry the segment (R95). -/
def noteReroute (p : PatternId) (pos : SegmentPosition) (zs : List Cabin) (s : State) : State :=
  match entryFor s p, zs.find? (callsFallback s pos) with
  | some e, some z =>
    if e.rerouted || (liveFallback s).isEmpty then s
    else
      post .chimeRerouted p.val
        (u8 (zoneCode (.cabin z)) ++ (u8 (liveFallback s).length ++ ((liveFallback s).map (fun c => u8 (chanCode c))).flatten))
        (modEntry p (fun e => { e with rerouted := true }) s)
  | _, _ => s

/-- The zones an entry sounds in. -/
def zonesOf (s : State) (p : PatternId) : List Cabin :=
  match entryFor s p with
  | some e => e.zones.toList
  | none => []

/-- Begins the tone of the segment a voice is at: its channels are chosen and its paths formed (R94 to R96). -/
def beginTone (v : VoiceId) (x : Voice) (s : State) : State :=
  let g := presentSegment s x
  noteReroute x.pattern g.position (zonesOf s x.pattern)
    (setVoice v
      (some { x with
        phase := .tone, remaining := g.duration, level := g.level
        paths := chimePaths s g.level g.position (zonesOf s x.pattern) [] }) s)

/-! ### The CHIME entries of the cabin zones (R47, R93) -/

/-- Whether some voice plays in a zone (R93). -/
def playsIn (s : State) (z : Cabin) : Bool := s.chimes.queue.any (fun e => e.voice.isSome && e.zones.get z)

/-- The CHIME entry (R47). -/
def chimeEntry : Entry := { cls := .chime, src := some .chime, deferred := false }

/-- The CHIME entry inserted in each zone in which a voice now plays; a zone that holds one keeps it (R47, R90, R93). -/
def insertChimes (s : State) : State :=
  (Cabin.all.filter (playsIn s)).foldl (fun s z => insertEntry (.cabin z) chimeEntry s) s

/-- The CHIME entry removed from each zone in which no voice now plays (R47, R91 step (4), R93). -/
def removeChimes (s : State) : State :=
  (Cabin.all.filter (fun z => !playsIn s z)).foldl (fun s z => removeEntry (.cabin z) .chime s) s

/-! ### Taking and preempting (R90, R91) -/

/-- A voice takes the first QUEUED entry, if there is one: it begins its tone, and the CHIME entry comes to the zones of the
entry (R90). CHIME_REROUTED of that tone precedes ZONE_STATE (DESIGN CHOICE, log 22). -/
def takeEntry (v : VoiceId) (s : State) : State :=
  match firstQueued s with
  | none => s
  | some e =>
    let t := (modEntry e.pattern (fun e => { e with voice := some v, played := true }) s).modChimes
      (fun c => { c with nextStart := c.nextStart + 1 })
    insertChimes
      (beginTone v
        { pattern := e.pattern, rep := e.reached, seg := 1, phase := .tone, remaining := 0, start := s.chimes.nextStart
          level := 0, paths := [] } t)

/-- An IDLE voice takes an entry; a PLAYING one goes on. -/
def takeIfIdle (v : VoiceId) (s : State) : State := if (voiceOf s v).isNone then takeEntry v s else s

/-- The voice of the lower-ranked playing entry while both voices play (R91). -/
def lowerRanked (s : State) : Option (VoiceId × Voice) :=
  match s.chimes.v1, s.chimes.v2 with
  | some a, some b =>
    let pa := priorityOf s a.pattern
    let pb := priorityOf s b.pattern
    if pb < pa ∨ (pa = pb ∧ b.start < a.start) then some (.v1, a) else some (.v2, b)
  | _, _ => none

/-- The preemption of R91, when the first QUEUED entry outranks the lower-ranked playing entry: the voice takes that entry,
with its CHIME entries, before the CHIME entries of zones in which neither voice now plays are removed. -/
def preempt (s : State) : State :=
  match lowerRanked s, firstQueued s with
  | some (v, x), some e =>
    if priorityOf s e.pattern < priorityOf s x.pattern then
      removeChimes (takeEntry v (setVoice v none (modEntry x.pattern (fun e => { e with voice := none }) s)))
    else s
  | _, _ => s

/-- The voices look at the queue: idle voices take entries, V1 first, and then a preemption may follow (R90, R91). -/
def voicesLook (s : State) : State := preempt (takeIfIdle .v2 (takeIfIdle .v1 s))

/-! ### Ends -/

/-- Why a chime ended (section 12.4). -/
inductive ChimeEnd where
  | completed | cancelled | cutShort
  deriving DecidableEq, Repr

/-- CHIME_ENDED cause. -/
def ChimeEnd.code : ChimeEnd → Nat
  | .completed => 0
  | .cancelled => 1
  | .cutShort => 2

/-- Ends an entry: its voice, if it plays, stops at once, the entry is removed and CHIME_ENDED is posted, and the CHIME
entries of zones in which no voice then plays are removed before a voice takes another entry (R89, R92, R93). CHIME_ENDED
precedes ZONE_STATE (DESIGN CHOICE, log 22). -/
def endEntry (e : ChimeEntry) (cause : ChimeEnd) (s : State) : State :=
  let s1 :=
    match e.voice with
    | some v => setVoice v none s
    | none => s
  removeChimes
    (post .chimeEnded e.pattern.val (u8 cause.code ++ (cabinSetField e.zones ++ bit e.played)) (dropEntry e.pattern s1))

/-! ### Playing by time (R92) -/

/-- The next repeat begins at segment 1. -/
def nextRepeat (v : VoiceId) (x : Voice) (s : State) : State :=
  beginTone v { x with rep := x.rep + 1, seg := 1 } (modEntry x.pattern (fun e => { e with reached := x.rep + 1 }) s)

/-- The repeat gap, which takes no time when it is 0. -/
def repeatGap (v : VoiceId) (x : Voice) (s : State) : State :=
  let gap := (patternAt s x.pattern).repeatGap
  if gap = 0 then nextRepeat v x s
  else setVoice v (some { x with phase := .repeatGap, remaining := gap }) s

/-- The end of a repeat. -/
def repeatEnd (v : VoiceId) (x : Voice) (s : State) : State :=
  match entryFor s x.pattern with
  | none => setVoice v none s
  | some e =>
    match e.remaining with
    | .continuous => repeatGap v x s
    | .count n =>
      if 1 < n then repeatGap v x (modEntry x.pattern (fun e => { e with remaining := .count (n - 1) }) s)
      else voicesLook (endEntry e (if e.cutShort then .cutShort else .completed) s)

/-- The end of a segment's gap: the next segment, or the end of the repeat. -/
def gapEnd (v : VoiceId) (x : Voice) (s : State) : State :=
  if x.seg < (patternAt s x.pattern).count then beginTone v { x with seg := x.seg + 1 } s else repeatEnd v x s

/-- The end of a segment's tone: its gap after, which takes no time when it is 0. -/
def toneEnd (v : VoiceId) (x : Voice) (s : State) : State :=
  let gap := (presentSegment s x).gapAfter
  if gap = 0 then gapEnd v x s else setVoice v (some { x with phase := .gap, remaining := gap }) s

/-- The end of a voice's present phase. -/
def phaseEnd (v : VoiceId) (x : Voice) (s : State) : State :=
  match x.phase with
  | .tone => toneEnd v x s
  | .gap => gapEnd v x s
  | .repeatGap => nextRepeat v x s

/-! ### Requests (R87, R88) -/

/-- What became of a chime request. -/
inductive ChimeOutcome where
  | new (dropped : Option PatternId)
  | merged
  | full
  deriving DecidableEq, Repr

/-- A new entry for a pattern (R87). -/
def newEntry (s : State) (p : PatternId) (t : Pattern) (zones : CabinSet) : ChimeEntry :=
  { pattern := p, zones := zones, remaining := t.repeats, voice := none, arrival := s.chimes.nextArrival
    rerouted := false, cutShort := false, reached := 1, played := false }

/-- The zones a merge adds to a PLAYING entry get channels, paths and CHIME entries from that moment, whatever the voice's
phase: the channels are those of the segment it stands in (R93). A voice in a gap sends silence on them until its next
tone chooses afresh (R92, R96). -/
def joinTone (v : VoiceId) (p : PatternId) (added : CabinSet) (s : State) : State :=
  match voiceOf s v with
  | none => s
  | some x =>
    let g := presentSegment s x
    insertChimes
      (noteReroute p g.position added.toList
        (setVoice v (some { x with paths := chimePaths s x.level g.position added.toList x.paths }) s))

/-- The merge of R87. -/
def mergeChime (e : ChimeEntry) (t : Pattern) (zones : CabinSet) (s : State) : State :=
  let s1 := modEntry e.pattern
    (fun e => { e with zones := e.zones.union zones, remaining := t.repeats, cutShort := false }) s
  match e.voice with
  | some v => joinTone v e.pattern (zones.minus e.zones) s1
  | none => s1

/-- The three ways of R87 with R88, and the voices' look at the queue. -/
def takeChime (p : PatternId) (t : Pattern) (zones : CabinSet) (s : State) : State × ChimeOutcome :=
  match entryFor s p with
  | some e => (voicesLook (mergeChime e t zones s), .merged)
  | none =>
    if s.chimes.queue.length < Config.chimeCapacity then
      (voicesLook (placeChime (newEntry s p t zones) s), .new none)
    else
      match lastQueued s with
      | none => (s, .full)
      | some e =>
        if t.priority < priorityOf s e.pattern then
          let s1 := post .chimeDropped e.pattern.val
            (cabinSetField e.zones ++ (u8 (priorityOf s e.pattern) ++ u8 p.val)) (dropEntry e.pattern s)
          (voicesLook (placeChime (newEntry s1 p t zones) s1), .new (some e.pattern))
        else (s, .full)

/-- Whether some zone of a set is served (R87 check 3). -/
def anyServed (s : State) (zones : CabinSet) : Bool := zones.toList.any (isServed s.install)

/-! ### Fail-safe entry (R97) -/

/-- Cuts one CONTINUOUS entry short, by its state and phase (R97 step (1)). -/
def cutEntry (s : State) (e : ChimeEntry) : State :=
  if e.remaining = .continuous then
    let inGap : Bool :=
      match e.voice with
      | some v => (voiceOf s v).map Voice.phase == some .repeatGap
      | none => false
    if inGap then endEntry e .cutShort s
    else modEntry e.pattern (fun e => { e with remaining := .count 1, cutShort := true }) s
  else s

/-- The fail-safe chime's request (R97 step (2)). -/
def failsafeChime (s : State) : State :=
  match s.safety.config.chime with
  | none => s
  | some p =>
    match s.patterns.table[p] with
    | none => s
    | some t =>
      if anyServed s s.safety.config.chimeZones then (takeChime p t s.safety.config.chimeZones s).1 else s

/-- The Signal-Sound Generator on the fail-safe entry signal (R97). The entries are cut in the queue's order, and the voices
look at the queue once, after all cuts, V1 first (DESIGN CHOICE, log 22). -/
def failsafeSounds (s : State) : State := failsafeChime (voicesLook (s.chimes.queue.foldl cutEntry s))

/-- Both voices stopped and the queue emptied, without reports (R98). -/
def silenceChimes (s : State) : State :=
  s.modChimes (fun c => { c with queue := [], v1 := none, v2 := none })

end Sys2Proof.Machine
end

