-- ==== Sys2Proof/Machine/Reception.lean ====
section
/-! DEFINITION. What the receivers and the Station List Manager share: quality (R102, R103), tunes and clears (R101, R108,
R110), the station list (R115 to R117), the sweep (R119, R120), the RX-B arbiter (R122, R123), alternate following (R124
to R127), the traffic watch (R128 to R130), and the data groups (R111 to R113). -/

namespace Sys2Proof.Machine

/-! ### Receivers -/

/-- A receiver. -/
def receiver (s : State) : Rx → Receiver
  | .a => s.rx.a
  | .b => s.rx.b

/-- Changes RX-A. -/
def modA (f : Receiver → Receiver) (s : State) : State := s.modRx (fun r => { r with a := f r.a })

/-- Changes RX-B. -/
def modB (f : Receiver → Receiver) (s : State) : State := s.modRx (fun r => { r with b := f r.b })

/-- Changes a receiver. -/
def modReceiver (x : Rx) (f : Receiver → Receiver) (s : State) : State :=
  match x with
  | .a => modA f s
  | .b => modB f s

/-- The quality Q of one measurement (R102). -/
def quality (b : Band) (m : Measurement) : Nat :=
  match b with
  | .fm =>
    (max 0 (clampInt (2 * ((m.level : Int) - 10)) 0 100 - ((m.multipath / 2 : Nat) : Int)
      - ((m.adjacent / 4 : Nat) : Int))).toNat
  | .am => (max 0 (clampInt (2 * ((m.level : Int) - 20)) 0 100 - ((m.adjacent / 4 : Nat) : Int))).toNat

/-- The smoothed quality after one more measurement (R103). -/
def smoothed (qs q : Nat) : Nat := (3 * qs + q) / 4

/-- STATION_DATA's subject: 0 for RX-A and 1 for RX-B (R113). -/
def rxSubject : Rx → Nat
  | .a => 0
  | .b => 1

/-- Posts STATION_DATA for a receiver as its record stands (R113). -/
def postStationData (x : Rx) (s : State) : State :=
  let r := receiver s x
  post .stationData (rxSubject x)
    (stationField r.station ++ (codeField r.record.code ++ (bit r.record.carrier ++ (bit r.record.trafficOn ++
      bit r.record.name.isSome)))) s

/-- Whether two records differ in what STATION_DATA reports: the station code, the name or a traffic flag (R113). -/
def DataRecord.reportDiffers (r q : DataRecord) : Bool :=
  r.code != q.code || r.name != q.name || r.carrier != q.carrier || r.trafficOn != q.trafficOn

/-- Whether two records differ in what a receiver hands on: the station code, the name, a traffic flag or the alternate
list (R112). -/
def DataRecord.handsOn (r q : DataRecord) : Bool := r.reportDiffers q || r.alternates != q.alternates

/-- Whether a receiver in a state posts STATION_DATA for a change of its record (R113). -/
def reportsData (x : Rx) (st : RxState) : Bool :=
  match x with
  | .a => st != .idle
  | .b => st == .tuning || st == .locked

/-- Changes a receiver, with STATION_DATA when its record changes in what the report carries. The state before the change
decides whether the receiver reports (R113). -/
def changeReceiver (x : Rx) (f : Receiver → Receiver) (s : State) : State :=
  let r := receiver s x
  let t := modReceiver x f s
  if reportsData x r.state && r.record.reportDiffers (f r).record then postStationData x t else t

/-! ### The station list (R115 to R117) -/

/-- A station's place in the band-then-index order. -/
def stationKey (st : Station) : Nat := bandCode st.band * 512 + st.index

/-- The entry of a station. -/
def listEntry (s : State) (st : Station) : Option ListEntry := s.slm.entries.find? (fun e => e.station == st)

/-- An entry placed in order (R117). -/
def placeEntry (e : ListEntry) (l : List ListEntry) : List ListEntry :=
  l.takeWhile (fun x => stationKey x.station < stationKey e.station) ++
    e :: l.dropWhile (fun x => stationKey x.station < stationKey e.station)

/-- The lower of two candidates for removal: the later of equal quality (R117). -/
def lowerCandidate (best : Option ListEntry) (e : ListEntry) : Option ListEntry :=
  match best with
  | none => some e
  | some b => if e.quality ≤ b.quality then some e else some b

/-- The candidate for removal: the unpinned entry of lowest quality, the last in list order of equals (R117). -/
def removalCandidate (s : State) : Option ListEntry :=
  (s.slm.entries.filter (fun e => !isPinned s e)).foldl lowerCandidate none

/-- A new entry, seen now (R116). -/
def freshEntry (st : Station) (q : Nat) : ListEntry :=
  { station := st, quality := q, code := none, name := none, carrier := false, alternates := [], age := 0, seen := true }

/-- Posts STATION_LIST_CHANGED (R117). -/
def postListChanged (s : State) : State :=
  post .stationListChanged 0
    (u8 s.slm.entries.length ++ (u8 (s.slm.entries.filter (fun e => e.station.band == .fm)).length ++
      u8 s.slm.completed)) s

/-- Inserts an entry in a list with room for it. Every insertion counts as made during the sweep, whatever the sweep's state
(DESIGN CHOICE, log 14). -/
def insertListed (e : ListEntry) (s : State) : State :=
  postListChanged (s.modSlm (fun m => { m with entries := placeEntry e m.entries, inserted := m.inserted + 1 }))

/-- Removes the entry of a station, with STATION_LIST_CHANGED (R117). -/
def removeListed (st : Station) (s : State) : State :=
  postListChanged (s.modSlm (fun m => { m with entries := m.entries.filter (fun e => e.station != st) }))

/-- The insertion of RX-A's current station or of the REAR_LISTEN station, made whatever the qualities (R117). -/
def insertInUse (e : ListEntry) (s : State) : State :=
  if s.slm.entries.length < Config.listCapacity then insertListed e s
  else
    match removalCandidate s with
    | some c => insertListed e (removeListed c.station s)
    | none => s

/-- The insertion from the sweep, made only where a full list's candidate is weaker (R117). -/
def insertFromSweep (e : ListEntry) (s : State) : State :=
  if s.slm.entries.length < Config.listCapacity then insertListed e s
  else
    match removalCandidate s with
    | some c => if c.quality < e.quality then insertListed e (removeListed c.station s) else s
    | none => s

/-- Changes the entry of a station, if there is one. -/
def modListed (st : Station) (f : ListEntry → ListEntry) (s : State) : State :=
  s.modSlm (fun m => { m with entries := m.entries.map (fun e => if e.station == st then f e else e) })

/-- An entry seen with a quality (R116). -/
def ListEntry.sighted (q : Nat) (e : ListEntry) : ListEntry := { e with quality := q, age := 0, seen := true }

/-- A RX-A or REAR_LISTEN measurement applied to its station's entry, which is inserted if it is missing (R116). -/
def sightInUse (st : Station) (q : Nat) (s : State) : State :=
  if (listEntry s st).isSome then modListed st (ListEntry.sighted q) s else insertInUse (freshEntry st q) s

/-- One alternate index offered to a list of at most twelve (R112, R116). -/
def offerAlternate (own : Nat) (l : List Nat) (i : Nat) : List Nat :=
  if 410 < i || i == own || l.contains i || Config.alternateCapacity ≤ l.length then l else l ++ [i]

/-- An entry under a confirmed station code: it takes a code that it lacks, and another code empties its name and its
alternate list (R116). -/
def ListEntry.coded (code : Option Nat) (e : ListEntry) : ListEntry :=
  match code with
  | none => e
  | some c =>
    match e.code with
    | none => { e with code := some c }
    | some c' => if c = c' then e else { e with code := some c, name := none, alternates := [] }

/-- A receiver's record applied to an entry: the code where the record is handed on, the name when it becomes present or
changes, the carrier flag at a flags payload, and the alternates appended (R116, log 9). -/
def ListEntry.learned (old new : DataRecord) (handed flags : Bool) (e : ListEntry) : ListEntry :=
  let e1 := if handed then e.coded new.code else e
  let e2 := if new.name.isSome && new.name != old.name then { e1 with name := new.name } else e1
  let e3 := if flags then { e2 with carrier := new.carrier } else e2
  { e3 with alternates := (new.alternates.drop old.alternates.length).foldl (offerAlternate e.station.index) e3.alternates }

/-! ### RX-B's orders and the arbiter (R109, R122, R123) -/

/-- Orders RX-B to a station: its record is cleared and it settles there (R101, R109). -/
def orderB (st : Station) (state : RxState) (s : State) : State :=
  changeReceiver .b
    (fun r => { r with state := state, station := st, settle := some (settleMs st.band), qs := none,
                       record := DataRecord.empty }) s

/-- Releases RX-B to IDLE (R109). -/
def idleB (s : State) : State :=
  changeReceiver .b (fun r => { r with state := .idle, settle := none, qs := none, record := DataRecord.empty }) s

/-- Posts RX_B_HOLDER: the holder and, for REAR_LISTEN and AF_CHECK, the station RX-B is ordered to (R123). -/
def postHolder (st : Station) (s : State) : State :=
  post .rxBHolder 0
    (u8 s.slm.holder.code ++
      (match s.slm.holder with
        | .rear _ | .check => stationField st
        | _ => [])) s

/-- Sets the holder; a dwell in flight is abandoned. -/
def setHolder (h : Holder) (s : State) : State := s.modSlm (fun m => { m with holder := h, dwell := none })

/-- The sweep's visit of its position: a quick measure is ordered, to be judged by the list threshold that stands as it is
ordered (R119 step (1); log 14). -/
def visitPosition (s : State) : State :=
  orderB s.slm.position .scanning (s.modSlm (fun m => { m with dwell := none, quickThreshold := m.threshold }))

/-- RX-B passes to SCAN, or to none and IDLE (R123, R134). RX_B_HOLDER precedes STATION_DATA of the cleared record (DESIGN
CHOICE, log 24). -/
def releaseB (s : State) : State :=
  if s.slm.scanning && isPlaying s then visitPosition (postHolder s.slm.position (setHolder .scan s))
  else idleB (postHolder s.slm.position (setHolder .none s))

/-- SCAN is requested (R122): granted while there is no holder. RX_B_HOLDER precedes STATION_DATA of the cleared record (DESIGN
CHOICE, log 24). -/
def requestScan (s : State) : State :=
  if s.slm.holder = .none then visitPosition (postHolder s.slm.position (setHolder .scan s)) else s

/-- Releases AF_CHECK if it is held (R127). -/
def releaseCheck (s : State) : State := if s.slm.holder = .check then releaseB s else s

/-! ### Traffic watch (R128 to R130) -/

/-- The record's station code is judged for its carrier flag (R128). -/
def judgeCarrier (s : State) : State :=
  match s.rx.a.record.code with
  | none => s
  | some c =>
    let note : CarrierNote := { station := s.rx.a.station, code := c }
    if s.rx.a.record.carrier || s.tw.note == some note then s
    else
      post .trafficNoCarrier 0 (stationField s.rx.a.station ++ u16 c) (s.modTw (fun w => { w with note := some note }))

/-- Why RX-A's record was cleared, for the traffic watch (R130). -/
inductive ClearCause where
  | retune | follow | otherCode
  deriving DecidableEq, Repr

/-- What a clear of RX-A's record does to following and to the traffic watch (R124, R130). -/
def afterClear (cause : ClearCause) (s : State) : State :=
  let s1 := (if s.af.state = .low then s.modAf (fun f => { f with state := .idle, timer := none }) else s).modTw
    (fun w => { w with codeHeld := none })
  match cause with
  | .retune => endAnnouncement .retune s1
  | .otherCode => endAnnouncement .stationChange s1
  | .follow => if s1.tw.announcement.isSome then s1.modTw (fun w => { w with bridge := some 2000 }) else s1

/-- The traffic watch on a change of RX-A's record that is not a clear: the time a code has been held starts, a rise of
traffic-on begins an announcement, a fall ends it, and a flags payload with traffic-on 1 stops the bridge (R129, R130). -/
def watchFlags (old new : DataRecord) (flags : Bool) (s : State) : State :=
  let s1 := if new.code != old.code then s.modTw (fun w => { w with codeHeld := new.code.map (fun _ => 0) }) else s
  let s2 := if flags && new.trafficOn then s1.modTw (fun w => { w with bridge := none }) else s1
  if !old.trafficOn && new.trafficOn then
    if s2.tw.on && s2.tw.announcement.isNone then beginAnnouncement s2 else s2
  else if old.trafficOn && !new.trafficOn then endAnnouncement .fall s2
  else s2

/-! ### RX-A's tunes (R101, R104, R106, R108) -/

/-- Begins a tune of RX-A. A tune of alternate following keeps the old Qs while its decision is open (R108).
STATION_DATA of the cleared record precedes TRAFFIC_ENDED (DESIGN CHOICE, log 24). -/
def tuneA (st : Station) (purpose : TunePurpose) (mute : TunerMute) (cause : ClearCause) (s : State) : State :=
  let keep := purpose == .switch || purpose == .blind
  afterClear cause
    ((changeReceiver .a
      (fun r => { r with state := .tuning, station := st, settle := some (settleMs st.band),
                         qs := if keep then r.qs else none, mute := mute, record := DataRecord.empty }) s).modRx
      (fun r => { r with purpose := purpose, seek := none }))

/-- A retune of RX-A for TUNE, STEP or START_AUDIO (R101, R104). -/
def retune (st : Station) (s : State) : State := tuneA st .retune .off .retune s

/-- Sets RX-A's last tuned station to the station it is on (R100). -/
def setLastTuned (s : State) : State := s.modRx (fun r => { r with lastTuned := r.a.station })

/-- RX-A enters LOCKED with a Qs and its tuner mute OFF (R101, R106, R108). -/
def lockA (q : Nat) (s : State) : State :=
  (modA (fun r => { r with state := .locked, settle := none, qs := some q, mute := .off }) s).modRx
    (fun r => { r with seek := none })

/-! ### Alternate following (R124 to R127) -/

/-- The conditions of R124 for leaving IDLE and for staying in LOW, at a receipt of RX-A's Qs. -/
def followWanted (s : State) (qs : Nat) : Bool :=
  s.af.follow && isPlaying s && s.rx.a.state == .locked && s.rx.a.station.band == .fm && s.rx.a.mute == .off &&
  s.rx.a.record.code.isSome && !s.rx.a.record.alternates.isEmpty && decide (qs < Config.followThreshold)

/-- Alternate following at a receipt of RX-A's Qs (R124). -/
def followReceipt (qs : Nat) (s : State) : State :=
  match s.af.state with
  | .idle =>
    if followWanted s qs then s.modAf (fun f => { f with state := .low, timer := some 2000 }) else s
  | .low =>
    if followWanted s qs then s else s.modAf (fun f => { f with state := .idle, timer := none })
  | _ => s

/-- Following back to IDLE, its attempt's fields absent. -/
def followIdle (s : State) : State :=
  s.modAf fun f =>
    { f with state := .idle, timer := none, oldIndex := none, code := none, current := none, candidates := []
             tried := 0, passed := none }

/-- One candidate placed by descending quality, after its equals (R124). -/
def placeCandidate (l : List (Nat × Nat)) (c : Nat × Nat) : List (Nat × Nat) :=
  l.takeWhile (fun x => c.2 ≤ x.2) ++ c :: l.dropWhile (fun x => c.2 ≤ x.2)

/-- The quality of an FM index's entry in the station list. -/
def listedQuality (s : State) (i : Nat) : Option Nat := (listEntry s ⟨.fm, i⟩).map ListEntry.quality

/-- The candidate list of an attempt: listed alternates by descending quality, then the others (R124). -/
def candidateList (s : State) (alternates : List Nat) : List Nat :=
  ((alternates.filterMap (fun i => (listedQuality s i).map (fun q => (i, q)))).foldl placeCandidate []).map Prod.fst ++
    alternates.filter (fun i => (listedQuality s i).isNone)

/-- The old index of an attempt, as a station. -/
def oldStation (s : State) : Station := ⟨.fm, s.af.oldIndex.getD 0⟩

/-- Tries the next candidate: by a check on RX-B where AF_CHECK is granted, blind otherwise; with none left the attempt is
exhausted (R122, R124, R127). RX_B_HOLDER of a check precedes STATION_DATA of RX-B's cleared record (DESIGN CHOICE, log 24). -/
def tryNext (s : State) : State :=
  match s.af.candidates with
  | [] =>
    (releaseCheck (post .afFailed 0 (u16 (s.af.oldIndex.getD 0) ++ u8 s.af.tried) s)).modAf fun f =>
      { f with state := .backoff, timer := some 10000, oldIndex := none, code := none, current := none, tried := 0
               passed := none }
  | c :: rest =>
    let s1 := s.modAf fun f =>
      { f with state := .attempt, timer := none, current := some c, candidates := rest, tried := f.tried + 1
               passed := none }
    match s1.slm.holder with
    | .rear _ => tuneA ⟨.fm, c⟩ .blind .blind .follow s1
    | .check => (orderB ⟨.fm, c⟩ .checking s1).modAf (fun f => { f with timer := some 150 })
    | _ =>
      (orderB ⟨.fm, c⟩ .checking (postHolder ⟨.fm, c⟩ (setHolder .check s1))).modAf
        (fun f => { f with timer := some 150 })

/-- The attempt begins (R124). -/
def beginAttempt (s : State) : State :=
  tryNext (s.modAf fun f =>
    { f with state := .attempt, timer := none, oldIndex := some s.rx.a.station.index, code := s.rx.a.record.code
             candidates := candidateList s s.rx.a.record.alternates, tried := 0 })

/-- RX-A tunes back to the old index (R126, R127). -/
def tuneBack (mute : TunerMute) (s : State) : State := tuneA (oldStation s) .back mute .follow s

/-- How a candidate was tried (section 12.4). -/
inductive Means where
  | rxB | blind
  deriving DecidableEq, Repr

/-- AF_SWITCHED means. -/
def Means.code : Means → Nat
  | .rxB => 0
  | .blind => 1

/-- RX-A stays on the candidate: the last tuned station becomes it, and AF_SWITCHED ends the attempt (R125, R126). -/
def switched (means : Means) (s : State) : State :=
  followIdle (releaseCheck
    (post .afSwitched 0
      (u16 (s.af.oldIndex.getD 0) ++ (u16 s.rx.a.station.index ++ (u8 means.code ++ u8 (s.af.passed.getD 0))))
      (setLastTuned s)))

/-- Why a verified candidate was left (section 12.4). -/
inductive RevertCause where
  | codeMismatch | timeout | followOff
  deriving DecidableEq, Repr

/-- AF_REVERTED cause. -/
def RevertCause.code : RevertCause → Nat
  | .codeMismatch => 0
  | .timeout => 1
  | .followOff => 2

/-- Leaves VERIFY: AF_REVERTED is posted and RX-A tunes back, its mute staying OFF (R126, R127). AF_REVERTED precedes
STATION_DATA of the cleared record (DESIGN CHOICE, log 24). -/
def reverted (cause : RevertCause) (s : State) : State :=
  (tuneBack .off
    (post .afReverted 0
      (u16 (s.af.current.getD 0) ++ (u16 (s.af.oldIndex.getD 0) ++ u8 cause.code)) s)).modAf
    (fun f => { f with state := .attempt, timer := none })

/-- A request on RX-A abandons an attempt without report (R127). -/
def abandonAttempt (s : State) : State := followIdle (releaseCheck s)

/-- The check on RX-B passes: AF_CHECK is released and RX-A moves to the candidate with the mute SWITCH (R125). -/
def checkPassed (s : State) : State :=
  tuneA ⟨.fm, s.af.current.getD 0⟩ .switch .switch .follow
    ((releaseCheck s).modAf (fun f => { f with timer := none }))

/-- Following on a change of RX-B's record during a check: a confirmed code passes or fails the candidate (R125). -/
def judgeCheck (s : State) : State :=
  if s.slm.holder = .check ∧ s.af.state = .attempt ∧ s.rx.b.state = .checking then
    match s.rx.b.record.code with
    | none => s
    | some c => if s.af.code = some c then checkPassed s else tryNext s
  else s

/-- Following on a change of RX-A's record in VERIFY (R126). -/
def judgeVerify (s : State) : State :=
  if s.af.state = .verify then
    match s.rx.a.record.code with
    | none => s
    | some c => if s.af.code = some c then switched .blind s else reverted .codeMismatch s
  else s

/-- REAR_LISTEN is requested for a station (R122, R133): granted whatever the holder. A check in flight is abandoned and
its candidate counts as failed. RX_B_HOLDER is posted first, then STATION_DATA of RX-B's cleared record, then what the attempt
comes to, AF_FAILED among it (DESIGN CHOICE, log 24). -/
def requestRear (st : Station) (s : State) : State :=
  if s.slm.holder = .rear st then s
  else
    let t := orderB st .tuning (postHolder st (setHolder (.rear st) s))
    if s.slm.holder = .check then tryNext t else t

/-! ### The sweep (R119, R120) -/

/-- The sweep's next position upward; none where the sweep is complete (R119 step (4)). -/
def nextPosition (st : Station) (amScanning : Bool) : Option Station :=
  if st.index < topIndex st.band then some ⟨st.band, st.index + 1⟩
  else
    match st.band with
    | .fm => if amScanning then some ⟨.am, 0⟩ else none
    | .am => none

/-- An entry one completed sweep older, where it was not seen (R120 step (1)). -/
def ListEntry.aged (e : ListEntry) : ListEntry := if e.seen then e else { e with age := min 3 (e.age + 1) }

/-- The end of a sweep, up to the next one's position: the steps of R120 in their order, each removal with its
STATION_LIST_CHANGED before SCAN_DONE (R117). -/
def completeSweep (s : State) : State :=
  let s1 := s.modSlm (fun m => { m with entries := m.entries.map ListEntry.aged })
  let gone := s1.slm.entries.filter (fun e => !isPinned s e && e.age == 3)
  let s2 := gone.foldl (fun s e => removeListed e.station s) s1
  let s3 := s2.modSlm fun m =>
    { m with entries := m.entries.map (fun e => { e with seen := false }), completed := (m.completed + 1) % 256
             inserted := 0, position := ⟨.fm, 0⟩, dwell := none }
  postListChanged (post .scanDone 0 (u8 s3.slm.entries.length ++ (u16 s.slm.inserted ++ u8 gone.length)) s3)

/-- The sweep leaves its position for the next, or completes and begins again; the holder is SCAN. -/
def advanceSweep (s : State) : State :=
  match nextPosition s.slm.position s.slm.amScanning with
  | some st => visitPosition (s.modSlm (fun m => { m with position := st }))
  | none => visitPosition (completeSweep s)

/-- Steps (2) and (3) of R119: the list takes the quick measure where it meets the list threshold that stood as it was
ordered (log 14), and RX-B dwells on an FM index whose entry, existing or just inserted, holds no code. -/
def sweepMeasured (q : Nat) (s : State) : State :=
  let st := s.slm.position
  let t :=
    if q < s.slm.quickThreshold then s
    else if (listEntry s st).isSome then modListed st (ListEntry.sighted q) s
    else insertFromSweep (freshEntry st q) s
  match listEntry t st with
  | some e =>
    if st.band = .fm ∧ e.code = none then t.modSlm (fun m => { m with dwell := some 400 }) else advanceSweep t
  | none => advanceSweep t

/-! ### Handing on (R103, R112) -/

/-- A receiver's quantity (R103). -/
def rxQuantity : Rx → Quantity
  | .a => .qualA
  | .b => .qualB

/-- The station whose entry a receiver's measurement updates: RX-A's current station, or the REAR_LISTEN station
(R116). Measurements made while a blind-checked candidate is verified are not applied. -/
def measuredStation (s : State) : Rx → Option Station
  | .a => if s.rx.a.station = s.rx.lastTuned ∧ s.af.state ≠ .verify then some s.rx.lastTuned else none
  | .b =>
    match rearStation s with
    | some st => if s.rx.b.station = st then some st else none
    | none => none

/-- A Qs that has been set or updated is handed on: to the Condition Unit and to the Station List Manager (R103, R116,
R124). The Gain Engine takes it when the command settles. -/
def handOn (x : Rx) (qs : Nat) (s : State) : State :=
  let s1 := receipt (rxQuantity x) qs s
  let s2 :=
    match measuredStation s1 x with
    | some st => sightInUse st qs s1
    | none => s1
  match x with
  | .a => followReceipt qs s2
  | .b => s2

/-- The station whose entry a receiver's record is applied to: for RX-A its current station, for RX-B the REAR_LISTEN
station or the index it dwells on (R116). While RX-A verifies a candidate its record is applied to no entry (DESIGN
CHOICE, log 9). -/
def learnedStation (s : State) : Rx → Option Station
  | .a => if s.rx.a.station = s.rx.lastTuned then some s.rx.lastTuned else none
  | .b =>
    match s.slm.holder with
    | .rear st => some st
    | .scan => if s.slm.dwell.isSome then some s.slm.position else none
    | _ => none

/-- A receiver's record applied to the entry it belongs to (R116). For RX-A the code is applied at a change that the receiver
hands on (R112); for RX-B at each payload and at the run-out of its traffic timer, while it is REAR_LISTEN or dwells
(DEDUCED, log 9). -/
def learnRecord (x : Rx) (old new : DataRecord) (flags : Bool) (s : State) : State :=
  match learnedStation s x with
  | some st => modListed st (ListEntry.learned old new (x == .b || old.handsOn new) flags) s
  | none => s

/-- A dwell ends when RX-B's record holds a station code and a name (R119 step (3)). -/
def dwellFilled (s : State) : State :=
  if s.slm.holder = .scan ∧ s.slm.dwell.isSome ∧ s.rx.b.record.code.isSome ∧ s.rx.b.record.name.isSome then
    advanceSweep s
  else s

/-! ### Data groups (R111, R112) -/

/-- A payload applied to a record of a receiver on an index (R112). The group restarts the traffic timer (R111). -/
def DataRecord.applied (r : DataRecord) (own : Nat) (p : Payload) : DataRecord :=
  let r := { r with timer := some 0 }
  match p with
  | .name pos c1 c2 => { r with segments := r.segments.set pos (some (c1, c2)) }
  | .flags carrier on => { r with carrier := carrier, trafficOn := on }
  | .alternates i j => { r with alternates := offerAlternate own (offerAlternate own r.alternates i) j }

/-- What a group does to a record's codes (R111). -/
inductive GroupEffect where
  /-- The code becomes the candidate and the payload is discarded. -/
  | proposed
  /-- The payload is applied, the code being held or just confirmed. -/
  | taken
  /-- The record is cleared, the code becomes the candidate and the payload is discarded. -/
  | replaced
  deriving DecidableEq, Repr

/-- The table of R111. -/
def DataRecord.effectOf (r : DataRecord) (code : Nat) : GroupEffect :=
  match r.code with
  | some c => if c = code then .taken else .replaced
  | none => if r.candidate = some code then .taken else .proposed

/-- A record after a group of a receiver on an index (R111, R112). -/
def DataRecord.afterGroup (r : DataRecord) (own code : Nat) (p : Payload) : DataRecord :=
  match r.effectOf code with
  | .proposed => { r with candidate := some code }
  | .replaced => { DataRecord.empty with candidate := some code }
  | .taken => { r with code := some code, candidate := none }.applied own p

/-- Whether a receiver's decoder takes groups: settled on an FM index (R111). -/
def decodes (x : Rx) (r : Receiver) : Bool :=
  r.station.band == .fm && r.settle.isNone &&
  match x with
  | .a => r.state == .locked
  | .b => r.state == .locked || r.state == .scanning || r.state == .checking

/-- Whether a payload is a flags payload. -/
def isFlagsPayload : Payload → Bool
  | .flags _ _ => true
  | _ => false

/-- A record after an applied payload, as the Station List Manager takes it (R112): the entry learns, RX-A's flags go to the
traffic watch, and following or the dwell may go on from it. -/
def handRecord (x : Rx) (old new : DataRecord) (flags : Bool) (s : State) : State :=
  let s1 := learnRecord x old new flags s
  match x with
  | .a => judgeVerify (watchFlags old new flags s1)
  | .b => dwellFilled (judgeCheck s1)

/-- A data group as a receiver's decoder takes it (R111). -/
def takeGroup (x : Rx) (code : Nat) (p : Payload) (s : State) : State :=
  let r := receiver s x
  if decodes x r then
    let new := r.record.afterGroup r.station.index code p
    let t := changeReceiver x (fun r => { r with record := new }) s
    match r.record.effectOf code with
    | .proposed => t
    | .replaced =>
      match x with
      | .a => afterClear .otherCode t
      | .b => t
    | .taken => handRecord x r.record new (isFlagsPayload p) t
  else s

end Sys2Proof.Machine
end

