-- ==== Sys2Proof/Machine/System.lean ====
section
/-! DEFINITION. The commands of chapter 2 and the resets: installation, the safety configuration and its lock, START_AUDIO,
STANDBY, WAKE, RESTART, the power-on reset and the end of BOOT. -/

namespace Sys2Proof.Machine

/-! ### Resets -/

/-- POWER_ON_RESET (R14): every block at its power-on values. The jacks' own level and the waiting commands are not the
part's to reset. -/
def execPowerOnReset (s : State) : Host.Outcome State Fault Refusal :=
  .next { State.reset with pins := s.pins, pending := s.pending }

/-- The jack states at the end of BOOT: a fitted headphone's as sensed, at once and without a report; REMOVED for one that
is not fitted (R136, R137). -/
def senseJacks (s : State) : State :=
  s.modZr fun r =>
    { r with
      hps := { hpl := { r.hps.hpl with jack := hpIsFitted s .hpl && s.pins.jack.hpl }
               hpr := { r.hps.hpr with jack := hpIsFitted s .hpr && s.pins.jack.hpr } } }

/-- PART_READY (R14). -/
def postPartReady (s : State) : State :=
  post .partReady 0
    (u8 s.sc.resetCause.code ++ (bit s.safety.locked ++ (bit (installComplete s.install) ++ u8 (rolesWritten s.install)))) s

/-- The end of BOOT: CONFIG, the jack states, CALL_ACTIVE supplied as 0, PART_READY (R14, R73, R136). -/
def initialised (s : State) : State :=
  postPartReady (receipt .callActive 0 (senseJacks (s.modSc (fun c => { c with opState := .config }))))

/-- INITIALISATION_COMPLETE (R14). Outside BOOT there is no initialisation to complete (log 1). -/
def execInitialisationComplete (s : State) : Host.Outcome State Fault Refusal :=
  .next (if s.sc.opState = .boot then settle (initialised s) else s)

/-- An amplifier's record after RESTART: the state its installation fields give, its load-test result kept (R153). -/
def restartedAmp (i : Install) (k : Amp) (a : AmpChannel) : AmpChannel :=
  { AmpChannel.reset with state := installedState i k, result := a.result }

/-- The Output Stage after RESTART (R153, R156, R157, R158, R162, R163). -/
def restartedOutputs (s : State) : OutputStage :=
  { OutputStage.reset with
    amps := Vector.ofFn (fun k => restartedAmp s.install k s.os.amps[k])
    douts := Vector.ofFn (fun k => installedDout s.install k) }

/-- What RESTART does (R21): all work is abandoned without reports, every output is mute and OFF, the window and load mode
end, the watchdog stops, the state is BOOT, the report queue is empty and the mask clear, and each block takes its power-on
values but for what R21 keeps. The jack states read REMOVED until the end of BOOT senses them (DESIGN CHOICE, log 2). -/
def restarted (s : State) : State :=
  reselect
    { s with
      cp := { ControlPort.reset with reply := s.cp.reply }
      sc := { opState := .boot, resetCause := .restart, failsafeMs := 0 }
      safety := { s.safety with windowOpen := false }
      zr := ZoneRouter.reset
      ge := { paths := [], voicing := s.ge.voicing.map ChannelVoicing.restarted }
      cu := ConditionUnit.reset
      patterns := { s.patterns with load := none }
      chimes := ChimeUnit.reset
      rx := { Receivers.reset with lastTuned := s.rx.lastTuned }
      slm := { StationManager.reset with entries := s.slm.entries.map (fun e => { e with seen := false }) }
      af := Following.reset
      tw := TrafficWatch.reset
      clp := CallContext.reset
      os := restartedOutputs s }

/-- RESTART's own rule (R21). -/
def answerRestart (s : State) : Answer := accept (restarted s) []

/-- RESTART (R21). -/
def execRestart (body : Bytes) (s : State) : Host.Outcome State Fault Refusal :=
  .next (request .restart body answerRestart s)

/-! ### The frame clock's return (R32) -/

/-- The clock returns: PRESENT, CLOCK_RESTORED with the length of the loss, and then a restart of a running canceller with
AEC_STATE, in this order (R32, R147, R149; DESIGN CHOICE, log 24). The length counts from the passage to LOST and is rounded
down to whole units (DESIGN CHOICE, log 23). -/
def restoreClock (s : State) : State :=
  restartCanceller
    (post .clockRestored 0 (u16 (min (s.zr.lostMs / 100) 65535))
      (s.modZr (fun r => { r with clockLost := false, lostMs := 0 })))

/-! ### Installation (R22 to R24) -/

/-- Whether a field of the installation record has been written. -/
def installSet (i : Install) : InstallField → Bool
  | .variant => i.variant.isSome
  | .ampRole k => i.ampRole[k].isSome
  | .doutRole k => i.doutRole[k].isSome
  | .bridge p => i.bridge[p].isSome
  | .hpFitted h => (i.hpFitted.get h).isSome
  | .micFitted m => (i.micFitted.get m).isSome
  | .clockRole => i.clockRole.isSome

/-- The even channel of a pair. -/
def evenOf (p : Fin 5) : Amp := ⟨2 * p.val + 1, by omega⟩

/-- Whether R23 refuses a write with CONFLICT. -/
def installConflict (i : Install) (f : InstallField) (v : InstallValue) : Bool :=
  match f, v with
  | .bridge p, .flag true =>
    match i.ampRole[evenOf p] with
    | none => false
    | some r => r != .unused
  | .ampRole k, _ => isBridgedEven i k
  | _, _ => false

/-- A value stored in a field. A value of another field's kind is not one a body can carry. -/
def Install.write (i : Install) (f : InstallField) (v : InstallValue) : Install :=
  match f, v with
  | .variant, .number n => { i with variant := some n }
  | .ampRole k, .role r => { i with ampRole := i.ampRole.set k (some r) }
  | .doutRole k, .role r => { i with doutRole := i.doutRole.set k (some r) }
  | .bridge p, .flag b => { i with bridge := i.bridge.set p (some b) }
  | .hpFitted h, .flag b => { i with hpFitted := i.hpFitted.set h (some b) }
  | .micFitted m, .flag b => { i with micFitted := i.micFitted.set m (some b) }
  | .clockRole, .clock r => { i with clockRole := some r }
  | _, _ => i

/-- An amplifier's record changed by an installation write. -/
def modAmp (k : Amp) (f : AmpChannel → AmpChannel) (s : State) : State :=
  s.modOs (fun o => { o with amps := o.amps.set k (f o.amps[k]) })

/-- A channel that becomes the even channel of a BRIDGED pair: BRIDGED, unless it is in DIAG and finishes its checks first;
a waiting channel leaves the load test (R153, R159). -/
def bridgeEven (k : Amp) (s : State) : State :=
  (modAmp k (fun a => if a.state = .diag then a else { a with state := .bridged }) s).modOs
    (fun o => { o with loadTest := o.loadTest.map (fun t => { t with waiting := t.waiting.filter (· != k) }) })

/-- What a stored installation value changes in the blocks that read it (R22). -/
def installEffect (f : InstallField) (v : InstallValue) (s : State) : State :=
  match f, v with
  | .ampRole k, .role (.zone _ _) => modAmp k (fun a => if a.state = .unused then { a with state := .off } else a) s
  | .doutRole k, .role (.zone _ _) => s.modOs (fun o => { o with douts := o.douts.set k .off })
  | .bridge p, .flag true => bridgeEven (evenOf p) s
  | .hpFitted h, .flag true => modHp h (fun r => { r with jack := s.pins.jack.get h }) s
  | .micFitted _, _ => remakeSelection false s
  | .clockRole, .clock .leader => if s.zr.clockLost then restoreClock s else s
  | _, _ => s

/-- SET_INSTALL's own rule: the checks of R22 in order. -/
def answerInstall (body : Bytes) (s : State) : Answer :=
  match body with
  | [field, hi, lo] =>
    match readInstallField field with
    | none => refuse s .outOfRange
    | some f =>
      match readInstallValue f hi lo with
      | none => refuse s .outOfRange
      | some v =>
        if installSet s.install f then refuse s .alreadySet
        else if installConflict s.install f v then refuse s .conflict
        else accept (installEffect f v (s.modInstall (fun i => i.write f v))) [field, hi, lo]
  | _ => refuse s .badLength

/-- SET_INSTALL (R22). -/
def execSetInstall (body : Bytes) (s : State) : Host.Outcome State Fault Refusal :=
  .next (request .setInstall body (answerInstall body) s)

/-- A two-valued installation field, or its mark. -/
def flagField (o : Option Bool) : Bytes := opt8 (o.map Bool.toNat)

/-- GET_INSTALL's own rule (R22). The fields stand in the order of the table of section 2.6, with the mark BRIDGED beside
each even channel's role; their layout is DEDUCED from R164 (log 4). -/
def answerGetInstall (s : State) : Answer :=
  let i := s.install
  accept s
    (codeField i.variant ++
      ((Amp.all.map (fun k => roleField i.ampRole[k] ++ (if isEvenAmp k then bit (isBridgedEven i k) else []))).flatten ++
        ((Dout.all.map (fun k => roleField i.doutRole[k])).flatten ++
          ((i.bridge.toList.map flagField).flatten ++
            ((Hp.all.map (fun h => flagField (i.hpFitted.get h))).flatten ++
              ((Mic.all.map (fun m => flagField (i.micFitted.get m))).flatten ++
                opt8 (i.clockRole.map ClockRole.code)))))))

/-- GET_INSTALL (R22). -/
def execGetInstall (body : Bytes) (s : State) : Host.Outcome State Fault Refusal :=
  .next (request .getInstall body answerGetInstall s)

/-! ### The safety configuration (R25 to R28) -/

/-- OPEN_SAFETY_EDIT's own rule (R26). -/
def answerOpenEdit (s : State) : Answer :=
  if s.safety.locked then refuse s .locked
  else accept (s.modSafety (fun f => { f with windowOpen := true })) []

/-- OPEN_SAFETY_EDIT (R26). -/
def execOpenSafetyEdit (body : Bytes) (s : State) : Host.Outcome State Fault Refusal :=
  .next (request .openSafetyEdit body answerOpenEdit s)

/-- The lock and window tests of R26, before an owner's own rules. -/
def whileEditing (act : State → Answer) (s : State) : Answer :=
  if s.safety.locked then refuse s .locked
  else if s.safety.windowOpen = false then refuse s .editClosed
  else act s

/-- A safety write applied to the configuration (R25). -/
def SafetyConfig.write (c : SafetyConfig) (w : SafetyWrite) : SafetyConfig :=
  match w with
  | .watchdog ms => { c with watchdogMs := ms }
  | .profile z p => { c with profile := c.profile.set z p }
  | .chime p => { c with chime := p }
  | .chimeZones z => { c with chimeZones := z }
  | .chimeDuck d => { c with chimeDuck := d }
  | .chimeFloor q => { c with chimeFloor := q }
  | .chimeCeiling q => { c with chimeCeiling := q }
  | .chimeLift n => { c with chimeLift := n }
  | .fallback l => { c with fallback := l }

/-- SET_SAFETY's own rule (R25). -/
def answerSafety (body : Bytes) (s : State) : Answer :=
  match readSafety body with
  | none => refuse s .outOfRange
  | some w =>
    accept (s.modSafety (fun f => { f with config := f.config.write w })) (body.take 1 ++ safetyValueField w)

/-- SET_SAFETY (R25, R26). -/
def execSetSafety (body : Bytes) (s : State) : Host.Outcome State Fault Refusal :=
  .next (request .setSafety body (whileEditing (answerSafety body)) s)

/-- The check of level limits (R27). -/
def limitsPass (c : SafetyConfig) : Bool := decide (c.chimeFloor ≤ c.chimeCeiling)

/-- The check of the fail-safe chime (R27). -/
def chimePasses (s : State) : Bool :=
  match s.safety.config.chime with
  | none => true
  | some p => s.patterns.table[p].isSome

/-- The fallback channels that fail their check, in list order (R27). -/
def failingFallback (s : State) : List Chan :=
  s.safety.config.fallback.filter (fun c => (servedBy s.install c).isNone)

/-- The body of a BAD_SAFETY reply: the failed checks, then the channels that failed the fallback check (R27). Its layout
is DEDUCED (log 4) and the checks' codes are open (log 3). -/
def badSafetyBody (s : State) : Bytes :=
  let failed :=
    (if limitsPass s.safety.config then [] else [Config.safetyCheck 0]) ++
      ((if chimePasses s then [] else [Config.safetyCheck 1]) ++
        (if (failingFallback s).isEmpty then [] else [Config.safetyCheck 2]))
  u8 failed.length ++ (failed ++
    (if (failingFallback s).isEmpty then []
     else u8 (failingFallback s).length ++ ((failingFallback s).map (fun c => u8 (chanCode c))).flatten))

/-- Whether the three checks of R27 pass. -/
def safetyPasses (s : State) : Bool := limitsPass s.safety.config && chimePasses s && (failingFallback s).isEmpty

/-- LOCK_SAFETY's own rule (R27). -/
def answerLock (s : State) : Answer :=
  if safetyPasses s then
    accept (endLoad (s.modSafety (fun f => { f with locked := true, windowOpen := false })))
      (u16 s.safety.config.watchdogMs)
  else { state := s, status := .badSafety, body := badSafetyBody s }

/-- LOCK_SAFETY (R27). -/
def execLockSafety (body : Bytes) (s : State) : Host.Outcome State Fault Refusal :=
  .next (request .lockSafety body (whileEditing answerLock) s)

/-! ### Operating states (R17 to R19) -/

/-- An OFF amplifier at START_AUDIO, by its load-test result (R154). -/
def startOnResult (s : State) (k : Amp) : State :=
  let latch (kind : FaultKind) : State :=
    postChannelFault kind k (changeAmp k (fun a => { a.addFault kind with state := .faultLatched }) s)
  if s.os.amps[k].state = .off then
    match s.os.amps[k].result with
    | .shortBat => latch .shortBat
    | .shortGnd => latch .shortGnd
    | .shortedLoad => latch .shortedLoad
    | .openLoad => postChannelFault .openLoad k (modAmp k (AmpChannel.addFault .openLoad) (startAmp k false s))
    | .untested | .ok => startAmp k false s
  else s

/-- Every OFF digital output and every OFF fitted headphone driver ON (R163). -/
def startOthers (s : State) : State :=
  s.modOs fun o =>
    { o with
      douts := o.douts.map (fun d => if d = .off then .on else d)
      hps := { hpl := if o.hps.hpl = .off ∧ hpIsFitted s .hpl = true then .on else o.hps.hpl
               hpr := if o.hps.hpr = .off ∧ hpIsFitted s .hpr = true then .on else o.hps.hpr } }

/-- The sweep and a kept REAR_LISTEN holder at START_AUDIO (R123). -/
def startHolder (s : State) : State :=
  match s.slm.holder with
  | .rear st => orderB st .tuning s
  | _ => if s.slm.scanning then requestScan s else s

/-- What START_AUDIO hands to the blocks (R17). The CHANNEL_FAULT reports of several amplifiers stand in the order AMP1 to
AMP10, before those of the receivers (DESIGN CHOICE, log 22). -/
def startAudio (s : State) : State :=
  let s1 := setWatchdog (.counting s.safety.config.watchdogMs) (s.modSc (fun c => { c with opState := .run }))
  startHolder (retune s.rx.lastTuned (startOthers (Amp.all.foldl startOnResult s1)))

/-- START_AUDIO's own rule (R17). -/
def answerStartAudio (s : State) : Answer :=
  if rolesWritten s.install = 0 then refuse s .notInstalled
  else if s.safety.locked = false then refuse s .notLocked
  else if s.os.loadTest.isSome then refuse s .busy
  else accept (startAudio s) []

/-- START_AUDIO (R17). -/
def execStartAudio (body : Bytes) (s : State) : Host.Outcome State Fault Refusal :=
  .next (request .startAudio body answerStartAudio s)

/-- Whether every non-chime path ending at a channel has reached MUTE. -/
def allMuted (s : State) (c : Chan) : Bool := s.ge.paths.all (fun p => p.chan != c || p.audible == .mute)

/-- A running amplifier's entry to OFF in STANDBY (R163). -/
def ampOff (k : Amp) (s : State) : State :=
  changeAmp k (fun a => { a with state := .off, trip := none, soft := none }) s

/-- The channels that enter OFF in STANDBY: those whose non-chime paths are all at MUTE, or all of them when `all` is set,
as at WAKE (R163). -/
def standbyOff (all : Bool) (s : State) : State :=
  let quiet (c : Chan) : Bool := all || allMuted s c
  (Amp.all.foldl (fun t k => if s.os.amps[k].state.running && quiet (.amp k) then ampOff k t else t) s).modOs fun o =>
    { o with
      douts := Vector.ofFn (fun k => if o.douts[k] = .on ∧ quiet (.dout k) = true then .off else o.douts[k])
      hps := { hpl := if o.hps.hpl = .on ∧ quiet (.hp .hpl) = true then .off else o.hps.hpl
               hpr := if o.hps.hpr = .on ∧ quiet (.hp .hpr) = true then .off else o.hps.hpr } }

/-- An amplifier at entry to STANDBY (R163). -/
def AmpChannel.standby (a : AmpChannel) : AmpChannel :=
  if a.state = .unused ∨ a.state = .bridged then a
  else
    { a with
      state := if a.state.running then a.state else .off
      startPending := false, soft := none, retry := none, restartMark := false, openTimer := none }

/-- A receiver at entry to STANDBY (R114). -/
def Receiver.standby (r : Receiver) : Receiver :=
  { r with state := .idle, settle := none, qs := none, mute := .off, record := DataRecord.empty }

/-- The holder at entry to STANDBY: SCAN and AF_CHECK are released to none with RX_B_HOLDER, REAR_LISTEN is kept (R123).
RX_B_HOLDER precedes ZONE_STATE of the reduced lists (DESIGN CHOICE, log 24). -/
def standbyHolder (s : State) : State :=
  match s.slm.holder with
  | .scan | .check => postHolder s.slm.position (setHolder .none s)
  | _ => setHolder s.slm.holder s

/-- Every list reduced to its BASE entry, with ZONE_STATE for each that changes (R53). -/
def reduceLists (s : State) : State :=
  Zone.all.foldl (fun s z => changeList z ((listOf s z).filter (fun e => e.cls == .base)) s) s

/-- What STANDBY hands to the blocks (R18). The lists' removals drop the paths of PROMPT and TRAFFIC entries at once, by R44
with R53, and the paths of BASE entries and the retiring ones alone ramp to MUTE (DESIGN CHOICE, log 16). -/
def enterStandby (s : State) : State :=
  let s1 := setWatchdog .stopped
    ((endLoad (s.modSc (fun c => { c with opState := .standby }))).modSafety (fun f => { f with windowOpen := false }))
  let s2 := s1.modOs (fun o => { o with amps := o.amps.map AmpChannel.standby })
  let s3 := s2.modRx (fun r => { r with a := r.a.standby, b := r.b.standby, seek := none, purpose := .retune })
  let s4 := (standbyHolder (followIdle s3)).modTw
    (fun w => { w with announcement := none, bridge := none, codeHeld := none })
  standbyOff false (settle (reduceLists (silenceChimes s4)))

/-- STANDBY's own rule (R18). -/
def answerStandby (s : State) : Answer :=
  if s.clp.state ≠ .idle then refuse s .wrongState
  else if s.os.loadTest.isSome then refuse s .busy
  else accept (enterStandby s) []

/-- STANDBY (R18). -/
def execStandby (body : Bytes) (s : State) : Host.Outcome State Fault Refusal :=
  .next (request .standby body answerStandby s)

/-- WAKE's own rule: CONFIG, every channel OFF (R19, R163). -/
def answerWake (s : State) : Answer :=
  accept ((standbyOff true s).modSc (fun c => { c with opState := .config })) []

/-- WAKE (R19). -/
def execWake (body : Bytes) (s : State) : Host.Outcome State Fault Refusal := .next (request .wake body answerWake s)

end Sys2Proof.Machine
end

