-- ==== Sys2Proof/Machine/Zones.lean ====
section
/-! DEFINITION. The commands of chapters 3, 4 and 9: zone settings, prompts, the frame clock, ramps, voicing, rear tuning,
the headphone ceiling and the jacks. -/

namespace Sys2Proof.Machine

/-! ### Sources (R36, R37, R131) -/

/-- The sources the cabin base source may take (R37). -/
def cabinAllows : Option Source → Bool
  | none | some .fgt | some .meda | some .medb => true
  | _ => false

/-- The sources a headphone zone's base source may take (R37). -/
def hpAllows : Option Source → Bool
  | none | some .fgt | some .bgt | some .meda | some .medb => true
  | _ => false

/-- A change of a headphone zone's base source (R131): the source, then the release of REAR_LISTEN when the last zone has
left BGT (R134). -/
def changeHpBase (h : Hp) (src : Option Source) (s : State) : State :=
  let t := setHpBase h src s
  if hasBgt s h && !hasBgt t .hpl && !hasBgt t .hpr then releaseB t else t

/-- SELECT_SOURCE's own rule (R36, R37, R131). -/
def answerSelect (body : Bytes) (s : State) : Answer :=
  match body with
  | [zb, sb] =>
    match readZone zb, readSourceOrNone sb with
    | some (.cabin _), some src =>
      if cabinAllows src then accept (setCabinBase src s) [zb, sb] else refuse s .outOfRange
    | some (.hp h), some src =>
      if hpIsFitted s h = false then refuse s .notFitted
      else if hpAllows src = false then refuse s .outOfRange
      else if src = some .bgt ∧ hasBgt s h = false ∧ hasBgt s (Hp.other h) = false then refuse s .wrongState
      else accept (changeHpBase h src s) [zb, sb]
    | _, _ => refuse s .outOfRange
  | _ => refuse s .badLength

/-- SELECT_SOURCE (R37). -/
def execSelectSource (body : Bytes) (s : State) : Host.Outcome State Fault Refusal :=
  .next (request .selectSource body (answerSelect body) s)

/-! ### Levels (R38 to R42) -/

/-- Changes the cabin settings record. -/
def modCabin (f : CabinSettings → CabinSettings) (s : State) : State := s.modZr (fun r => { r with cabin := f r.cabin })

/-- A cabin volume step of a class; CHIME has none (R38). -/
def CabinSettings.setStep (c : CabinSettings) (cls : Class) (n : Nat) : CabinSettings :=
  match cls with
  | .base => { c with volBase := n }
  | .call => { c with volCall := n }
  | .prompt => { c with volPrompt := n }
  | .traffic => { c with volTraffic := n }
  | .chime => c

/-- A cabin step set; a change of the CALL step restarts the canceller (R38, R149). -/
def setCabinStep (cls : Class) (n : Nat) (s : State) : State :=
  let t := modCabin (fun c => c.setStep cls n) s
  if cls = .call ∧ n ≠ s.zr.cabin.volCall then restartCanceller t else t

/-- SET_VOLUME's own rule (R36, R38). -/
def answerVolume (body : Bytes) (s : State) : Answer :=
  match body with
  | [zb, cb, nb] =>
    match readZone zb, readClass cb with
    | some (.cabin _), some cls =>
      if cls = .chime then refuse s .outOfRange
      else accept (setCabinStep cls (min nb.toNat 40) s) ([zb, cb] ++ u8 (min nb.toNat 40))
    | some (.hp h), some cls =>
      let n := min (min nb.toNat 40) (s.zr.hps.get h).ceiling
      if hpIsFitted s h = false then refuse s .notFitted
      else
        match cls with
        | .base => accept (modHp h (fun r => { r with volBase := n }) s) ([zb, cb] ++ u8 n)
        | .call => accept (modHp h (fun r => { r with volCall := n }) s) ([zb, cb] ++ u8 n)
        | _ => refuse s .outOfRange
    | _, _ => refuse s .outOfRange
  | _ => refuse s .badLength

/-- SET_VOLUME (R38). -/
def execSetVolume (body : Bytes) (s : State) : Host.Outcome State Fault Refusal :=
  .next (request .setVolume body (answerVolume body) s)

/-- Whether a zone is one whose headphone is missing (R36 check (2)). -/
def zoneUnfitted (s : State) : Zone → Bool
  | .cabin _ => false
  | .hp h => !hpIsFitted s h

/-- SET_MUTE's own rule (R36, R39). -/
def answerMute (body : Bytes) (s : State) : Answer :=
  match body with
  | [zb, mb] =>
    match readZone zb, readBit mb with
    | some z, some m =>
      if zoneUnfitted s z then refuse s .notFitted else accept (setMuteFlag z m s) [zb, mb]
    | _, _ => refuse s .outOfRange
  | _ => refuse s .badLength

/-- SET_MUTE (R39). -/
def execSetMute (body : Bytes) (s : State) : Host.Outcome State Fault Refusal :=
  .next (request .setMute body (answerMute body) s)

/-- SET_BALANCE_FADER's own rule (R40). -/
def answerBalance (body : Bytes) (s : State) : Answer :=
  match body with
  | [bb, fb] =>
    let b := clampInt bb.toInt (-20) 20
    let f := clampInt fb.toInt (-20) 20
    accept (modCabin (fun c => { c with balance := b, fader := f }) s) (s8 b ++ s8 f)
  | _ => refuse s .badLength

/-- SET_BALANCE_FADER (R40). -/
def execSetBalanceFader (body : Bytes) (s : State) : Host.Outcome State Fault Refusal :=
  .next (request .setBalanceFader body (answerBalance body) s)

/-- SET_SOURCE_TRIM's own rule (R41). -/
def answerTrim (body : Bytes) (s : State) : Answer :=
  match body with
  | [sb, tb] =>
    match readSource sb with
    | none | some .chime => refuse s .outOfRange
    | some src =>
      let t := clampInt tb.toInt (-48) 24
      accept (s.modZr (fun r => { r with trims := r.trims.set src t })) ([sb] ++ s8 t)
  | _ => refuse s .badLength

/-- SET_SOURCE_TRIM (R41). -/
def execSetSourceTrim (body : Bytes) (s : State) : Host.Outcome State Fault Refusal :=
  .next (request .setSourceTrim body (answerTrim body) s)

/-- A class duck depth replaced (R42). -/
def Ducks.set (d : Ducks) (cls : Class) (x : Depth) : Ducks :=
  match cls with
  | .call => { d with call := x }
  | .prompt => { d with prompt := x }
  | .traffic => { d with traffic := x }
  | .chime | .base => d

/-- SET_CLASS_DUCK's own rule (R42). -/
def answerDuck (body : Bytes) (s : State) : Answer :=
  match body with
  | [cb, db] =>
    match readClass cb with
    | none | some .chime | some .base => refuse s .outOfRange
    | some cls =>
      let d := readDepth db.toNat
      accept (s.modZr (fun r => { r with ducks := r.ducks.set cls d })) ([cb] ++ depthField d)
  | _ => refuse s .badLength

/-- SET_CLASS_DUCK (R42). -/
def execSetClassDuck (body : Bytes) (s : State) : Host.Outcome State Fault Refusal :=
  .next (request .setClassDuck body (answerDuck body) s)

/-- SET_SPEED_LIFT's own rule (R40). -/
def answerSpeedLift (body : Bytes) (s : State) : Answer :=
  match body with
  | [nb] => accept (modCabin (fun c => { c with speedLift := min nb.toNat 4 }) s) (u8 (min nb.toNat 4))
  | _ => refuse s .badLength

/-- SET_SPEED_LIFT (R40). -/
def execSetSpeedLift (body : Bytes) (s : State) : Host.Outcome State Fault Refusal :=
  .next (request .setSpeedLift body (answerSpeedLift body) s)

/-- SET_REAR_QUIET's own rule (R40). With OFF the depth byte is not read, whatever it holds, and the reply carries 0 there
(DESIGN CHOICE, log 21). -/
def answerRearQuiet (body : Bytes) (s : State) : Answer :=
  match body with
  | [ob, db] =>
    match readBit ob with
    | none => refuse s .outOfRange
    | some on =>
      let q : Option Depth := if on then some (readDepth db.toNat) else none
      accept (modCabin (fun c => { c with rearQuiet := q }) s) (rearQuietField q)
  | _ => refuse s .badLength

/-- SET_REAR_QUIET (R40). -/
def execSetRearQuiet (body : Bytes) (s : State) : Host.Outcome State Fault Refusal :=
  .next (request .setRearQuiet body (answerRearQuiet body) s)

/-! ### GET_ZONE (R43) -/

/-- One entry of a precedence list as GET_ZONE carries it. -/
def entryField (e : Entry) : Bytes :=
  u8 e.cls.code ++ (sourceField e.src ++ (if e.cls = .traffic then bit e.deferred else []))

/-- The cabin settings record, the zone's flags and the class duck depths (R43). -/
def cabinRecord (s : State) (c : Cabin) : Bytes :=
  let r := s.zr.cabin
  sourceField r.base ++ (u8 r.volBase ++ (u8 r.volCall ++ (u8 r.volPrompt ++ (u8 r.volTraffic ++ (s8 r.balance ++
    (s8 r.fader ++ (u8 r.speedLift ++ (u8 Config.liftCap.toNat ++ (rearQuietField r.rearQuiet ++
      (bit (s.zr.zones.get c).mute ++ (bit (s.zr.zones.get c).quiet ++ (depthField s.zr.ducks.call ++
        (depthField s.zr.ducks.prompt ++ depthField s.zr.ducks.traffic)))))))))))))

/-- A headphone zone's record and whether its headphone is fitted (R43). -/
def hpRecord (s : State) (h : Hp) : Bytes :=
  let r := s.zr.hps.get h
  sourceField r.base ++ (u8 r.volBase ++ (u8 r.volCall ++ (u8 r.ceiling ++ (bit r.mute ++ (bit r.quiet ++
    (bit r.jack ++ bit (hpIsFitted s h)))))))

/-- What GET_ZONE carries of a zone before its presence and its list. -/
def zoneRecord (s : State) : Zone → Bytes
  | .cabin c => cabinRecord s c
  | .hp h => hpRecord s h

/-- The trims of every source (R43). -/
def trimsField (t : PerSource Int) : Bytes :=
  s8 t.fgt ++ (s8 t.bgt ++ (s8 t.meda ++ (s8 t.medb ++ (s8 t.call ++ s8 t.prompt))))

/-- GET_ZONE's own rule (R43). The list is carried with a count of its entries before it (log 4), and the codes of the
presence status are open (log 3). -/
def answerGetZone (body : Bytes) (s : State) : Answer :=
  match body with
  | [zb] =>
    match readZone zb with
    | none => refuse s .outOfRange
    | some z =>
      accept s
        (zoneRecord s z ++ (Config.presence (basePresent s z) :: (u8 (listOf s z).length ++
          (((listOf s z).map entryField).flatten ++ trimsField s.zr.trims))))
  | _ => refuse s .badLength

/-- GET_ZONE (R43). -/
def execGetZone (body : Bytes) (s : State) : Host.Outcome State Fault Refusal :=
  .next (request .getZone body (answerGetZone body) s)

/-! ### Prompts (R51) -/

/-- The cabin zones that hold a PROMPT entry. -/
def promptZones (s : State) : CabinSet := cabinSet (fun c => holdsClass (listOf s (.cabin c)) .prompt)

/-- The PROMPT entry (R51). -/
def promptEntry : Entry := { cls := .prompt, src := some .prompt, deferred := false }

/-- PROMPT entries inserted in zones; a zone that holds one keeps it (R51). -/
def startPrompts (zs : List Cabin) (s : State) : State :=
  zs.foldl (fun s c => insertEntry (.cabin c) promptEntry s) s

/-- PROMPT entries removed from zones (R51). -/
def endPrompts (zs : List Cabin) (s : State) : State := zs.foldl (fun s c => removeEntry (.cabin c) .prompt s) s

/-- The common form of the two prompt requests: the set's check and the set that holds PROMPT afterwards (R51). -/
def answerPrompts (act : List Cabin → State → State) (body : Bytes) (s : State) : Answer :=
  match body with
  | [zb] =>
    match readCabinSet zb with
    | none => refuse s .outOfRange
    | some z => accept (act z.toList s) (cabinSetField (promptZones (act z.toList s)))
  | _ => refuse s .badLength

/-- PROMPT_START (R51). -/
def execPromptStart (body : Bytes) (s : State) : Host.Outcome State Fault Refusal :=
  .next (request .promptStart body (answerPrompts startPrompts body) s)

/-- PROMPT_END (R51). -/
def execPromptEnd (body : Bytes) (s : State) : Host.Outcome State Fault Refusal :=
  .next (request .promptEnd body (answerPrompts endPrompts body) s)

/-! ### Voicing (R68, R69) -/

/-- A voicing record written; it takes effect at the next block boundary (R68, R69). -/
def writeVoicing (c : Chan) (v : Voicing) (s : State) : State :=
  s.modGe (fun g => { g with voicing := g.voicing.set (chanIndex c) { g.voicing[chanIndex c] with record := v, written := true } })

/-- Whether a channel is the driver of a headphone that is not fitted (R68 check (2)). -/
def chanUnfitted (s : State) : Chan → Bool
  | .hp h => !hpIsFitted s h
  | _ => false

/-- SET_VOICING's own rule (R68). -/
def answerVoicing (body : Bytes) (s : State) : Answer :=
  match body with
  | cb :: db :: tb :: bands =>
    match readChan cb with
    | none => refuse s .outOfRange
    | some c =>
      if chanUnfitted s c then refuse s .notFitted
      else
        match readBands bands with
        | none => refuse s .outOfRange
        | some bs =>
          let v : Voicing :=
            { trim := clampInt tb.toInt (-48) 0, processing := { delay := min db.toNat 200, bands := bs } }
          accept (writeVoicing c v s) (voicingField c v)
  | _ => refuse s .badLength

/-- SET_VOICING (R68). -/
def execSetVoicing (body : Bytes) (s : State) : Host.Outcome State Fault Refusal :=
  .next (request .setVoicing body (answerVoicing body) s)

/-- VOICING_BLOCK_BOUNDARY: every channel's written record takes effect and every crossfade moves on (R69, R70). -/
def execVoicingBlockBoundary (s : State) : Host.Outcome State Fault Refusal :=
  .next (settle (s.modGe (fun g => { g with voicing := g.voicing.map ChannelVoicing.boundary })))

/-! ### Ramps (R65) -/

/-- One millisecond of the ramps, and in STANDBY the channels whose paths have all reached MUTE go OFF (R65, R163). -/
def ramped (s : State) : State :=
  let t := s.modGe (fun g => { g with paths := rampPaths g.paths })
  if t.sc.opState = .standby then standbyOff false t else t

/-- RAMP_STEP (R65). -/
def execRampStep (s : State) : Host.Outcome State Fault Refusal := .next (settle (ramped s))

/-! ### The frame clock (R31, R32) -/

/-- Whether the clock watch runs (R31). -/
def clockWatched (s : State) : Bool := s.sc.opState != .boot && s.install.clockRole != some .leader

/-- The clock is lost (R31). -/
def loseClock (s : State) : State :=
  post .clockLost 0 (u8 s.sc.opState.code) (s.modZr (fun r => { r with clockLost := true, lostMs := 0 }))

/-- CLOCK_LOSS: 10 ms without an edge (R31). A watch that does not run, or is LOST already, loses nothing (log 1). -/
def execClockLoss (s : State) : Host.Outcome State Fault Refusal :=
  .next (if clockWatched s && !s.zr.clockLost then settle (loseClock s) else s)

/-- CLOCK_RETURN: 10 ms of edges while LOST (R32). -/
def execClockReturn (s : State) : Host.Outcome State Fault Refusal :=
  .next (if clockWatched s && s.zr.clockLost then settle (restoreClock s) else s)

/-! ### Rear tuning (R131 to R134) -/

/-- The station a REAR_TUNE or GET_STATION names: a position is resolved in the station list as it stands (R118, R132). -/
def resolveStation (s : State) : StationName → Option Station
  | .position n => (s.slm.entries[n]?).map ListEntry.station
  | .station st => some st

/-- A zone takes BGT for a station (R132, R133). -/
def takeBgt (h : Hp) (st : Station) (s : State) : State := requestRear st (setHpBase h (some .bgt) s)

/-- REAR_TUNE's own rule (R132). -/
def answerRearTune (body : Bytes) (s : State) : Answer :=
  match body with
  | [zb, sel, x, hi, lo] =>
    match readHpZone zb, (readStationName sel x hi lo).bind (resolveStation s) with
    | some h, some st =>
      if hpIsFitted s h = false then refuse s .notFitted
      else if st = s.rx.lastTuned then
        accept (changeHpBase h (some .fgt) s) ([zb] ++ (sourceField (some .fgt) ++ stationField st))
      else if hasBgt s (Hp.other h) = true ∧ rearStation s ≠ some st then refuse s .noReceiver
      else accept (takeBgt h st s) ([zb] ++ (sourceField (some .bgt) ++ stationField st))
    | _, _ => refuse s .outOfRange
  | _ => refuse s .badLength

/-- REAR_TUNE (R132). -/
def execRearTune (body : Bytes) (s : State) : Host.Outcome State Fault Refusal :=
  .next (request .rearTune body (answerRearTune body) s)

/-! ### The headphone ceiling (R135) -/

/-- A headphone zone's record under a new ceiling (R135). -/
def HpZone.withCeiling (r : HpZone) (n : Nat) : HpZone :=
  { r with ceiling := n, volBase := min r.volBase n, volCall := min r.volCall n }

/-- SET_REAR_CEILING's own rule (R135). -/
def answerCeiling (body : Bytes) (s : State) : Answer :=
  match body with
  | [zb, nb] =>
    match readHpZone zb with
    | none => refuse s .outOfRange
    | some h =>
      if hpIsFitted s h = false then refuse s .notFitted
      else
        let n := min nb.toNat 40
        let r := (s.zr.hps.get h).withCeiling n
        accept (modHp h (fun r => r.withCeiling n) s) (u8 n ++ (u8 r.volBase ++ u8 r.volCall))
  | _ => refuse s .badLength

/-- SET_REAR_CEILING (R135). -/
def execSetRearCeiling (body : Bytes) (s : State) : Host.Outcome State Fault Refusal :=
  .next (request .setRearCeiling body (answerCeiling body) s)

end Sys2Proof.Machine
end

