-- ==== Sys2Proof/Machine/Calls.lean ====
section
/-! DEFINITION. The commands of chapter 10, and the jacks, whose removal may bring a call back to the cabin (R136, R144). -/

namespace Sys2Proof.Machine

/-- The whole call context, as the replies of the four call requests carry it, in the order of R141's table (R141). -/
def contextField (s : State) : Bytes :=
  let c := s.clp
  u8 c.state.code ++ (u8 c.route.code ++ (bit c.uplinkMute ++ (u8 c.policy.code ++ (u8 c.canceller.code ++
    (opt8 c.erle ++ (u8 c.restarts ++ (bit c.faulty.fl ++ (bit c.faulty.fr ++ (bit c.faulty.rl ++ (bit c.faulty.rr ++
      (micSetField c.selection.mics ++ u8 c.selection.basis.code)))))))))))

/-! ### CALL_STATE (R142) -/

/-- The legal changes of the call state (R142). -/
def transitionAllowed (old new : CallState) : Bool :=
  match old, new with
  | .idle, .idle | .idle, .ringing | .idle, .active => true
  | .ringing, .idle | .ringing, .active => true
  | .active, .idle | .active, .held => true
  | .held, .idle | .held, .active => true
  | _, _ => false

/-- Leaving IDLE (R142). ZONE_STATE and TRAFFIC_DEFERRED precede AEC_STATE, and CONDITION_CHANGED of CALL_ACTIVE stands last, as
at the return to IDLE (DESIGN CHOICE, log 24). An uplink mute set in IDLE stays in force through the call that begins, and the return to IDLE ends
it (DEDUCED from R148 and R142, log 12). -/
def leaveIdle (new : CallState) (s : State) : State :=
  let s1 := placeCalls (routeZones s.clp.route) (s.modClp (fun c => { c with state := new, restarts := 0 }))
  let s2 := if s1.clp.route = .cabin then startCanceller s1 else s1
  receipt .callActive 1 (remakeSelection false s2)

/-- To IDLE (R142). -/
def callEnds (s : State) : State :=
  let s1 := liftCalls (routeZones s.clp.route) (s.modClp (fun c => { c with state := .idle, uplinkMute := false }))
  receipt .callActive 0 (bypassCanceller s1)

/-- An accepted change of the call state (R142). -/
def changeCall (new : CallState) (s : State) : State :=
  match s.clp.state, new with
  | .idle, .idle => s
  | .idle, _ => leaveIdle new s
  | _, .idle => callEnds s
  | _, _ => receipt .callActive 1 (s.modClp (fun c => { c with state := new }))

/-- CALL_STATE's own rule (R142). -/
def answerCallState (body : Bytes) (s : State) : Answer :=
  match body with
  | [cb] =>
    match readCallState cb with
    | none => refuse s .outOfRange
    | some new =>
      if transitionAllowed s.clp.state new = false then refuse s .badTransition
      else accept (changeCall new s) (contextField (changeCall new s))
  | _ => refuse s .badLength

/-- CALL_STATE (R142). -/
def execCallState (body : Bytes) (s : State) : Host.Outcome State Fault Refusal :=
  .next (request .callState body (answerCallState body) s)

/-! ### CALL_ROUTE (R143, R144) -/

/-- Why a route changed (section 12.4). -/
inductive RouteCause where
  | host | jackRemoved
  deriving DecidableEq, Repr

/-- CALL_ROUTE_CHANGED cause. -/
def RouteCause.code : RouteCause → Nat
  | .host => 0
  | .jackRemoved => 1

/-- The zones of one route that another does not cover. -/
def zonesBeyond (r q : Route) : List Zone := (routeZones r).filter (fun z => !(routeZones q).contains z)

/-- CALL_ROUTE_CHANGED (R143). -/
def postRoute (old : Route) (cause : RouteCause) (s : State) : State :=
  post .callRouteChanged 0
    (u8 old.code ++ (u8 s.clp.route.code ++ (u8 cause.code ++ (u8 s.clp.state.code ++ micSetField s.clp.selection.mics)))) s

/-- The entries of a call in progress move with its route (R143). The rule sets no order among them: the old route's zones
lose theirs first, so that a headphone's ZONE_STATE precedes those of the zones taken up (DESIGN CHOICE, log 22). -/
def moveEntries (old new : Route) (s : State) : State :=
  if s.clp.state = .idle then s else placeCalls (zonesBeyond new old) (liftCalls (zonesBeyond old new) s)

/-- The canceller of a call in progress follows its route (R143, R149). -/
def moveCanceller (new : Route) (s : State) : State :=
  if s.clp.state = .idle then s
  else
    match new with
    | .cabin => routeCanceller s
    | .hp _ => bypassCanceller s

/-- A change of route (R143, R144, R145, R146). -/
def moveRoute (new : Route) (cause : RouteCause) (s : State) : State :=
  let old := s.clp.route
  let s1 := reselect (moveEntries old new (s.modClp (fun c => { c with route := new })))
  let s2 := postRoute old cause s1
  let s3 := if basisLost s.clp.selection s2.clp.selection then postMicFault s2 else s2
  moveCanceller new s3

/-- Whether a rear microphone is usable (R143 check (4)). -/
def rearMicUsable (s : State) : Bool := micUsable s .rl || micUsable s .rr

/-- CALL_ROUTE's own rule (R143). -/
def answerCallRoute (body : Bytes) (s : State) : Answer :=
  let move (r : Route) : Answer :=
    let t := if r = s.clp.route then s else moveRoute r .host s
    accept t (contextField t)
  match body with
  | [rb] =>
    match readRoute rb with
    | none => refuse s .outOfRange
    | some .cabin => move .cabin
    | some (.hp h) =>
      if hpIsFitted s h = false then refuse s .notFitted
      else if (s.zr.hps.get h).jack = false ∨ s.os.hps.get h = .heldOff then refuse s .wrongState
      else if rearMicUsable s = false then refuse s .notFitted
      else move (.hp h)
  | _ => refuse s .badLength

/-- CALL_ROUTE (R143). -/
def execCallRoute (body : Bytes) (s : State) : Host.Outcome State Fault Refusal :=
  .next (request .callRoute body (answerCallRoute body) s)

/-! ### Uplink mute and mic policy (R148) -/

/-- SET_UPLINK_MUTE's own rule (R148). -/
def answerUplinkMute (body : Bytes) (s : State) : Answer :=
  match body with
  | [mb] =>
    match readBit mb with
    | none => refuse s .outOfRange
    | some m =>
      let t := s.modClp (fun c => { c with uplinkMute := m })
      accept t (contextField t)
  | _ => refuse s .badLength

/-- SET_UPLINK_MUTE (R148). -/
def execSetUplinkMute (body : Bytes) (s : State) : Host.Outcome State Fault Refusal :=
  .next (request .setUplinkMute body (answerUplinkMute body) s)

/-- SET_MIC_POLICY's own rule (R148): the selection is made afresh, and no report is posted. -/
def answerMicPolicy (body : Bytes) (s : State) : Answer :=
  match body with
  | [pb] =>
    match readMicPolicy pb with
    | none => refuse s .outOfRange
    | some p =>
      let t := reselect (s.modClp (fun c => { c with policy := p }))
      accept t (contextField t)
  | _ => refuse s .badLength

/-- SET_MIC_POLICY (R148). -/
def execSetMicPolicy (body : Bytes) (s : State) : Host.Outcome State Fault Refusal :=
  .next (request .setMicPolicy body (answerMicPolicy body) s)

/-! ### The canceller (R149, R150) -/

/-- An ERLE estimate moves the canceller's timers by its state (R150). -/
def CallContext.estimated (c : CallContext) (erle : Nat) : CallContext :=
  match c.canceller with
  | .bypass => c
  | .converging =>
    { c with erle := some erle, convergence := if 18 ≤ erle then some (c.convergence.getD 500) else none }
  | .converged =>
    { c with erle := some erle, divergence := if erle < 6 then some (c.divergence.getD 1000) else none }
  | .diverged => { c with erle := some erle }

/-- The half-duplex attenuation at a 10 ms boundary, from the downlink's level in dBFS (R150). -/
def CallContext.halfDuplex (c : CallContext) (downlink : Int) : CallContext :=
  { c with attenuated := (c.canceller == .converging || c.canceller == .diverged) && decide (-40 < downlink) }

/-- ERLE_ESTIMATE: the estimate of 10 ms, with the level the downlink had over it (R150). A canceller in BYPASS delivers
none (log 1). -/
def execErleEstimate (erle : Nat) (downlink : Int) (s : State) : Host.Outcome State Fault Refusal :=
  .next
    (if cancellerRunning s then settle (s.modClp (fun c => (c.estimated (min erle 40)).halfDuplex downlink)) else s)

/-- CONVERGENCE_TIMER_RUNOUT (R150). -/
def execConvergenceTimerRunout (s : State) : Host.Outcome State Fault Refusal :=
  .next
    (if s.clp.canceller = .converging ∧ s.clp.convergence.isSome then
      settle (postAec (s.modClp (fun c => { c with canceller := .converged, convergence := none, attenuated := false })))
    else s)

/-- DIVERGENCE_TIMER_RUNOUT: DIVERGED is reported and the canceller restarts at once (R149, R150). -/
def execDivergenceTimerRunout (s : State) : Host.Outcome State Fault Refusal :=
  .next
    (if s.clp.canceller = .converged ∧ s.clp.divergence.isSome then
      settle (restartCanceller (postAec (s.modClp (fun c => { c with canceller := .diverged, divergence := none }))))
    else s)

/-! ### The noise estimate (R151) -/

/-- The estimate of the front microphones that are usable, if there is one (R151). -/
def noiseOf (s : State) (fl fr : Int) : Option Int :=
  match micUsable s .fl, micUsable s .fr with
  | true, true => some ((fl + fr) / 2)
  | true, false => some fl
  | false, true => some fr
  | false, false => none

/-- NOISE_ESTIMATE, every 100 ms in RUN and FAILSAFE (R151). Elsewhere none is made (log 1). -/
def execNoiseEstimate (levelFL levelFR : Int) (s : State) : Host.Outcome State Fault Refusal :=
  .next
    (if isPlaying s then
      match noiseOf s levelFL levelFR with
      | some v => settle (receipt .cabinNoise v s)
      | none => s
    else s)

/-! ### Jacks (R136, R137, R144) -/

/-- HEADPHONE_PLUG: the jack state, and whether the zone is active after the change (R137). -/
def postPlug (h : Hp) (s : State) : State :=
  post .headphonePlug (zoneCode (.hp h)) (bit (s.zr.hps.get h).jack ++ bit (hpActive s h)) s

/-- The fallback of a call route whose headphone's jack is removed (R144). -/
def jackFallback (h : Hp) (s : State) : State :=
  if s.clp.route = .hp h then moveRoute .cabin .jackRemoved s else s

/-- The jack state of a fitted headphone changes (R136). -/
def jackChanges (h : Hp) (inserted : Bool) (s : State) : State :=
  let t := modHp h (fun r => { r with jack := inserted }) s
  postPlug h (if inserted then t else jackFallback h t)

/-- JACK_STATE_CHANGE: a sensed level that has stood for 50 ms (R136). The pin's level is the pin's own; a headphone that is
not fitted is not sensed, and in BOOT the jack state is not followed (R136, R137). -/
def execJackStateChange (h : Hp) (inserted : Bool) (s : State) : Host.Outcome State Fault Refusal :=
  let t := s.modPins (fun p => { p with jack := p.jack.set h inserted })
  .next
    (if s.sc.opState ≠ .boot ∧ hpIsFitted s h = true ∧ (s.zr.hps.get h).jack ≠ inserted then
      settle (jackChanges h inserted t)
    else t)

end Sys2Proof.Machine
end

