-- ==== Sys2Proof/Machine/Conditions.lean ====
section
/-! DEFINITION. The commands of chapter 5: the vehicle store, the condition records and their hold timers. -/

namespace Sys2Proof.Machine

/-- The four quantities received from one VEHICLE_STATE (R71, R76). R71 gives no order among them: they are received as speed,
reverse, tailgate and ignition, and so stand the CONDITION_CHANGED reports (DESIGN CHOICE, log 24). -/
def receiveVehicle (speed reverse tailgate ignition : Nat) (s : State) : State :=
  receipt .ignition ignition (receipt .tailgate tailgate (receipt .reverse reverse (receipt .speed speed s)))

/-- All four values stored before any is evaluated (R71). -/
def storeVehicle (speed reverse tailgate ignition : Nat) (s : State) : State :=
  storeValue .ignition ignition (storeValue .tailgate tailgate (storeValue .reverse reverse (storeValue .speed speed s)))

/-- VEHICLE_STATE's own rule (R71). -/
def answerVehicle (body : Bytes) (s : State) : Answer :=
  match body with
  | [v1, v0, rb, tb, ib] =>
    if 1 < rb.toNat ∨ 1 < tb.toNat ∨ 3 < ib.toNat then refuse s .outOfRange
    else
      let v := min (nat16 v1 v0) 300
      accept (receiveVehicle v rb.toNat tb.toNat ib.toNat (storeVehicle v rb.toNat tb.toNat ib.toNat s))
        (u16 v ++ [rb, tb, ib])
  | _ => refuse s .badLength

/-- VEHICLE_STATE (R71). Its speed is a number wider than a byte, of two bytes and unsigned (R164). -/
def execVehicleState (body : Bytes) (s : State) : Host.Outcome State Fault Refusal :=
  .next (request .vehicleState body (answerVehicle body) s)

/-- The condition record a body carries, checked and clamped (R74): none where R74 refuses it. -/
def readCondition (qb cb t1 t0 h1 h0 zb sb eb db : Byte) : Option Condition :=
  match readQuantity qb, readComparison cb, readZoneSet zb, readSourceSet sb, readEffect eb db with
  | some q, some c, some z, some src, some e =>
    some
      { quantity := q, comparison := c, threshold := clampQuantity q (int16 t1 t0)
        hold := min (nat16 h1 h0) 5000 / 100 * 100, zones := z, sources := src, effect := e, state := none
        change := none }
  | _, _, _, _, _ => none

/-- A record evaluated as it is written: against the quantity's held value, without the hold time (R75). -/
def Condition.atWrite (r : Condition) (held : Option Int) : Condition :=
  match held with
  | some v => { r with state := some (r.comparison.holds v r.threshold) }
  | none => r

/-- The depth an effect carries in a reply; 0 with a MUTE effect, whose depth is not held (R74; DESIGN CHOICE, log 4). -/
def effectDepth : Effect → Nat
  | .cutWhenTrue d => d
  | _ => 0

/-- A slot as SET_CONDITION's reply carries it: the record as applied and the slot's state (R74, section 12.3). -/
def conditionField (i : Fin 16) (c : Option Condition) : Bytes :=
  match c with
  | none => u8 i.val ++ (List.replicate 11 0#8 ++ u8 (conditionStateCode c))
  | some r =>
    u8 i.val ++ (u8 1 ++ (u8 r.quantity.code ++ (u8 r.comparison.code ++ (s16 r.threshold ++ (u16 r.hold ++
      (zoneSetField r.zones ++ (sourceSetField r.sources ++ (u8 r.effect.code ++ (u8 (effectDepth r.effect) ++
        u8 (conditionStateCode c))))))))))

/-- SET_CONDITION's own rule (R74, R75). -/
def answerCondition (body : Bytes) (s : State) : Answer :=
  match body with
  | [ib, mark, qb, cb, t1, t0, h1, h0, zb, sb, eb, db] =>
    if h : ib.toNat < 16 then
      if mark = 0#8 then accept (setSlot ⟨ib.toNat, h⟩ none s) (conditionField ⟨ib.toNat, h⟩ none)
      else if mark = 1#8 then
        match readCondition qb cb t1 t0 h1 h0 zb sb eb db with
        | none => refuse s .outOfRange
        | some r =>
          let c := some (r.atWrite (heldValue s r.quantity))
          accept (setSlot ⟨ib.toNat, h⟩ c s) (conditionField ⟨ib.toNat, h⟩ c)
      else refuse s .outOfRange
    else refuse s .outOfRange
  | _ => refuse s .badLength

/-- SET_CONDITION (R74). -/
def execSetCondition (body : Bytes) (s : State) : Host.Outcome State Fault Refusal :=
  .next (request .setCondition body (answerCondition body) s)

/-- A record whose hold timer has run out takes its pending result (R77). -/
def Condition.ranOut (r : Condition) (p : PendingChange) : Condition := { r with state := some p.result, change := none }

/-- A slot's hold timer runs out (R77). A slot with no pending change has no timer (log 1). -/
def holdRunsOut (i : Fin 16) (s : State) : State :=
  match s.cu.slots[i] with
  | none => s
  | some r =>
    match r.change with
    | none => s
    | some p => setSlot i (some (r.ranOut p)) s

/-- HOLD_TIMER_RUNOUT (R77). -/
def execHoldTimerRunout (slot : Fin 16) (s : State) : Host.Outcome State Fault Refusal :=
  .next (settle (holdRunsOut slot s))

end Sys2Proof.Machine
end

