-- ==== Sys2Proof/Machine/Messages.lean ====
section
/-! DEFINITION. The commands of chapter 1: the frames the port turns away, POLL, FETCH_REPORTS, SET_REPORT_MASK,
GET_PART_STATE and the watchdog's expiry. -/

namespace Sys2Proof.Machine

/-- FRAME_ERROR: a frame that fails checks 1 to 4 of R2. Its reply echoes byte 1 as received, 0x00 where none was (R4);
nothing else happens. -/
def execFrameError (received : Bytes) (s : State) : Host.Outcome State Fault Refusal :=
  .next (setReply (received.getD 1 0#8) .frameError [] s)

/-- UNKNOWN_KIND: a good frame whose kind byte names no request (R2 check 5). -/
def execUnknownKind (kind : Byte) (s : State) : Host.Outcome State Fault Refusal :=
  .next (settle (setReply kind .unknownKind [] (arrival kind s)))

/-- POLL's own rule (R6). -/
def answerPoll (s : State) : Answer := accept s (u8 s.cp.reports.length ++ bit s.cp.lost)

/-- POLL (R6). -/
def execPoll (body : Bytes) (s : State) : Host.Outcome State Fault Refusal := .next (request .poll body answerPoll s)

/-- The reports a fetch takes from the queue (R8). -/
def fetched (s : State) : List Report := s.cp.reports.take Config.fetchLimit

/-- The queue after a fetch, with the lost flag cleared and ATTN re-evaluated (R8, R10). -/
def afterFetch (s : State) : State :=
  s.modCp (fun cp => ({ cp with reports := cp.reports.drop Config.fetchLimit, lost := false }).reattn)

/-- FETCH_REPORTS's own rule (R8). -/
def answerFetch (s : State) : Answer :=
  accept (afterFetch s)
    (u8 (fetched s).length ++ (((fetched s).map reportRecord).flatten ++
      (u8 (s.cp.reports.length - Config.fetchLimit) ++ bit s.cp.lost)))

/-- FETCH_REPORTS (R8). -/
def execFetchReports (body : Bytes) (s : State) : Host.Outcome State Fault Refusal :=
  .next (request .fetchReports body answerFetch s)

/-- SET_REPORT_MASK's own rule (R9, R10). -/
def answerMask (body : Bytes) (s : State) : Answer :=
  match readMask body with
  | none => refuse s .outOfRange
  | some l => accept (s.modCp (fun cp => ({ cp with masked := l }).reattn)) (maskField l)

/-- SET_REPORT_MASK (R9). -/
def execSetReportMask (body : Bytes) (s : State) : Host.Outcome State Fault Refusal :=
  .next (request .setReportMask body (answerMask body) s)

/-- GET_PART_STATE's own rule (R13). -/
def answerPartState (s : State) : Answer :=
  accept s
    (u16 Config.partCode ++ (u8 Config.stepping.1 ++ (u8 Config.stepping.2 ++ (u8 s.sc.opState.code ++
      (bit s.safety.locked ++ (bit s.safety.windowOpen ++ (u8 (rolesWritten s.install) ++
        (bit (installComplete s.install) ++ (u16 s.safety.config.watchdogMs ++ u8 s.cp.reports.length)))))))))

/-- GET_PART_STATE (R13). -/
def execGetPartState (body : Bytes) (s : State) : Host.Outcome State Fault Refusal :=
  .next (request .getPartState body answerPartState s)

/-- The quiet flags of the zones whose locked profile is QUIET (R52), in the order FRONT, REAR, LOAD, HPL, HPR of their
ZONE_STATE reports (DESIGN CHOICE, log 22). -/
def applyProfiles (s : State) : State :=
  Zone.all.foldl (fun s z => if s.safety.config.profile.get z = .quiet then setQuiet z true s else s) s

/-- Every PROMPT entry removed (R52). -/
def removePrompts (s : State) : State := Cabin.all.foldl (fun s c => removeEntry (.cabin c) .prompt s) s

/-- Fail-safe entry (R20): the state, FAILSAFE_ENTERED, and the zones and sounds on the entry signal (R52, R97). -/
def enterFailsafe (s : State) : State :=
  failsafeSounds (applyProfiles (removePrompts
    (post .failsafeEntered 0 (u16 s.safety.config.watchdogMs)
      (s.modSc (fun c => { c with opState := .failsafe, failsafeMs := 0 })))))

/-- The watchdog's interval runs out (R11, R12): EXPIRED, and from RUN the part enters FAILSAFE. -/
def watchdogExpires (s : State) : State :=
  match s.cp.watchdog with
  | .counting _ =>
    let t := setWatchdog .expired s
    if s.sc.opState = .run then enterFailsafe t else t
  | _ => s

/-- WATCHDOG_EXPIRY (R11, R12, R20). A watchdog that is not COUNTING has no interval to run out (log 1). -/
def execWatchdogExpiry (s : State) : Host.Outcome State Fault Refusal := .next (settle (watchdogExpires s))

end Sys2Proof.Machine
end

