-- ==== Sys2Proof/Machine/Outputs.lean ====
section
/-! DEFINITION. The commands of chapter 11: the load test, the protections, the monitor scan, the fault records and the
channels' own timers. -/

namespace Sys2Proof.Machine

/-! ### The load test (R159) -/

/-- The load-test check times in units of 0.1 ms: 5 ms plus the blanking time (R159). -/
def checkTenths : Blanking → Nat
  | .ms04 => 54
  | .ms1 => 60
  | .ms2 => 70
  | .ms4 => 90

/-- A channel begins its load test in DIAG, with the blanking time then held (R156, R159). -/
def beginDiag (k : Amp) (set waiting done : List Amp) (s : State) : State :=
  (changeAmp k (fun a => { a with state := .diag }) s).modOs fun o =>
    { o with
      loadTest :=
        some { set := set, waiting := waiting, done := done, current := k, checks := 0, found := none
               blanking := o.protection.blanking, remaining := checkTenths o.protection.blanking } }

/-- LOAD_TEST's own rule (R159). Check (2) goes by the installation record, so that a channel still in DIAG whose pair has just
been bridged counts as BRIDGED, and the request is refused with OUT_OF_RANGE and not with BUSY (DESIGN CHOICE, log 25). -/
def answerLoadTest (body : Bytes) (s : State) : Answer :=
  match body with
  | [hi, lo] =>
    match readAmpSet hi lo with
    | none | some [] => refuse s .outOfRange
    | some (k :: ks) =>
      if (k :: ks).any (isBridgedEven s.install) then refuse s .outOfRange
      else if s.os.loadTest.isSome then refuse s .busy
      else accept (beginDiag k (k :: ks) ks [] s) []
  | _ => refuse s .badLength

/-- LOAD_TEST (R159). -/
def execLoadTest (body : Bytes) (s : State) : Host.Outcome State Fault Refusal :=
  .next (request .loadTest body (answerLoadTest body) s)

/-- The condition a check looks for, by how many have ended before it (R159). -/
def checkResult : Nat → LoadResult
  | 0 => .shortBat
  | 1 => .shortGnd
  | 2 => .shortedLoad
  | _ => .openLoad

/-- The fault kind of a load-test result. -/
def resultKind : LoadResult → Option FaultKind
  | .openLoad => some .openLoad
  | .shortBat => some .shortBat
  | .shortGnd => some .shortGnd
  | .shortedLoad => some .shortedLoad
  | .untested | .ok => none

/-- A channel's result stored; another result than the one held ends the cause of the earlier result's kind (R159, R161). -/
def AmpChannel.tested (holding : FaultHolding) (r : LoadResult) (a : AmpChannel) : AmpChannel :=
  let b := { a with result := r }
  if r = a.result then b
  else
    match resultKind a.result with
    | some kind => b.endCause kind holding
    | none => b

/-- A result in four bits of LOAD_TEST_DONE: 15 for a channel of the set not tested, 0 outside the set (section 12.3). -/
def resultNibble (s : State) (t : LoadTest) (k : Amp) : Nat :=
  if t.set.contains k then (if t.done.contains k then s.os.amps[k].result.code else 15) else 0

/-- LOAD_TEST_DONE (R159, section 12.3). -/
def postTestDone (t : LoadTest) (s : State) : State :=
  post .loadTestDone 0
    (ampSetField t.set ++
      (([(0, 1), (2, 3), (4, 5), (6, 7), (8, 9)] : List (Amp × Amp)).map fun p =>
        u8 (resultNibble s t p.1 * 16 + resultNibble s t p.2)).flatten) s

/-- A channel's test is done: its result is stored, it takes the state its installation fields give, and the next channel
begins or the test ends (R159). -/
def channelTested (t : LoadTest) (r : LoadResult) (s : State) : State :=
  let holding := s.os.protection.holding
  let s1 := changeAmp t.current
    (fun a => { a.tested holding r with state := installedState s.install t.current }) s
  let done := t.done ++ [t.current]
  match t.waiting with
  | k :: ks => beginDiag k t.set ks done s1
  | [] => postTestDone { t with done := done } (s1.modOs (fun o => { o with loadTest := none }))

/-- One of a channel's four checks ends (R159). -/
def checkEnds (registered : Bool) (t : LoadTest) (s : State) : State :=
  let found := if t.found.isNone && registered then some (checkResult t.checks) else t.found
  if t.checks < 3 then
    s.modOs (fun o => { o with
      loadTest := some { t with checks := t.checks + 1, found := found, remaining := checkTenths t.blanking } })
  else channelTested t (found.getD .ok) s

/-- LOAD_TEST_CHECK_END (R159). -/
def execLoadTestCheckEnd (registered : Bool) (s : State) : Host.Outcome State Fault Refusal :=
  .next
    (match s.os.loadTest with
      | none => s
      | some t => settle (checkEnds registered t s))

/-! ### Protection settings and restarts (R156, R163) -/

/-- A fault record without the kinds whose cause has ended (R161). -/
def AmpChannel.cleared (a : AmpChannel) : AmpChannel := { a with faults := a.faults.filter a.causes.contains }

/-- SET_PROTECTION's own rule (R156, R161). -/
def answerProtection (body : Bytes) (s : State) : Answer :=
  match body with
  | [mb, tb, fb, bb] =>
    match readProtectionMode mb, readFaultHolding fb, readBlanking bb with
    | some m, some f, some b =>
      let p : Protection := { mode := m, tripMs := clampNat tb.toNat 2 64, holding := f, blanking := b }
      accept
        (s.modOs (fun o => { o with
          protection := p, amps := if f = .live then o.amps.map AmpChannel.cleared else o.amps }))
        ([mb] ++ (u8 p.tripMs ++ [fb, bb]))
    | _, _, _ => refuse s .outOfRange
  | _ => refuse s .badLength

/-- SET_PROTECTION (R156). -/
def execSetProtection (body : Bytes) (s : State) : Host.Outcome State Fault Refusal :=
  .next (request .setProtection body (answerProtection body) s)

/-- RETRY_CHANNEL's own rule (R156). -/
def answerRetry (body : Bytes) (s : State) : Answer :=
  match body with
  | [cb] =>
    match readAmp cb with
    | none => refuse s .outOfRange
    | some k =>
      if s.os.amps[k].state ≠ .faultLatched then refuse s .wrongState
      else if gateOpen s k = false then refuse s .busy
      else accept (startAmp k true s) []
  | _ => refuse s .badLength

/-- RETRY_CHANNEL (R156). -/
def execRetryChannel (body : Bytes) (s : State) : Host.Outcome State Fault Refusal :=
  .next (request .retryChannel body (answerRetry body) s)

/-- Sets a headphone driver's state. -/
def setDriver (h : Hp) (d : HpDriver) (s : State) : State := s.modOs (fun o => { o with hps := o.hps.set h d })

/-- A driver held off by a short released: ON in RUN, OFF in CONFIG (R163). -/
def releaseDriver (h : Hp) (s : State) : State :=
  if s.os.hps.get h = .heldOff then setDriver h (if s.sc.opState = .run then .on else .off) s else s

/-- CLEAR_FAULT's own rule (R163). -/
def answerClear (body : Bytes) (s : State) : Answer :=
  match body with
  | [cb] =>
    match readHpChan cb with
    | none => refuse s .outOfRange
    | some h => if hpIsFitted s h = false then refuse s .notFitted else accept (releaseDriver h s) []
  | _ => refuse s .badLength

/-- CLEAR_FAULT (R163). -/
def execClearFault (body : Bytes) (s : State) : Host.Outcome State Fault Refusal :=
  .next (request .clearFault body (answerClear body) s)

/-- What GET_FAULTS carries of an amplifier (R161). -/
def ampField (a : AmpChannel) : Bytes :=
  u8 a.state.code ++ (u8 a.result.code ++ (faultSetField a.faults ++
    faultSetField (a.faults.filter a.causes.contains)))

/-- A bank's level and shutdown flag. -/
def bankField (b : BankState) : Bytes := u8 b.level ++ bit b.shutdown

/-- GET_FAULTS's own rule (R161): in LATCHED holding the kinds reported whose cause had ended are then removed. -/
def answerFaults (s : State) : Answer :=
  let o := s.os
  accept
    (s.modOs (fun o => { o with
      amps := if o.protection.holding = .latched then o.amps.map AmpChannel.cleared else o.amps }))
    ((o.amps.toList.map ampField).flatten ++ ((o.douts.toList.map (fun d => u8 d.code)).flatten ++
      (u8 o.hps.hpl.code ++ (u8 o.hps.hpr.code ++ (u8 o.supply.code ++ (bankField o.bank1 ++ bankField o.bank2))))))

/-- GET_FAULTS (R161). -/
def execGetFaults (body : Bytes) (s : State) : Host.Outcome State Fault Refusal :=
  .next (request .getFaults body answerFaults s)

/-! ### SET_MONITOR (R162) -/

/-- An excluded amplifier current: the open timer is discarded and the cause of ON_OPEN_SUSPECT ends (R160 to R162). -/
def excludeAmp (s : State) (k : Amp) : State :=
  if s.os.excluded.contains (.amp k) then
    endCause .onOpenSuspect k (modAmp k (fun a => { a with openTimer := none }) s)
  else s

/-- The microphones whose bias items are excluded read HEALTHY, and the selection is made afresh when a health changes
(R145, R146). -/
def excludeMics (s : State) : State :=
  let f := PerMic.tabulate (fun m => s.clp.faulty.get m && !s.os.excluded.contains (.mic m))
  if f = s.clp.faulty then s else remakeSelection false (s.modClp (fun c => { c with faulty := f }))

/-- SET_MONITOR's own rule (R162). -/
def answerMonitor (body : Bytes) (s : State) : Answer :=
  match body with
  | [b2, b1, b0] =>
    match readItemSet b2 b1 b0 with
    | none => refuse s .outOfRange
    | some l =>
      accept (excludeMics (Amp.all.foldl excludeAmp (s.modOs (fun o => { o with excluded := l })))) (itemSetField l)
  | _ => refuse s .badLength

/-- SET_MONITOR (R162). -/
def execSetMonitor (body : Bytes) (s : State) : Host.Outcome State Fault Refusal :=
  .next (request .setMonitor body (answerMonitor body) s)

/-! ### Samples (R138, R145, R157, R158, R160, R162) -/

/-- An amplifier current sample of a channel in ON (R160). -/
def currentSampled (k : Amp) (belowOpen : Bool) (outputLevel : Int) (s : State) : State :=
  if s.os.amps[k].state = .on then
    let driven := decide (-20 < outputLevel)
    let t := modAmp k
      (fun a => { a with openTimer := if belowOpen && driven then some (a.openTimer.getD 2000) else none }) s
    if belowOpen then t else endCause .onOpenSuspect k t
  else if belowOpen then s
  else endCause .onOpenSuspect k s

/-- A bank's state replaced. -/
def setBank (b : Bank) (x : BankState) (s : State) : State :=
  s.modOs fun o =>
    match b with
    | .b1 => { o with bank1 := x }
    | .b2 => { o with bank2 := x }

/-- The highest level whose threshold a temperature meets (R157). -/
def levelMet (t : Int) : Nat := if 160 ≤ t then 3 else if 150 ≤ t then 2 else if 140 ≤ t then 1 else 0

/-- The level at and below which a sample lowers the level: its threshold less 5 degrees (R157). -/
def fallAt (level : Nat) : Int := 130 + 10 * (level : Int) - 5

/-- The level after a sample: steps (1) and (2) of R157. -/
def levelAfter (level : Nat) (t : Int) : Nat :=
  if level < levelMet t then levelMet t
  else if 0 < level ∧ t ≤ fallAt level then level - 1
  else level

/-- The shutdown flag after a sample: steps (3) and (4) of R157. -/
def shutdownAfter (flag : Bool) (t : Int) : Bool := if 170 ≤ t then true else if t ≤ 135 then false else flag

/-- A bank's number. -/
def bankCode : Bank → Nat
  | .b1 => 1
  | .b2 => 2

/-- The channels a bank's thermal shutdown reaches: its own, and AMP5 for bank 2 while pair 3 is BRIDGED (R157). -/
def bankReach (s : State) (b : Bank) : List Amp := Amp.all.filter (fun k => (gateBanks s.install k).contains b)

/-- A running channel shut down by a bank, which is noted as the bank that shut it down (R157 step (3), R161). -/
def thermalDown (b : Bank) (s : State) (k : Amp) : State :=
  if s.os.amps[k].state.running then
    shutDown .thermalShutdown
      (fun a =>
        if s.os.protection.mode = .retry then
          { a with state := .faultWait, startPending := true, restartMark := true, retry := none }
        else { a with state := .faultLatched }) k
      (modAmp k (fun a => { a with thermalBank := some b }) s)
  else s

/-- The cause of a channel's THERMAL_SHUTDOWN ends as the flag of the bank that shut it down clears (R161). -/
def thermalCauseEnds (b : Bank) (s : State) (k : Amp) : State :=
  if s.os.amps[k].thermalBank = some b then
    endCause .thermalShutdown k (modAmp k (fun a => { a with thermalBank := none }) s)
  else s

/-- The shutdown flag's change acts on the channels (R157 steps (3) and (4)). The CHANNEL_FAULT reports of several channels
stand in the order AMP1 to AMP10 (DESIGN CHOICE, log 22). -/
def shutdownActs (b : Bank) (was now : Bool) (s : State) : State :=
  if !was && now then (bankReach s b).foldl (thermalDown b) s
  else if was && !now then proceedStarts (Amp.all.foldl (thermalCauseEnds b) s)
  else s

/-- A bank temperature sample (R157): the level and the flag, THERMAL_LEVEL when one of them changes, and the flag's
effects. THERMAL_LEVEL precedes the CHANNEL_FAULT reports of a shutdown (DESIGN CHOICE, log 22). -/
def thermalSample (b : Bank) (t : Int) (s : State) : State :=
  let old := bankState s b
  let new : BankState := { level := levelAfter old.level t, shutdown := shutdownAfter old.shutdown t }
  let s1 := setBank b new s
  let s2 := if new = old then s1
    else post .thermalLevel (bankCode b) (u8 new.level ++ (bit new.shutdown ++ s16 t)) s1
  shutdownActs b old.shutdown new.shutdown s2

/-- The quantity of a bank's temperature. -/
def bankQuantity : Bank → Quantity
  | .b1 => .tempBank1
  | .b2 => .tempBank2

/-- The supply state after a sample in units of 0.1 V (R158). -/
def supplyAfter (st : SupplyState) (v : Nat) : SupplyState :=
  if v < 90 then .undervoltage
  else if 180 < v then .overvoltage
  else
    match st with
    | .normal => .normal
    | .undervoltage => if 95 ≤ v then .normal else .undervoltage
    | .overvoltage => if v ≤ 170 then .normal else .overvoltage

/-- A running channel held off on entry to OVERVOLTAGE (R158). A later start follows a shutdown and carries the restart
mark (log 11). -/
def overvoltageHold (s : State) (k : Amp) : State :=
  if s.os.amps[k].state.running then
    shutDown .ovHold (fun a => { a with state := .off, startPending := true, restartMark := true }) k s
  else s

/-- The cause of a channel's OV_HOLD ends as the supply leaves OVERVOLTAGE (R161). -/
def holdCauseEnds (s : State) (k : Amp) : State := endCause .ovHold k s

/-- The supply state's change acts on the channels (R158). The CHANNEL_FAULT reports of several channels stand in the order
AMP1 to AMP10 (DESIGN CHOICE, log 22). -/
def supplyActs (was now : SupplyState) (s : State) : State :=
  if was ≠ .overvoltage ∧ now = .overvoltage then Amp.all.foldl overvoltageHold s
  else if was = .overvoltage ∧ now ≠ .overvoltage then proceedStarts (Amp.all.foldl holdCauseEnds s)
  else s

/-- A supply sample (R158): the state, SUPPLY_STATE when it changes, and its effects. SUPPLY_STATE precedes the CHANNEL_FAULT
reports of an over-voltage hold (DESIGN CHOICE, log 22), and carries a sample above 25.0 V as 250 (DESIGN CHOICE, log 17). -/
def supplySample (v : Nat) (s : State) : State :=
  let new := supplyAfter s.os.supply v
  let s1 := s.modOs (fun o => { o with supply := new })
  let s2 := if new = s.os.supply then s1 else post .supplyState 0 (u8 new.code ++ u8 (min v 250)) s1
  supplyActs s.os.supply new s2

/-- A microphone's bias sample (R145). -/
def biasSample (m : Mic) (inside : Bool) (s : State) : State :=
  if s.clp.faulty.get m = !inside then s
  else remakeSelection (!inside) (s.modClp (fun c => { c with faulty := c.faulty.set m (!inside) }))

/-- Whether a short can be found on a headphone driver: on none in BOOT, CONFIG and STANDBY, one that is still ON in
STANDBY while its paths ramp down (R163) among them (R138; log 13). -/
def findsShorts (s : State) : Bool := isPlaying s

/-- A short on a headphone driver (R138). -/
def driverShort (h : Hp) (s : State) : State :=
  post .headphoneShort (zoneCode (.hp h)) (bit (s.zr.hps.get h).jack ++ sourceField (s.zr.hps.get h).base)
    (setDriver h .heldOff s)

/-- The item of a sample. -/
def sampleItem : Sample → Item
  | .ampCurrent k _ _ => .amp k
  | .temperature b _ => .bank b
  | .supply _ => .supply
  | .micBias m _ => .mic m
  | .hpCurrent h _ => .hp h

/-- Whether the scan samples an item: outside BOOT, not excluded, and in the state R162 names for it. -/
def isSampled (s : State) (i : Item) : Bool :=
  s.sc.opState != .boot && !s.os.excluded.contains i &&
  match i with
  | .amp k => s.os.amps[k].state.running
  | .bank _ | .supply => true
  | .mic m => micIsFitted s m
  | .hp h => s.os.hps.get h == .on

/-- A sample handed to the block that acts on it (R162), and to the Condition Unit where it is a quantity. -/
def sampled (x : Sample) (s : State) : State :=
  match x with
  | .ampCurrent k belowOpen level => currentSampled k belowOpen level s
  | .temperature b t => receipt (bankQuantity b) t (thermalSample b t s)
  | .supply v => receipt .supply v (supplySample v s)
  | .micBias m inside => biasSample m inside s
  | .hpCurrent h above => if above && findsShorts s then driverShort h s else s

/-- MONITOR_SAMPLE (R162). An item that the scan does not sample yields no sample (log 1). -/
def execMonitorSample (x : Sample) (s : State) : Host.Outcome State Fault Refusal :=
  .next (if isSampled s (sampleItem x) then settle (sampled x s) else s)

/-! ### The channels' own events (R154, R155, R160) -/

/-- LIMIT_ENGAGE (R155). -/
def execLimitEngage (k : Amp) (s : State) : Host.Outcome State Fault Refusal :=
  .next
    (match s.os.amps[k].state with
      | .starting => settle (changeAmp k (fun a => { a with trip := some s.os.protection.tripMs }) s)
      | .on => settle (changeAmp k (fun a => { a with state := .limiting, trip := some s.os.protection.tripMs }) s)
      | _ => s)

/-- LIMIT_RELEASE (R155): in STARTING the trip timer is discarded, in LIMITING the channel enters ON. -/
def execLimitRelease (k : Amp) (s : State) : Host.Outcome State Fault Refusal :=
  .next
    (match s.os.amps[k].state with
      | .starting => settle (changeAmp k (fun a => { a with trip := none }) s)
      | .limiting => settle (enterOn k s)
      | _ => s)

/-- SOFT_START_END (R154, R155): ON if the limit is released, LIMITING with the trip timer running on if it is engaged. In
STANDBY the soft start has been discarded, so none ends. -/
def execSoftStartEnd (k : Amp) (s : State) : Host.Outcome State Fault Refusal :=
  let a := s.os.amps[k]
  .next
    (if a.state = .starting ∧ a.soft.isSome then
      settle (if a.trip.isSome then changeAmp k (fun a => { a with state := .limiting, soft := none }) s else enterOn k s)
    else s)

/-- A trip (R155): FAULT_WAIT with the retry timer in RETRY mode, FAULT_LATCHED in LATCH_OFF mode. -/
def tripped (k : Amp) (s : State) : State :=
  shutDown .overcurrentTrip
    (fun a =>
      if s.os.protection.mode = .retry then { a with state := .faultWait, retry := some 1000 }
      else { a with state := .faultLatched }) k s

/-- TRIP_TIMER_RUNOUT (R155): the limit has stayed engaged for the trip time. -/
def execTripTimerRunout (k : Amp) (s : State) : Host.Outcome State Fault Refusal :=
  .next
    (if (s.os.amps[k].state = .starting ∨ s.os.amps[k].state = .limiting) ∧ s.os.amps[k].trip.isSome then
      settle (tripped k s)
    else s)

/-- RETRY_TIMER_RUNOUT: the channel starts, with the restart mark SET (R155). -/
def execRetryTimerRunout (k : Amp) (s : State) : Host.Outcome State Fault Refusal :=
  .next (if s.os.amps[k].state = .faultWait ∧ s.os.amps[k].retry.isSome then settle (startAmp k true s) else s)

/-- ON_OPEN_SUSPECT's data: the zone and the position of the channel's role (R160). -/
def placeField (s : State) (k : Amp) : Bytes :=
  match servedBy s.install (.amp k) with
  | some (z, p) => u8 (zoneCode (.cabin z)) ++ u8 p.code
  | none => u8 254 ++ u8 254

/-- The open timer runs out (R160). -/
def openSuspected (k : Amp) (s : State) : State :=
  post .onOpenSuspect (chanCode (.amp k)) (placeField s k)
    (modAmp k (fun a => { a.addFault .onOpenSuspect with openTimer := none }) s)

/-- OPEN_TIMER_RUNOUT (R160). -/
def execOpenTimerRunout (k : Amp) (s : State) : Host.Outcome State Fault Refusal :=
  .next (if s.os.amps[k].state = .on ∧ s.os.amps[k].openTimer.isSome then settle (openSuspected k s) else s)

end Sys2Proof.Machine
end

