-- ==== Sys2Proof/Machine/Radio.lean ====
section
/-! DEFINITION. The commands of chapters 7 and 8: RX-A's requests, the ends of settles and the measurements, the data
service, the station list, the sweep, alternate following and the traffic watch. -/

namespace Sys2Proof.Machine

/-! ### TUNE, STEP and SEEK (R104 to R107) -/

/-- SEEK_ABORTED, when a request ends a seek (R104 to R106). -/
def abortSeek (k : Kind) (s : State) : State :=
  if s.rx.a.state = .seeking then
    post .seekAborted 0 (stationField s.rx.a.station ++ u8 k.code.toNat) s
  else s

/-- A request's tune of RX-A by its state (R104): an attempt of following is abandoned, a seek is aborted, and the tune is
made. -/
def tuneFor (k : Kind) (st : Station) (s : State) : State := retune st (abortSeek k (abandonAttempt s))

/-- TUNE's own rule (R104). -/
def answerTune (body : Bytes) (s : State) : Answer :=
  match body with
  | [b, hi, lo] =>
    match readStation b hi lo with
    | none => refuse s .outOfRange
    | some st => accept (tuneFor .tune st s) (stationField st)
  | _ => refuse s .badLength

/-- TUNE (R104). -/
def execTune (body : Bytes) (s : State) : Host.Outcome State Fault Refusal :=
  .next (request .tune body (answerTune body) s)

/-- The target index of a STEP, limited to the band's range (R105). -/
def stepTarget (st : Station) (n : Int) : Station :=
  { st with index := (clampInt ((st.index : Int) + n) 0 (topIndex st.band)).toNat }

/-- STEP's own rule (R105). -/
def answerStep (body : Bytes) (s : State) : Answer :=
  match body with
  | [nb] =>
    let n := clampInt nb.toInt (-64) 63
    let st := stepTarget s.rx.a.station n
    accept (tuneFor .step st s) (s8 n ++ u16 st.index)
  | _ => refuse s .badLength

/-- STEP (R105). -/
def execStep (body : Bytes) (s : State) : Host.Outcome State Fault Refusal :=
  .next (request .step body (answerStep body) s)

/-- The next index of a seek, wrapping at the ends of the band (R106 step (2)). -/
def seekNext (up : Bool) (st : Station) : Station :=
  let top := topIndex st.band
  if up then { st with index := if top ≤ st.index then 0 else st.index + 1 }
  else { st with index := if st.index = 0 then top else st.index - 1 }

/-- RX-A moves one index in the seek's direction and settles there (R106 step (2)). -/
def seekMove (up : Bool) (s : State) : State :=
  modA
    (fun r => { r with station := seekNext up r.station, settle := some (settleMs r.station.band),
                       record := DataRecord.empty }) s

/-- A seek begins from the index RX-A holds (R106 step (1)): SEEKING, the tuner mute SEEK and the record cleared. STATION_DATA
carries the start index, at which the record is cleared, and precedes TRAFFIC_ENDED (DESIGN CHOICE, log 24). -/
def beginSeek (up : Bool) (s : State) : State :=
  let s1 := changeReceiver .a (fun r => { r with state := .seeking, mute := .seek, record := DataRecord.empty }) s
  seekMove up
    (afterClear .retune
      (s1.modRx (fun r => { r with seek := some { start := r.a.station.index, up := up }, purpose := .retune })))

/-- SEEK's own rule (R106). -/
def answerSeek (body : Bytes) (s : State) : Answer :=
  match body with
  | [db] =>
    match readBit db with
    | none => refuse s .outOfRange
    | some down => accept (beginSeek (!down) (abandonAttempt s)) []
  | _ => refuse s .badLength

/-- SEEK (R106). -/
def execSeek (body : Bytes) (s : State) : Host.Outcome State Fault Refusal :=
  .next (request .seek body (answerSeek body) s)

/-- SET_RECEPTION's own rule (R107). -/
def answerReception (body : Bytes) (s : State) : Answer :=
  match body with
  | [tb] => accept (s.modRx (fun r => { r with threshold := min tb.toNat 100 })) (u8 (min tb.toNat 100))
  | _ => refuse s .badLength

/-- SET_RECEPTION (R107). -/
def execSetReception (body : Bytes) (s : State) : Host.Outcome State Fault Refusal :=
  .next (request .setReception body (answerReception body) s)

/-! ### Settles and measurements (R101 to R103, R106, R109) -/

/-- RX-A's settle ends on a retune (R101): LOCKED, the last tuned station, Qs handed on, TUNE_DONE. -/
def retuneSettled (q : Nat) (s : State) : State :=
  post .tuneDone 0 (stationField s.rx.a.station ++ u8 q) (handOn .a q (setLastTuned (lockA q s)))

/-- RX-B's settle ends on its station (R101, R109). -/
def listenSettled (q : Nat) (s : State) : State :=
  handOn .b q (modB (fun r => { r with state := .locked, settle := none, qs := some q }) s)

/-- The end of a settle of TUNING that no alternate-following command covers. A settle that is not in flight does not end
(log 1). -/
def tuneSettles (x : Rx) (m : Measurement) (s : State) : State :=
  let r := receiver s x
  if r.state = .tuning ∧ r.settle.isSome then
    match x with
    | .a => if s.rx.purpose = .retune then retuneSettled (quality r.station.band m) s else s
    | .b => listenSettled (quality r.station.band m) s
  else s

/-- TUNE_SETTLE_END (R101). -/
def execTuneSettleEnd (x : Rx) (m : Measurement) (s : State) : Host.Outcome State Fault Refusal :=
  .next (settle (tuneSettles x m s))

/-- A 100 ms measurement of a LOCKED receiver (R103). -/
def measured (x : Rx) (m : Measurement) (s : State) : State :=
  let r := receiver s x
  if r.state = .locked then
    let qs := smoothed (r.qs.getD 0) (quality r.station.band m)
    handOn x qs (modReceiver x (fun r => { r with qs := some qs }) s)
  else s

/-- QUALITY_MEASUREMENT (R103). -/
def execQualityMeasurement (x : Rx) (m : Measurement) (s : State) : Host.Outcome State Fault Refusal :=
  .next (settle (measured x m s))

/-- A seek ends on the index it is at, with a report (R106 steps (3) and (4)). -/
def seekEnds (kind : ReportKind) (q : Nat) (s : State) : State :=
  post kind 0 (stationField s.rx.a.station ++ u8 q) (handOn .a q (setLastTuned (lockA q s)))

/-- A seek step's settle ends with its measurement (R106). -/
def seekSteps (m : Measurement) (s : State) : State :=
  match s.rx.seek with
  | none => s
  | some k =>
    if s.rx.a.state = .seeking ∧ s.rx.a.settle.isSome then
      let q := quality s.rx.a.station.band m
      if s.rx.a.station.index = k.start then seekEnds .seekFailed q s
      else if s.rx.threshold ≤ q then seekEnds .seekDone q s
      else seekMove k.up s
    else s

/-- SEEK_STEP_END (R106). -/
def execSeekStepEnd (m : Measurement) (s : State) : Host.Outcome State Fault Refusal :=
  .next (settle (seekSteps m s))

/-- The measurement of a check at the end of RX-B's settle (R125). -/
def checkMeasured (q : Nat) (s : State) : State :=
  if q < s.rx.a.qs.getD 0 + Config.followMargin then tryNext s else s.modAf (fun f => { f with passed := some q })

/-- RX-B's settle for a quick measure or a check ends (R109, R119, R125). -/
def settlesB (m : Measurement) (s : State) : State :=
  if s.rx.b.settle.isSome then
    let q := quality s.rx.b.station.band m
    let t := modB (fun r => { r with settle := none }) s
    if s.rx.b.state = .scanning ∧ s.slm.holder = .scan then sweepMeasured q t
    else if s.rx.b.state = .checking ∧ s.slm.holder = .check ∧ s.af.state = .attempt then checkMeasured q t
    else s
  else s

/-- RX_B_SETTLE_END (R109). -/
def execRxBSettleEnd (m : Measurement) (s : State) : Host.Outcome State Fault Refusal :=
  .next (settle (settlesB m s))

/-- DWELL_END: 400 ms after the measurement of a dwelt index (R119 step (3)). -/
def execDwellEnd (s : State) : Host.Outcome State Fault Refusal :=
  .next (if s.slm.holder = .scan ∧ s.slm.dwell.isSome then settle (advanceSweep s) else s)

/-! ### The data service (R111 to R113) -/

/-- DATA_GROUP (R111). -/
def execDataGroup (x : Rx) (code : Nat) (p : Payload) (s : State) : Host.Outcome State Fault Refusal :=
  .next (settle (takeGroup x code p s))

/-- The traffic timer runs out: the traffic-on flag becomes 0, and the record is handed on (R112, R116). STATION_DATA
precedes TRAFFIC_ENDED (DESIGN CHOICE, log 24). -/
def trafficTimerEnds (x : Rx) (s : State) : State :=
  let r := receiver s x
  if r.record.code.isSome ∧ r.record.timer.isSome then
    let new := { r.record with trafficOn := false, timer := some 2000 }
    let t := learnRecord x r.record new false (changeReceiver x (fun r => { r with record := new }) s)
    match x with
    | .a => watchFlags r.record new false t
    | .b => t
  else s

/-- TRAFFIC_TIMER_RUNOUT (R112). -/
def execTrafficTimerRunout (x : Rx) (s : State) : Host.Outcome State Fault Refusal :=
  .next (settle (trafficTimerEnds x s))

/-! ### The station list and the sweep (R118, R121) -/

/-- The station entry record of 42 bytes (section 12.3). -/
def stationRecord (s : State) (n : Nat) (e : ListEntry) : Bytes :=
  u8 n ++ (stationField e.station ++ (u8 e.quality ++
    (u8 (bitsOf [e.code.isSome, e.name.isSome, e.carrier, pinA s e, pinR s e]) ++ (u16 (e.code.getD 0) ++
      (e.name.getD (List.replicate 8 0#8) ++ (u8 e.age ++ (u8 e.alternates.length ++
        ((e.alternates.map u16).flatten ++ List.replicate (24 - 2 * e.alternates.length) 0#8))))))))

/-- GET_STATION's own rule (R118). -/
def answerStation (body : Bytes) (s : State) : Answer :=
  match body with
  | [sel, x, hi, lo] =>
    match (readStationName sel x hi lo).bind (resolveStation s) with
    | none => refuse s .outOfRange
    | some st =>
      match s.slm.entries.findIdx? (fun e => e.station == st), listEntry s st with
      | some n, some e => accept s (stationRecord s n e)
      | _, _ => refuse s .outOfRange
  | _ => refuse s .badLength

/-- GET_STATION (R118). -/
def execGetStation (body : Bytes) (s : State) : Host.Outcome State Fault Refusal :=
  .next (request .getStation body (answerStation body) s)

/-- The sweep in progress given up without completion (R121). -/
def restartSweep (s : State) : State :=
  let t := s.modSlm fun m =>
    { m with entries := m.entries.map (fun e => { e with seen := false }), inserted := 0, position := ⟨.fm, 0⟩, dwell := none }
  if s.slm.holder = .scan then visitPosition t else t

/-- SCAN_NOW's own rule (R121). -/
def answerScanNow (s : State) : Answer :=
  if s.slm.scanning = false then refuse s .wrongState else accept (restartSweep s) []

/-- SCAN_NOW (R121). -/
def execScanNow (body : Bytes) (s : State) : Host.Outcome State Fault Refusal :=
  .next (request .scanNow body answerScanNow s)

/-- AM scanning turned OFF while the position is on AM completes the sweep at once (R119). -/
def applyAmScanning (was on : Bool) (s : State) : State :=
  if was && !on && s.slm.position.band == .am then
    let t := completeSweep s
    if t.slm.holder = .scan then visitPosition t else t
  else s

/-- Scanning turned OFF or ON (R121). -/
def applyScanning (was on : Bool) (s : State) : State :=
  if was && !on then (if s.slm.holder = .scan then releaseB s else s)
  else if !was && on then requestScan s
  else s

/-- The sweep settings applied (R121): the reports of a sweep that AM scanning OFF completes precede RX_B_HOLDER (DESIGN
CHOICE, log 24). -/
def applyScan (scanning am : Bool) (threshold : Nat) (s : State) : State :=
  applyScanning s.slm.scanning scanning
    (applyAmScanning s.slm.amScanning am
      (s.modSlm (fun m => { m with scanning := scanning, amScanning := am, threshold := threshold })))

/-- SET_SCAN's own rule (R121). -/
def answerSetScan (body : Bytes) (s : State) : Answer :=
  match body with
  | [sb, ab, tb] =>
    match readBit sb, readBit ab with
    | some sc, some am => accept (applyScan sc am (min tb.toNat 100) s) ([sb, ab] ++ u8 (min tb.toNat 100))
    | _, _ => refuse s .outOfRange
  | _ => refuse s .badLength

/-- SET_SCAN (R121). -/
def execSetScan (body : Bytes) (s : State) : Host.Outcome State Fault Refusal :=
  .next (request .setScan body (answerSetScan body) s)

/-! ### Alternate following (R124 to R127) -/

/-- Follow turned OFF ends any attempt (R127). -/
def endFollowing (s : State) : State :=
  match s.af.state with
  | .verify => followIdle (reverted .followOff s)
  | .attempt =>
    let t := releaseCheck s
    if s.rx.a.state = .tuning ∧ (s.rx.purpose = .blind ∨ s.rx.purpose = .switch) then followIdle (tuneBack .blind t)
    else followIdle t
  | _ => followIdle s

/-- SET_FOLLOW's own rule (R124, R127). -/
def answerFollow (body : Bytes) (s : State) : Answer :=
  match body with
  | [fb] =>
    match readBit fb with
    | none => refuse s .outOfRange
    | some true => accept (s.modAf (fun f => { f with follow := true })) []
    | some false => accept ((endFollowing s).modAf (fun f => { f with follow := false })) []
  | _ => refuse s .badLength

/-- SET_FOLLOW (R124). -/
def execSetFollow (body : Bytes) (s : State) : Host.Outcome State Fault Refusal :=
  .next (request .setFollow body (answerFollow body) s)

/-- LOW_TIMER_RUNOUT: Qs has stayed below 30 for 2 s, and the attempt begins (R124). -/
def execLowTimerRunout (s : State) : Host.Outcome State Fault Refusal :=
  .next (if s.af.state = .low ∧ s.af.timer.isSome then settle (beginAttempt s) else s)

/-- CHECK_TIMEOUT: 150 ms from the order without a confirmed code, and the candidate fails (R125). -/
def execCheckTimeout (s : State) : Host.Outcome State Fault Refusal :=
  .next
    (if s.af.state = .attempt ∧ s.slm.holder = .check ∧ s.af.timer.isSome then settle (tryNext s) else s)

/-- Whether RX-A is settling on a tune of a purpose. -/
def settlingFor (p : TunePurpose) (s : State) : Bool :=
  s.rx.a.state == .tuning && s.rx.a.settle.isSome && s.rx.purpose == p

/-- The settle of the switch ends: RX-A stays on the candidate (R125). -/
def switchSettled (m : Measurement) (s : State) : State :=
  let q := quality s.rx.a.station.band m
  switched .rxB (handOn .a q (setLastTuned (lockA q s)))

/-- SWITCH_SETTLE_END (R125). -/
def execSwitchSettleEnd (m : Measurement) (s : State) : Host.Outcome State Fault Refusal :=
  .next (if settlingFor .switch s then settle (switchSettled m s) else s)

/-- The deciding measurement of a blind check (R126). -/
def blindDecided (m : Measurement) (s : State) : State :=
  let q := quality s.rx.a.station.band m
  if q < s.rx.a.qs.getD 0 + Config.followMargin then tuneBack .blind s
  else
    handOn .a q
      ((lockA q s).modAf (fun f => { f with state := .verify, timer := some 1000, passed := some q }))

/-- BLIND_CHECK_DECISION (R126). -/
def execBlindCheckDecision (m : Measurement) (s : State) : Host.Outcome State Fault Refusal :=
  .next (if settlingFor .blind s then settle (blindDecided m s) else s)

/-- The settle of the return to the old index ends (R126): LOCKED there with Qs afresh, and the next candidate is tried
unless the attempt has ended. -/
def returnSettled (m : Measurement) (s : State) : State :=
  let q := quality s.rx.a.station.band m
  let t := handOn .a q (lockA q s)
  if t.af.state = .attempt then tryNext t else t

/-- AF_RETURN_SETTLE_END (R126). -/
def execAfReturnSettleEnd (m : Measurement) (s : State) : Host.Outcome State Fault Refusal :=
  .next (if settlingFor .back s then settle (returnSettled m s) else s)

/-- VERIFY_TIMEOUT: 1 s without a confirmed code (R126). -/
def execVerifyTimeout (s : State) : Host.Outcome State Fault Refusal :=
  .next (if s.af.state = .verify then settle (reverted .timeout s) else s)

/-- BACKOFF_RUNOUT (R127). -/
def execBackoffRunout (s : State) : Host.Outcome State Fault Refusal :=
  .next (if s.af.state = .backoff then settle (followIdle s) else s)

/-! ### The traffic watch (R128 to R130) -/

/-- The watch turned ON (R128): the note is cleared, a set traffic-on flag begins an announcement, and a code held for 2 s
is judged at once, so that TRAFFIC_STARTED precedes TRAFFIC_NO_CARRIER (DESIGN CHOICE, log 24). -/
def watchOn (s : State) : State :=
  let s1 := s.modTw (fun w => { w with on := true, note := none })
  let s2 := if s1.rx.a.record.trafficOn && s1.tw.announcement.isNone then beginAnnouncement s1 else s1
  match s2.tw.codeHeld with
  | some n => if 2000 ≤ n then judgeCarrier s2 else s2
  | none => s2

/-- SET_TRAFFIC_WATCH's own rule (R128). -/
def answerTrafficWatch (body : Bytes) (s : State) : Answer :=
  match body with
  | [ob, zb] =>
    match readBit ob, readCabinSet zb with
    | some on, some z =>
      let t := s.modTw (fun w => { w with zones := z })
      let u :=
        if on then (if s.tw.on then t else watchOn t)
        else endAnnouncement .watchOff (t.modTw (fun w => { w with on := false }))
      accept u [ob, zb]
    | _, _ => refuse s .outOfRange
  | _ => refuse s .badLength

/-- SET_TRAFFIC_WATCH (R128). -/
def execSetTrafficWatch (body : Bytes) (s : State) : Host.Outcome State Fault Refusal :=
  .next (request .setTrafficWatch body (answerTrafficWatch body) s)

/-- TRAFFIC_SKIP's own rule (R130). -/
def answerTrafficSkip (s : State) : Answer := accept (endAnnouncement .skip s) []

/-- TRAFFIC_SKIP (R130). -/
def execTrafficSkip (body : Bytes) (s : State) : Host.Outcome State Fault Refusal :=
  .next (request .trafficSkip body answerTrafficSkip s)

/-- RX-A's record has held its station code for 2 s: the carrier is judged while the watch is ON (R128). -/
def codeHeldLong (s : State) : State :=
  match s.tw.codeHeld with
  | none => s
  | some _ =>
    let t := s.modTw (fun w => { w with codeHeld := some 2000 })
    if t.tw.on then judgeCarrier t else t

/-- CARRIER_JUDGEMENT (R128). -/
def execCarrierJudgement (s : State) : Host.Outcome State Fault Refusal := .next (settle (codeHeldLong s))

/-- BRIDGE_TIMER_RUNOUT: the announcement ends with cause FALL (R130). -/
def execBridgeTimerRunout (s : State) : Host.Outcome State Fault Refusal :=
  .next (if s.tw.bridge.isSome then settle (endAnnouncement .fall s) else s)

end Sys2Proof.Machine
end

