-- ==== Sys2Proof/Machine/Sounds.lean ====
section
/-! DEFINITION. The commands of chapter 6: loading pattern memory, defining patterns, requesting and cancelling chimes, and
the ends of a voice's phases. -/

namespace Sys2Proof.Machine

/-! ### Pattern memory (R81 to R84) -/

/-- PATTERN_LOAD's own rule (R82). -/
def answerPatternLoad (body : Bytes) (s : State) : Answer :=
  match body with
  | [hi, lo] =>
    if nat16 hi lo < Config.segmentSlots then
      accept (s.modPatterns (fun p => { p with load := some (.slot (nat16 hi lo)) })) (u16 (nat16 hi lo))
    else refuse s .outOfRange
  | _ => refuse s .badLength

/-- PATTERN_LOAD (R82). -/
def execPatternLoad (body : Bytes) (s : State) : Host.Outcome State Fault Refusal :=
  .next (request .patternLoad body (whileEditing (answerPatternLoad body)) s)

/-- A slot of pattern memory written (R81). -/
def writeSlot (n : Nat) (g : Segment) (l : List (Nat × Segment)) : List (Nat × Segment) :=
  l.takeWhile (fun x => x.1 < n) ++ (n, g) :: (l.dropWhile (fun x => x.1 < n)).filter (fun x => x.1 != n)

/-- The cursor after a write to a slot (R83). -/
def cursorAfter (n : Nat) : Cursor := if n + 1 < Config.segmentSlots then .slot (n + 1) else .atEnd

/-- Segments written at the cursor, in order, up to the end of memory; the count written is the first part (R83). -/
def writeSegments : List Segment → Cursor → List (Nat × Segment) → Nat × Cursor × List (Nat × Segment)
  | [], c, l => (0, c, l)
  | _ :: _, .atEnd, l => (0, .atEnd, l)
  | g :: gs, .slot n, l =>
    let r := writeSegments gs (cursorAfter n) (writeSlot n g l)
    (r.1 + 1, r.2)

/-- The cursor in a reply: a slot in two bytes, or END, whose code is open (log 3). -/
def cursorField : Cursor → Bytes
  | .slot n => u16 n
  | .atEnd => [Config.cursorEnd.1, Config.cursorEnd.2]

/-- PATTERN_SEGMENT's own rule (R83). -/
def answerPatternSegment (body : Bytes) (s : State) : Answer :=
  match s.patterns.load with
  | none => refuse s .wrongState
  | some c =>
    match readSegments (body.length / 10) body with
    | none => refuse s .outOfRange
    | some gs =>
      let r := writeSegments gs c s.patterns.memory
      { state := s.modPatterns (fun p => { p with memory := r.2.2, load := some r.2.1 })
        status := if r.1 = gs.length then .ok else .cursorEnd
        body := u8 r.1 ++ cursorField r.2.1 }

/-- PATTERN_SEGMENT (R83). -/
def execPatternSegment (body : Bytes) (s : State) : Host.Outcome State Fault Refusal :=
  .next (request .patternSegment body (whileEditing (answerPatternSegment body)) s)

/-- Whether a slot holds a segment. -/
def slotLoaded (s : State) (n : Nat) : Bool := s.patterns.memory.any (fun m => m.1 == n)

/-- The lowest EMPTY slot of a pattern's range (R85 check (4)). -/
def emptySlot (s : State) (first count : Nat) : Option Nat :=
  ((List.range count).map (fun j => first + j)).find? (fun n => !slotLoaded s n)

/-- A table entry replaced (R85). -/
def setPattern (p : PatternId) (t : Option Pattern) (s : State) : State :=
  s.modPatterns (fun x => { x with table := x.table.set p t })

/-- DEFINE_PATTERN's body as applied (R85, section 12.3). -/
def patternField (p : PatternId) (t : Pattern) : Bytes :=
  u8 p.val ++ (u8 1 ++ (u16 t.first ++ (u8 (t.count - 1) ++ (repeatsField t.repeats ++ (u16 t.repeatGap ++
    u8 t.priority)))))

/-- DEFINE_PATTERN's own rule (R85). -/
def answerDefine (body : Bytes) (s : State) : Answer :=
  match body with
  | [ib, mark, f1, f0, cb, rb, g1, g0, pb] =>
    match readPattern ib with
    | none => refuse s .outOfRange
    | some p =>
      if mark = 0#8 then accept (setPattern p none s) (u8 p.val ++ List.replicate 8 0#8)
      else if mark = 1#8 then
        match readRepeats rb with
        | none => refuse s .outOfRange
        | some reps =>
          if Config.segmentSlots ≤ nat16 f1 f0 then refuse s .outOfRange
          else
            let t : Pattern :=
              { first := nat16 f1 f0, count := cb.toNat % 32 + 1, repeats := reps, repeatGap := min (nat16 g1 g0) 5000
                priority := min pb.toNat 7 }
            if Config.segmentSlots < t.first + t.count then
              { state := s, status := .badPattern, body := u16 t.first ++ u8 (t.count - 1) }
            else
              match emptySlot s t.first t.count with
              | some n => { state := s, status := .badPattern, body := u16 n }
              | none => accept (setPattern p (some t) s) (patternField p t)
      else refuse s .outOfRange
  | _ => refuse s .badLength

/-- DEFINE_PATTERN (R85). -/
def execDefinePattern (body : Bytes) (s : State) : Host.Outcome State Fault Refusal :=
  .next (request .definePattern body (whileEditing (answerDefine body)) s)

/-! ### Chimes (R87 to R89) -/

/-- The body of a CHIME_REQUEST's reply: the pattern, the outcome, the entry's zones, and the pattern dropped where one
was (R87, R88). -/
def chimeField (p : PatternId) (code : Nat) (zones : CabinSet) (dropped : Option PatternId) : Bytes :=
  u8 p.val ++ (u8 code ++ (cabinSetField zones ++
    (match dropped with
      | some d => u8 d.val
      | none => [])))

/-- The zones of a pattern's entry as they stand after a request. -/
def entryZones (s : State) (p : PatternId) (zones : CabinSet) : CabinSet :=
  match entryFor s p with
  | some e => e.zones
  | none => zones

/-- CHIME_REQUEST's own rule (R87, R88). -/
def answerChime (body : Bytes) (s : State) : Answer :=
  match body with
  | [ib, zb] =>
    match readPattern ib, readCabinSet zb with
    | some p, some z =>
      match s.patterns.table[p] with
      | none => refuse s .badPattern
      | some t =>
        if anyServed s z = false then refuse s .notFitted
        else
          let r := takeChime p t z s
          match r.2 with
          | .full => refuse s .queueFull
          | .merged => accept r.1 (chimeField p 1 (entryZones r.1 p z) none)
          | .new d => accept r.1 (chimeField p 0 (entryZones r.1 p z) d)
    | _, _ => refuse s .outOfRange
  | _ => refuse s .badLength

/-- CHIME_REQUEST (R87). -/
def execChimeRequest (body : Bytes) (s : State) : Host.Outcome State Fault Refusal :=
  .next (request .chimeRequest body (answerChime body) s)

/-- CHIME_CANCEL's own rule (R89). -/
def answerCancel (body : Bytes) (s : State) : Answer :=
  match body with
  | [ib] =>
    match readPattern ib with
    | none => refuse s .outOfRange
    | some p =>
      match entryFor s p with
      | none => accept s (u8 p.val ++ bit false)
      | some e => accept (voicesLook (endEntry e .cancelled s)) (u8 p.val ++ bit true)
  | _ => refuse s .badLength

/-- CHIME_CANCEL (R89). -/
def execChimeCancel (body : Bytes) (s : State) : Host.Outcome State Fault Refusal :=
  .next (request .chimeCancel body (answerCancel body) s)

/-- A voice's phase ends (R92). An IDLE voice has no phase (log 1). -/
def voicePhaseEnds (v : VoiceId) (s : State) : State :=
  match voiceOf s v with
  | none => s
  | some x => phaseEnd v x s

/-- VOICE_PHASE_END (R92). -/
def execVoicePhaseEnd (v : VoiceId) (s : State) : Host.Outcome State Fault Refusal :=
  .next (settle (voicePhaseEnds v s))

end Sys2Proof.Machine
end

