-- ==== Sys2Proof/Machine/Dispatch.lean ====
section
/-! DEFINITION. The meaning of every command: one arm per row of the opcode table. -/

namespace Sys2Proof.Machine

/-- What a command does to the state, the queue of waiting commands apart. -/
def exec (i : Instr) (s : State) : Host.Outcome State Fault Refusal :=
  match i with
  | .powerOnReset => Sys2Proof.Machine.execPowerOnReset s
  | .initialisationComplete => Sys2Proof.Machine.execInitialisationComplete s
  | .frameError received => Sys2Proof.Machine.execFrameError received s
  | .unknownKind kind => Sys2Proof.Machine.execUnknownKind kind s
  | .poll body => Sys2Proof.Machine.execPoll body s
  | .fetchReports body => Sys2Proof.Machine.execFetchReports body s
  | .setReportMask body => Sys2Proof.Machine.execSetReportMask body s
  | .getPartState body => Sys2Proof.Machine.execGetPartState body s
  | .setInstall body => Sys2Proof.Machine.execSetInstall body s
  | .getInstall body => Sys2Proof.Machine.execGetInstall body s
  | .openSafetyEdit body => Sys2Proof.Machine.execOpenSafetyEdit body s
  | .setSafety body => Sys2Proof.Machine.execSetSafety body s
  | .lockSafety body => Sys2Proof.Machine.execLockSafety body s
  | .startAudio body => Sys2Proof.Machine.execStartAudio body s
  | .standby body => Sys2Proof.Machine.execStandby body s
  | .wake body => Sys2Proof.Machine.execWake body s
  | .restart body => Sys2Proof.Machine.execRestart body s
  | .selectSource body => Sys2Proof.Machine.execSelectSource body s
  | .setVolume body => Sys2Proof.Machine.execSetVolume body s
  | .setMute body => Sys2Proof.Machine.execSetMute body s
  | .setBalanceFader body => Sys2Proof.Machine.execSetBalanceFader body s
  | .setSourceTrim body => Sys2Proof.Machine.execSetSourceTrim body s
  | .setClassDuck body => Sys2Proof.Machine.execSetClassDuck body s
  | .setSpeedLift body => Sys2Proof.Machine.execSetSpeedLift body s
  | .setRearQuiet body => Sys2Proof.Machine.execSetRearQuiet body s
  | .getZone body => Sys2Proof.Machine.execGetZone body s
  | .promptStart body => Sys2Proof.Machine.execPromptStart body s
  | .promptEnd body => Sys2Proof.Machine.execPromptEnd body s
  | .setVoicing body => Sys2Proof.Machine.execSetVoicing body s
  | .vehicleState body => Sys2Proof.Machine.execVehicleState body s
  | .setCondition body => Sys2Proof.Machine.execSetCondition body s
  | .patternLoad body => Sys2Proof.Machine.execPatternLoad body s
  | .patternSegment body => Sys2Proof.Machine.execPatternSegment body s
  | .definePattern body => Sys2Proof.Machine.execDefinePattern body s
  | .chimeRequest body => Sys2Proof.Machine.execChimeRequest body s
  | .chimeCancel body => Sys2Proof.Machine.execChimeCancel body s
  | .tune body => Sys2Proof.Machine.execTune body s
  | .step body => Sys2Proof.Machine.execStep body s
  | .seek body => Sys2Proof.Machine.execSeek body s
  | .setReception body => Sys2Proof.Machine.execSetReception body s
  | .getStation body => Sys2Proof.Machine.execGetStation body s
  | .scanNow body => Sys2Proof.Machine.execScanNow body s
  | .setScan body => Sys2Proof.Machine.execSetScan body s
  | .setFollow body => Sys2Proof.Machine.execSetFollow body s
  | .setTrafficWatch body => Sys2Proof.Machine.execSetTrafficWatch body s
  | .trafficSkip body => Sys2Proof.Machine.execTrafficSkip body s
  | .rearTune body => Sys2Proof.Machine.execRearTune body s
  | .setRearCeiling body => Sys2Proof.Machine.execSetRearCeiling body s
  | .callState body => Sys2Proof.Machine.execCallState body s
  | .callRoute body => Sys2Proof.Machine.execCallRoute body s
  | .setUplinkMute body => Sys2Proof.Machine.execSetUplinkMute body s
  | .setMicPolicy body => Sys2Proof.Machine.execSetMicPolicy body s
  | .loadTest body => Sys2Proof.Machine.execLoadTest body s
  | .setProtection body => Sys2Proof.Machine.execSetProtection body s
  | .setMonitor body => Sys2Proof.Machine.execSetMonitor body s
  | .retryChannel body => Sys2Proof.Machine.execRetryChannel body s
  | .clearFault body => Sys2Proof.Machine.execClearFault body s
  | .getFaults body => Sys2Proof.Machine.execGetFaults body s
  | .watchdogExpiry => Sys2Proof.Machine.execWatchdogExpiry s
  | .clockLoss => Sys2Proof.Machine.execClockLoss s
  | .clockReturn => Sys2Proof.Machine.execClockReturn s
  | .rampStep => Sys2Proof.Machine.execRampStep s
  | .voicingBlockBoundary => Sys2Proof.Machine.execVoicingBlockBoundary s
  | .holdTimerRunout slot => Sys2Proof.Machine.execHoldTimerRunout slot s
  | .voicePhaseEnd v => Sys2Proof.Machine.execVoicePhaseEnd v s
  | .tuneSettleEnd rx m => Sys2Proof.Machine.execTuneSettleEnd rx m s
  | .qualityMeasurement rx m => Sys2Proof.Machine.execQualityMeasurement rx m s
  | .seekStepEnd m => Sys2Proof.Machine.execSeekStepEnd m s
  | .rxBSettleEnd m => Sys2Proof.Machine.execRxBSettleEnd m s
  | .dwellEnd => Sys2Proof.Machine.execDwellEnd s
  | .dataGroup rx code payload => Sys2Proof.Machine.execDataGroup rx code payload s
  | .trafficTimerRunout rx => Sys2Proof.Machine.execTrafficTimerRunout rx s
  | .lowTimerRunout => Sys2Proof.Machine.execLowTimerRunout s
  | .checkTimeout => Sys2Proof.Machine.execCheckTimeout s
  | .switchSettleEnd m => Sys2Proof.Machine.execSwitchSettleEnd m s
  | .blindCheckDecision m => Sys2Proof.Machine.execBlindCheckDecision m s
  | .afReturnSettleEnd m => Sys2Proof.Machine.execAfReturnSettleEnd m s
  | .verifyTimeout => Sys2Proof.Machine.execVerifyTimeout s
  | .backoffRunout => Sys2Proof.Machine.execBackoffRunout s
  | .carrierJudgement => Sys2Proof.Machine.execCarrierJudgement s
  | .bridgeTimerRunout => Sys2Proof.Machine.execBridgeTimerRunout s
  | .jackStateChange h inserted => Sys2Proof.Machine.execJackStateChange h inserted s
  | .monitorSample sample => Sys2Proof.Machine.execMonitorSample sample s
  | .erleEstimate erle downlink => Sys2Proof.Machine.execErleEstimate erle downlink s
  | .convergenceTimerRunout => Sys2Proof.Machine.execConvergenceTimerRunout s
  | .divergenceTimerRunout => Sys2Proof.Machine.execDivergenceTimerRunout s
  | .noiseEstimate levelFL levelFR => Sys2Proof.Machine.execNoiseEstimate levelFL levelFR s
  | .limitEngage k => Sys2Proof.Machine.execLimitEngage k s
  | .limitRelease k => Sys2Proof.Machine.execLimitRelease k s
  | .softStartEnd k => Sys2Proof.Machine.execSoftStartEnd k s
  | .tripTimerRunout k => Sys2Proof.Machine.execTripTimerRunout k s
  | .retryTimerRunout k => Sys2Proof.Machine.execRetryTimerRunout k s
  | .loadTestCheckEnd registered => Sys2Proof.Machine.execLoadTestCheckEnd registered s
  | .openTimerRunout k => Sys2Proof.Machine.execOpenTimerRunout k s

end Sys2Proof.Machine
end

