-- ==== Sys2Proof/Machine/Time.lean ====
section
/-! DEFINITION. A millisecond in which no command waits. DESIGN CHOICE (log 5): the part's timers run down and its elapsed
times run up; a timer that has run down stays at 0 until its own run-out command takes it. Nothing else happens: ramps,
block boundaries, samples and measurements are commands. -/

namespace Sys2Proof.Machine

/-- A timer one millisecond on. -/
def tick (t : Option Nat) : Option Nat := t.map (· - 1)

/-- An elapsed time one millisecond on, up to a limit. -/
def tock (limit : Nat) (t : Option Nat) : Option Nat := t.map (fun n => min limit (n + 1))

/-- The watchdog one millisecond on (R11). -/
def Watchdog.tick : Watchdog → Watchdog
  | .counting n => .counting (n - 1)
  | w => w

/-- A condition record one millisecond on (R76). -/
def Condition.tick (r : Condition) : Condition :=
  { r with change := r.change.map (fun p => { p with remaining := p.remaining - 1 }) }

/-- A voice one millisecond on (R92). -/
def Voice.tick (v : Voice) : Voice := { v with remaining := v.remaining - 1 }

/-- A receiver one millisecond on: its settle and its traffic timer (R101, R112). -/
def Receiver.tick (r : Receiver) : Receiver :=
  { r with settle := Machine.tick r.settle, record := { r.record with timer := tock 2000 r.record.timer } }

/-- An amplifier's record one millisecond on (R153). -/
def AmpChannel.tick (a : AmpChannel) : AmpChannel :=
  { a with soft := Machine.tick a.soft, trip := Machine.tick a.trip, retry := Machine.tick a.retry,
           openTimer := Machine.tick a.openTimer, outage := a.outage.map (· + 1) }

/-- The part one millisecond on (log 5). -/
def elapse (s : State) : State :=
  { s with
    cp := { s.cp with watchdog := s.cp.watchdog.tick }
    sc := { s.sc with failsafeMs := if s.sc.opState = .failsafe then s.sc.failsafeMs + 1 else s.sc.failsafeMs }
    zr := { s.zr with lostMs := if s.zr.clockLost then s.zr.lostMs + 1 else s.zr.lostMs }
    cu := { s.cu with slots := s.cu.slots.map (fun c => c.map Condition.tick) }
    chimes := { s.chimes with v1 := s.chimes.v1.map Voice.tick, v2 := s.chimes.v2.map Voice.tick }
    rx := { s.rx with a := s.rx.a.tick, b := s.rx.b.tick }
    slm := { s.slm with dwell := tick s.slm.dwell }
    af := { s.af with timer := tick s.af.timer }
    tw := { s.tw with bridge := tick s.tw.bridge, codeHeld := tock 2000 s.tw.codeHeld }
    clp := { s.clp with convergence := tick s.clp.convergence, divergence := tick s.clp.divergence }
    os := { s.os with
      amps := s.os.amps.map AmpChannel.tick
      loadTest := s.os.loadTest.map (fun t => { t with remaining := t.remaining - 10 }) } }

end Sys2Proof.Machine
end

