-- ==== Sys2Proof/Safety.lean ====
section
/-! DEFINITION. The terms the claims use: the state in which a request is checked and acted on, a state with its reply,
what a command leaves alone block by block, and the invariants of the machine, each of which every step keeps. -/

namespace Sys2Proof.Machine

/-! ### Requests and replies -/

/-- The state in which a request of a kind is checked and acted on: its good frame has reached the link watchdog and has
ended load mode (R2, R11, R12, R84). -/
def atRequest (k : Kind) (s : State) : State := arrival k.code s

/-- Whether a request of a kind passes the state check where it is acted on (R16). -/
abbrev Ready (k : Kind) (s : State) : Prop := accepted k (atRequest k s).sc.opState = true

/-- The state with a reply pending (R1, R4). -/
def State.replying (s : State) (k : Kind) (status : Status) (body : Bytes) : State :=
  { s with cp := { s.cp with reply := some { kind := k.code, status := status, body := body } } }

/-- The state after an accepted request: its reply pending with status OK, and every path formed and given its target
(R1, R4, R55). -/
def State.accepting (s : State) (k : Kind) (body : Bytes) : State := settle (s.replying k .ok body)

/-- The state after a refused request whose reply carries an empty body (R4). -/
def State.refusing (s : State) (k : Kind) (status : Status) : State := settle (s.replying k status [])

/-- The byte that carries a small number. -/
abbrev byte (n : Nat) : Byte := BitVec.ofNat 8 n

/-! ### What a command leaves alone -/

/-- The blocks of the state. -/
inductive Block where
  | cp | sc | install | safety | zr | ge | cu | patterns | chimes | rx | slm | af | tw | clp | os | pins | pending
  deriving DecidableEq, Repr

/-- A voice without the gains of its paths, which every command sets afresh (R96). -/
def Voice.ungained (v : Voice) : Voice := { v with paths := v.paths.map (fun p => { p with gain := 0 }) }

/-- Whether a block is the same in two states. The paths and the gains of the chime paths follow from the other blocks
after every command (R55, R96) and are not compared here. -/
def Block.same (b : Block) (s t : State) : Prop :=
  match b with
  | .cp => t.cp = s.cp
  | .sc => t.sc = s.sc
  | .install => t.install = s.install
  | .safety => t.safety = s.safety
  | .zr => t.zr = s.zr
  | .ge => t.ge.voicing = s.ge.voicing
  | .cu => t.cu = s.cu
  | .patterns => t.patterns = s.patterns
  | .chimes =>
    t.chimes.queue = s.chimes.queue ∧ t.chimes.v1.map Voice.ungained = s.chimes.v1.map Voice.ungained ∧
    t.chimes.v2.map Voice.ungained = s.chimes.v2.map Voice.ungained ∧ t.chimes.nextArrival = s.chimes.nextArrival ∧
    t.chimes.nextStart = s.chimes.nextStart
  | .rx => t.rx = s.rx
  | .slm => t.slm = s.slm
  | .af => t.af = s.af
  | .tw => t.tw = s.tw
  | .clp => t.clp = s.clp
  | .os => t.os = s.os
  | .pins => t.pins = s.pins
  | .pending => t.pending = s.pending

/-- Every block but the named ones is the same in two states. -/
def keepsBut (changed : List Block) (s t : State) : Prop := ∀ b : Block, b ∉ changed → b.same s t

/-! ### What a command has done -/

/-- A report stands in the queue (R7). -/
abbrev Told (t : State) (kind : ReportKind) (subject : Nat) (fields : Bytes) : Prop :=
  (⟨kind, subject, reportData fields⟩ : Report) ∈ t.cp.reports

/-- RX-B settles on the sweep's position for a quick measure (R119). -/
abbrev Visiting (t : State) : Prop :=
  t.slm.dwell = none ∧
  t.rx.b = { state := .scanning, station := t.slm.position, settle := some (settleMs t.slm.position.band), qs := none
             mute := t.rx.b.mute, record := DataRecord.empty }

/-- RX-B was released: it visits the sweep's position where scanning is ON in RUN or FAILSAFE, and is IDLE otherwise
(R123). -/
abbrev Released (u t : State) : Prop :=
  if u.slm.scanning = true ∧ isPlaying u = true then
    t.slm = { u.slm with holder := .scan, dwell := none, quickThreshold := u.slm.threshold } ∧ Visiting t
  else t.slm = { u.slm with holder := .none, dwell := none } ∧ t.rx.b.state = .idle ∧ t.rx.b.settle = none

/-- AF_CHECK was released if it held RX-B (R127). -/
abbrev CheckReleased (u t : State) : Prop :=
  (u.slm.holder = .check → Released u t) ∧ (u.slm.holder ≠ .check → t.slm = u.slm ∧ t.rx.b = u.rx.b)

/-- Any announcement has ended with a cause, its TRAFFIC entries removed from every cabin zone (R50, R130). -/
abbrev AnnouncementOver (u t : State) : Prop :=
  t.tw.announcement = none ∧ (u.tw.announcement = none → t.tw.bridge = u.tw.bridge) ∧
  (u.tw.announcement ≠ none → t.tw.bridge = none) ∧
  ∀ c : Cabin, listOf t (.cabin c) =
    if u.tw.announcement = none then listOf u (.cabin c) else (listOf u (.cabin c)).filter (fun e => e.cls != .traffic)

/-- The next candidate of an attempt is being tried, by a check on RX-B or blind while REAR_LISTEN holds it; with no
candidate left the attempt is exhausted and backs off (R122, R125, R126, R127). -/
abbrev CandidateTried (u t : State) : Prop :=
  (u.af.candidates = [] →
    t.af = { u.af with
      state := .backoff, timer := some 10000, oldIndex := none, code := none, current := none, tried := 0
      passed := none } ∧
    (u.cp.reports.length < 24 → Told t .afFailed 0 (u16 (u.af.oldIndex.getD 0) ++ u8 u.af.tried)) ∧ CheckReleased u t) ∧
  ∀ (c : Nat) (rest : List Nat), u.af.candidates = c :: rest →
    t.af.state = .attempt ∧ t.af.current = some c ∧ t.af.candidates = rest ∧ t.af.tried = u.af.tried + 1 ∧
    t.af.oldIndex = u.af.oldIndex ∧ t.af.code = u.af.code ∧ t.af.passed = none ∧
    if (rearStation u).isSome = true then
      t.rx.a.state = .tuning ∧ t.rx.a.station = ⟨.fm, c⟩ ∧ t.rx.a.mute = .blind ∧ t.rx.purpose = .blind ∧
      t.af.timer = none ∧ t.slm = u.slm ∧ t.rx.b = u.rx.b
    else
      t.slm.holder = .check ∧ t.rx.b.state = .checking ∧ t.rx.b.station = ⟨.fm, c⟩ ∧ t.rx.b.settle = some 20 ∧
      t.af.timer = some 150 ∧ t.rx.a = u.rx.a

/-- RX-A tunes back to the old index of an attempt (R126, R127). -/
abbrev TuningBack (u t : State) (mute : TunerMute) : Prop :=
  t.rx.a.state = .tuning ∧ t.rx.a.station = ⟨.fm, u.af.oldIndex.getD 0⟩ ∧ t.rx.a.mute = mute ∧ t.rx.purpose = .back ∧
  t.rx.a.settle = some 20 ∧ t.rx.a.record = DataRecord.empty ∧ t.rx.lastTuned = u.rx.lastTuned

/-- The sweep has left its position upward, for AM behind FM where AM is swept, or for a new sweep with SCAN_DONE (R119,
R120). -/
abbrev SweepMoved (u t : State) : Prop :=
  (u.slm.position.index < topIndex u.slm.position.band →
    t.slm.position = ⟨u.slm.position.band, u.slm.position.index + 1⟩ ∧ t.slm.completed = u.slm.completed) ∧
  (topIndex u.slm.position.band ≤ u.slm.position.index → u.slm.position.band = .fm → u.slm.amScanning = true →
    t.slm.position = ⟨.am, 0⟩ ∧ t.slm.completed = u.slm.completed) ∧
  (topIndex u.slm.position.band ≤ u.slm.position.index → u.slm.position.band = .am ∨ u.slm.amScanning = false →
    t.slm.position = ⟨.fm, 0⟩ ∧ t.slm.completed = (u.slm.completed + 1) % 256 ∧ t.slm.inserted = 0 ∧
    (∀ e ∈ t.slm.entries, e.seen = false) ∧
    (u.cp.reports.length < 23 → (t.cp.reports.any (fun r => r.kind == .scanDone)) = true)) ∧
  Visiting t ∧ t.slm.holder = .scan

/-- A station list in its one order (R115). -/
abbrev Ascending (l : List ListEntry) : Prop := l.Pairwise (fun a b => stationKey a.station < stationKey b.station)

/-- The candidate for removal from a list: its unpinned entry of lowest quality, of equals the one of highest band and
index (R117). -/
abbrev Weakest (u : State) (l : List ListEntry) (c : ListEntry) : Prop :=
  c ∈ l ∧ isPinned u c = false ∧
  ∀ e ∈ l, isPinned u e = false →
    c.quality < e.quality ∨ (c.quality = e.quality ∧ stationKey e.station ≤ stationKey c.station)

/-- A list without the entry of a station. -/
abbrev without (st : Station) (l : List ListEntry) : List ListEntry := l.filter (fun e => e.station != st)

/-- A list after an update of a station's entry (R116). -/
abbrev seenIn (l : List ListEntry) (st : Station) (q : Nat) : List ListEntry :=
  l.map (fun e => if e.station = st then { e with quality := q, age := 0, seen := true } else e)

/-- A measurement of RX-A's current station or of the REAR_LISTEN station stands in the list: in the station's entry, which is
inserted where there is none, whatever its quality, and in a full list in the place of the candidate for removal (R116,
R117). The pins are those of the state after the measurement. -/
abbrev Sighted (u t : State) (st : Station) (q : Nat) : Prop :=
  (listEntry u st ≠ none → t.slm.entries = seenIn u.slm.entries st q) ∧
  (listEntry u st = none → u.slm.entries.length < 40 →
    (listEntry t st).map (fun e => (e.quality, e.age, e.seen)) = some (q, 0, true) ∧
    without st t.slm.entries = u.slm.entries) ∧
  (listEntry u st = none → 40 ≤ u.slm.entries.length → Ascending u.slm.entries →
    ∃ c ∈ u.slm.entries, Weakest t u.slm.entries c ∧
      (listEntry t st).map (fun e => (e.quality, e.age, e.seen)) = some (q, 0, true) ∧
      without st t.slm.entries = without c.station u.slm.entries)

/-- A completed sweep has left of a list the entries that are pinned or not yet of age 3, each one completed sweep older
unless it was seen, and none seen any more (R120). -/
abbrev Swept (u t : State) (l : List ListEntry) : Prop :=
  Ascending l →
    t.slm.entries =
      (((l.map (fun e => if e.seen = true then e else { e with age := min 3 (e.age + 1) })).filter
        (fun e => isPinned u e || e.age != 3)).map (fun e => { e with seen := false }))

/-- The sweep has moved from its position with the list as given: to the next position with that list, or through the steps of
R120 to a new sweep (R119, R120). -/
abbrev SweepMovedWith (u t : State) (l : List ListEntry) : Prop :=
  SweepMoved u t ∧
  if topIndex u.slm.position.band ≤ u.slm.position.index ∧ (u.slm.position.band = .am ∨ u.slm.amScanning = false) then
    Swept u t l
  else t.slm.entries = l

/-- A measured position is in the list, whose entry holds a code or none: RX-B dwells on an FM position without a code, and the
sweep moves from every other (R119 steps (3) and (4)). -/
abbrev DwellsOrMoves (u t : State) (l : List ListEntry) (coded : Bool) : Prop :=
  if u.slm.position.band = .fm ∧ coded = false then
    t.slm.dwell = some 400 ∧ t.slm.position = u.slm.position ∧ t.slm.holder = .scan ∧ t.slm.entries = l
  else SweepMovedWith u t l

/-- RX-A stays on a candidate, by what means it was tried: the last tuned station is the candidate, the attempt is over and
AF_SWITCHED is posted (R125, R126). The list entries are not compared here. -/
abbrev StaysOnCandidate (u t : State) (means : Nat) : Prop :=
  t.rx.lastTuned = u.rx.a.station ∧ t.rx.a.state = .locked ∧ t.rx.a.station = u.rx.a.station ∧
  t.af = { Following.reset with follow := u.af.follow } ∧
  CheckReleased u { t with slm := { t.slm with entries := u.slm.entries, inserted := u.slm.inserted } } ∧
  (u.cp.reports.length < 7 →
    Told t .afSwitched 0
      (u16 (u.af.oldIndex.getD 0) ++ u16 u.rx.a.station.index ++ [byte means, byte (u.af.passed.getD 0)]))

/-! ### What a chime's voice does -/

/-- A channel of a cabin zone stands at the position that a segment names (R94). -/
abbrev NamedChannel (u : State) (pos : SegmentPosition) (z : Cabin) (c : Chan) : Prop :=
  (pos = .left ∧ servedBy u.install c = some (z, .left)) ∨ (pos = .right ∧ servedBy u.install c = some (z, .right))

/-- A channel is a candidate of a cabin zone for a segment: it stands at the position named, or, where that is BOTH or no
channel of the zone stands there, it is a channel of the zone that is not SUB (R94). -/
abbrev CandidateChannel (u : State) (pos : SegmentPosition) (z : Cabin) (c : Chan) : Prop :=
  NamedChannel u pos z c ∨
    ((∀ d ∈ Chan.all, ¬NamedChannel u pos z d) ∧ serves u.install (.cabin z) c = true ∧
      servedBy u.install c ≠ some (z, .sub))

/-- A zone calls for the fallback channels: some channel serves it, and none of its candidates is live (R94). -/
abbrev CallsForFallback (u : State) (pos : SegmentPosition) (z : Cabin) : Prop :=
  isServed u.install z = true ∧ ∀ c ∈ Chan.all, CandidateChannel u pos z c → chanLive u c = false

/-- A live channel carries a segment for a zone: it is a candidate of the zone, or it is a fallback channel and the zone calls
for them (R94, R95). -/
abbrev CarriesSegment (u : State) (pos : SegmentPosition) (z : Cabin) (c : Chan) : Prop :=
  chanLive u c = true ∧
    (CandidateChannel u pos z c ∨ (CallsForFallback u pos z ∧ c ∈ u.safety.config.fallback))

/-- Chime paths lead to exactly the channels that carry a segment for the zones of an entry, one to each (R94, R95). -/
abbrev ChannelsChosen (u : State) (pos : SegmentPosition) (zones : CabinSet) (ps : List ChimePath) : Prop :=
  (ps.map ChimePath.chan).Nodup ∧
  (∀ p ∈ ps, zones.get p.zone = true ∧ CarriesSegment u pos p.zone p.chan) ∧
  ∀ z ∈ Cabin.all, ∀ c ∈ Chan.all, zones.get z = true → CarriesSegment u pos z c → c ∈ ps.map ChimePath.chan

/-- Some zone of an entry is given fallback channels that carry the segment (R95). -/
abbrev FallbackCarries (u : State) (e : ChimeEntry) (pos : SegmentPosition) : Prop :=
  liveFallback u ≠ [] ∧ ∃ z ∈ Cabin.all, e.zones.get z = true ∧ CallsForFallback u pos z

/-- The first time a zone of an entry is given fallback channels that carry the segment, CHIME_REROUTED tells of such a zone
and of the channels, while the queue has room for the report, and the entry is marked; an entry marked before stays so
(R95). -/
abbrev Rerouted (u t : State) (e : ChimeEntry) (pos : SegmentPosition) (room : Nat) : Prop :=
  (FallbackCarries u e pos →
    (entryFor t e.pattern).map ChimeEntry.rerouted = some true ∧
    (e.rerouted = false → u.cp.reports.length < room →
      ∃ z ∈ Cabin.all, e.zones.get z = true ∧ CallsForFallback u pos z ∧
        Told t .chimeRerouted e.pattern.val
          ([byte (zoneCode (.cabin z)), byte (liveFallback u).length] ++
            (liveFallback u).map (fun c => byte (chanCode c))))) ∧
  (¬FallbackCarries u e pos → (entryFor t e.pattern).map ChimeEntry.rerouted = some e.rerouted)

/-- A voice begins the tone of a segment of an entry, on the channels chosen for it (R92, R94, R95). -/
abbrev ToneBegun (u t : State) (v : VoiceId) (e : ChimeEntry) (rep seg : Nat) (g : Segment) : Prop :=
  (voiceOf t v).map (fun y => (y.pattern, y.rep, y.seg, y.phase, y.remaining, y.level)) =
    some (e.pattern, rep, seg, .tone, g.duration, g.level) ∧
  ∀ y ∈ (voiceOf t v).toList, ChannelsChosen u g.position e.zones y.paths

/-- The first segment of an entry's pattern. -/
abbrev firstSegment (u : State) (e : ChimeEntry) : Segment := segmentAt u (patternAt u e.pattern).first

/-- A voice has taken an entry: the entry is PLAYING on it, with a new start mark, from the first segment of the repeat it had
reached, and each of its zones holds a CHIME entry (R90, R93). -/
abbrev EntryTaken (u t : State) (v : VoiceId) (e : ChimeEntry) (room : Nat) : Prop :=
  ToneBegun u t v e e.reached 1 (firstSegment u e) ∧ Rerouted u t e (firstSegment u e).position room ∧
  (∀ y ∈ (voiceOf t v).toList, u.chimes.nextStart ≤ y.start) ∧
  (entryFor t e.pattern).map (fun y => { y with rerouted := e.rerouted }) = some { e with voice := some v, played := true } ∧
  ∀ z ∈ Cabin.all, e.zones.get z = true → holdsClass (listOf t (.cabin z)) .chime = true

/-- Of two playing voices the first is the lower-ranked: the one of the larger priority number, or of equal priority the one
with the later start mark (R91). -/
abbrev RanksLower (u : State) (x y : Voice) : Prop :=
  priorityOf u y.pattern < priorityOf u x.pattern ∨ (priorityOf u y.pattern = priorityOf u x.pattern ∧ y.start < x.start)

/-- An entry has preempted what a voice played, which waits again with all it had; the other voice plays on, and CHIME entries
stand exactly where a voice plays (R91). -/
abbrev EntryPreempts (u t : State) (v o : VoiceId) (x : Voice) (e : ChimeEntry) (room : Nat) : Prop :=
  EntryTaken u t v e room ∧ (voiceOf t o).map Voice.ungained = (voiceOf u o).map Voice.ungained ∧
  entryFor t x.pattern = (entryFor u x.pattern).map (fun y => { y with voice := none }) ∧
  ∀ z ∈ Cabin.all, holdsClass (listOf t (.cabin z)) .chime = playsIn t z

/-! ### What the Call Processor and the Output Stage have done -/

/-- A restart of the echo canceller, counted (R149). -/
abbrev CallContext.recovering (c : CallContext) : CallContext :=
  { c with canceller := .converging, erle := some 0, restarts := min (c.restarts + 1) 255, convergence := none
           divergence := none }

/-- A passage of an amplifier's state restarts a running canceller where the channel serves FRONT or REAR and enters or leaves
ON and LIMITING, and else leaves the call context alone (R149). -/
abbrev PassageHeard (u t : State) (k : Amp) : Prop :=
  t.clp =
    if passesForCanceller u k u.os.amps[k].state t.os.amps[k].state = true ∧ u.clp.canceller ≠ .bypass then
      u.clp.recovering
    else u.clp

/-- One amplifier's record alone may have changed in the Output Stage. -/
abbrev OnlyAmp (u t : State) (k : Amp) : Prop := t.os = { u.os with amps := u.os.amps.set k t.os.amps[k] }

/-! ### Invariants -/

/-- The report queue and ATTN: at most 24 reports, no two change reports of one kind and subject, and the line low exactly
while a queued report's kind is UNMASKED (R7, R10). -/
abbrev QueueOk (s : State) : Prop :=
  s.cp.reports.length ≤ 24 ∧
  s.cp.reports.Pairwise (fun r q => r.kind.isChange = true → r.sameKey q = false) ∧
  s.cp.attnLow = s.cp.reports.any (fun r => !s.cp.masked.contains r.kind)

/-- A precedence list: strictly ordered by class priority, its last entry BASE, and never CALL and TRAFFIC together (R44,
R49). -/
abbrev ListOk (l : List Entry) : Prop :=
  l.Pairwise (fun a b => a.cls.code < b.cls.code) ∧ l.getLast?.map Entry.cls = some .base ∧
  (holdsClass l .call && holdsClass l .traffic) = false

/-- Every zone's list is in order and holds only classes the zone allows (R44, R49). -/
abbrev ListsOk (s : State) : Prop :=
  ∀ z ∈ Zone.all, ListOk (listOf s z) ∧ ∀ e ∈ listOf s z, e.cls = .base ∨ mayHold z e.cls = true

/-- Every path's target and every chime path's gain is the one the present values give (R55, R62 to R65). -/
abbrev GainsCurrent (s : State) : Prop :=
  (∀ p ∈ s.ge.paths, p.target = if p.retiring then .mute else pathTarget s p.zone p.cls p.src p.chan) ∧
  ∀ v ∈ s.chimes.v1.toList ++ s.chimes.v2.toList, ∀ p ∈ v.paths, p.gain = chimeGain s v.level p.chan

/-- The chime queue and the voices: at most eight entries, no two of one pattern, and an entry is PLAYING on a voice
exactly while the voice plays its pattern (R86, R90). -/
abbrev ChimesOk (s : State) : Prop :=
  s.chimes.queue.length ≤ 8 ∧ (s.chimes.queue.map ChimeEntry.pattern).Nodup ∧
  (∀ e ∈ s.chimes.queue, ∀ v ∈ [VoiceId.v1, .v2],
    e.voice = some v → (voiceOf s v).map Voice.pattern = some e.pattern) ∧
  ∀ v ∈ [VoiceId.v1, .v2], ∀ x ∈ (voiceOf s v).toList, (entryOn s v).map ChimeEntry.pattern = some x.pattern

/-- The chime queue in the order of its patterns' priorities, within one priority by arrival; no arrival mark is yet to be
given, and chimes wait only on a LOCKED part, whose patterns do not change (R28, R86). -/
abbrev ChimeOrderOk (s : State) : Prop :=
  s.chimes.queue.Pairwise (fun a b =>
    priorityOf s a.pattern < priorityOf s b.pattern ∨
      (priorityOf s a.pattern = priorityOf s b.pattern ∧ a.arrival < b.arrival)) ∧
  (∀ e ∈ s.chimes.queue, e.arrival < s.chimes.nextArrival) ∧ (s.chimes.queue ≠ [] → s.safety.locked = true)

/-- A voice that has become IDLE takes the first QUEUED entry, and stays IDLE where none waits (R89, R90, R92). V1 looks before
V2, so that V2's turn is stated where V1 plays. -/
abbrev NextTaken (u t : State) (v : VoiceId) : Prop :=
  (firstQueued u = none → voiceOf t v = none) ∧
  (ChimeOrderOk u → v = .v1 ∨ u.chimes.v1 ≠ none → ∀ w ∈ (firstQueued u).toList, EntryTaken u t v w 20)

/-- The CHIME entries stand exactly where a voice plays, and the CALL entries exactly in the zones of the route of a call
in progress (R47, R93, R142). -/
abbrev EntriesFollow (s : State) : Prop :=
  (∀ c ∈ Cabin.all, holdsClass (listOf s (.cabin c)) .chime = playsIn s c) ∧
  ∀ z ∈ Zone.all,
    holdsClass (listOf s z) .call = (s.clp.state != .idle && (routeZones s.clp.route).contains z)

/-- The canceller runs exactly while a call is in progress on the route CABIN, and the uplink selection is the one the
route, the policy and the microphones give (R146, R149). -/
abbrev CallOk (s : State) : Prop :=
  (s.clp.canceller != .bypass) = (s.clp.state != .idle && s.clp.route == .cabin) ∧ s.clp.selection = selectionOf s

/-- RX-B is held by REAR_LISTEN exactly while a headphone zone has BGT as its base source (R122), and is CHECKING while
AF_CHECK holds it (R109). -/
abbrev HolderOk (s : State) : Prop :=
  (rearStation s).isSome = (hasBgt s .hpl || hasBgt s .hpr) ∧ (s.slm.holder = .check → s.rx.b.state = .checking)

/-- The station list holds at most 40 entries in strictly ascending band-then-index order (R115), and every station and
index the receivers and their managers hold lies on its grid (R100). -/
abbrev ReceptionOk (s : State) : Prop :=
  s.slm.entries.length ≤ 40 ∧
  s.slm.entries.Pairwise (fun a b => stationKey a.station < stationKey b.station) ∧
  (∀ e ∈ s.slm.entries, e.station.inGrid = true) ∧
  (∀ st ∈ [s.rx.a.station, s.rx.b.station, s.rx.lastTuned, s.slm.position] ++ (rearStation s).toList,
    st.inGrid = true) ∧
  ∀ i ∈ s.af.oldIndex.toList ++ s.af.current.toList ++ s.af.candidates ++ s.rx.a.record.alternates
    ++ s.rx.b.record.alternates, i ≤ 410

/-- Whether a depth that may be FULL lies in its range. -/
def Depth.inRange : Depth → Bool
  | .full => true
  | .num d => decide (d ≤ 240)

/-- Every zone setting lies in the range of section 3.3, and no headphone step exceeds its ceiling (R36, R38, R135). -/
abbrev SettingsOk (s : State) : Prop :=
  (∀ n ∈ [s.zr.cabin.volBase, s.zr.cabin.volCall, s.zr.cabin.volPrompt, s.zr.cabin.volTraffic], n ≤ 40) ∧
  (∀ q ∈ [s.zr.cabin.balance, s.zr.cabin.fader], -20 ≤ q ∧ q ≤ 20) ∧ s.zr.cabin.speedLift ≤ 4 ∧
  (∀ d ∈ [s.zr.ducks.call, s.zr.ducks.prompt, s.zr.ducks.traffic] ++ s.zr.cabin.rearQuiet.toList, d.inRange = true) ∧
  (∀ x ∈ [Source.fgt, .bgt, .meda, .medb, .call, .prompt], -48 ≤ s.zr.trims.get 0 x ∧ s.zr.trims.get 0 x ≤ 24) ∧
  ∀ h ∈ Hp.all, (s.zr.hps.get h).volBase ≤ (s.zr.hps.get h).ceiling ∧
    (s.zr.hps.get h).volCall ≤ (s.zr.hps.get h).ceiling ∧ (s.zr.hps.get h).ceiling ≤ 40

/-- Every field of the safety configuration lies in the range of section 2.7, and its chime floor stands at or below its
chime ceiling once it is LOCKED (R25, R27, R28). -/
abbrev SafetyOk (s : State) : Prop :=
  (200 ≤ s.safety.config.watchdogMs ∧ s.safety.config.watchdogMs ≤ 5000 ∧ s.safety.config.watchdogMs % 100 = 0) ∧
  s.safety.config.chimeZones.isEmpty = false ∧ s.safety.config.chimeDuck.inRange = true ∧
  (-160 ≤ s.safety.config.chimeFloor ∧ s.safety.config.chimeFloor ≤ 0) ∧
  (-120 ≤ s.safety.config.chimeCeiling ∧ s.safety.config.chimeCeiling ≤ 24) ∧ s.safety.config.chimeLift ≤ 8 ∧
  s.safety.config.fallback.length ≤ 4 ∧ s.safety.config.fallback.Nodup ∧
  (s.safety.locked = true → s.safety.config.chimeFloor ≤ s.safety.config.chimeCeiling)

/-- Every written field of one installation record stands unchanged in another (R22). -/
def Install.heldBy (i j : Install) : Prop :=
  (i.variant = none ∨ j.variant = i.variant) ∧
  (∀ k : Amp, i.ampRole[k] = none ∨ j.ampRole[k] = i.ampRole[k]) ∧
  (∀ k : Dout, i.doutRole[k] = none ∨ j.doutRole[k] = i.doutRole[k]) ∧
  (∀ p : Fin 5, i.bridge[p] = none ∨ j.bridge[p] = i.bridge[p]) ∧
  (∀ h : Hp, i.hpFitted.get h = none ∨ j.hpFitted.get h = i.hpFitted.get h) ∧
  (∀ m : Mic, i.micFitted.get m = none ∨ j.micFitted.get m = i.micFitted.get m) ∧
  (i.clockRole = none ∨ j.clockRole = i.clockRole)

/-- Pattern memory in its one form: slot numbers strictly rising, each below 512 (R81); and the load cursor a slot below 512
or END (R82). -/
abbrev PatternsOk (s : State) : Prop :=
  s.patterns.memory.Pairwise (fun a b => a.1 < b.1) ∧ (∀ m ∈ s.patterns.memory, m.1 < 512) ∧
  (match s.patterns.load with
    | some (.slot n) => decide (n < 512)
    | _ => true) = true

/-- RUN and FAILSAFE are entered only on a LOCKED part with a channel role written (R17), and the link watchdog is COUNTING
in RUN, EXPIRED in FAILSAFE and STOPPED elsewhere (R11, R15). -/
abbrev StatesOk (s : State) : Prop :=
  (isPlaying s = true → s.safety.locked = true ∧ rolesWritten s.install ≠ 0) ∧
  (match s.cp.watchdog with
    | .stopped => !isPlaying s
    | .counting _ => s.sc.opState == .run
    | .expired => s.sc.opState == .failsafe) = true

/-- No channel plays in BOOT or CONFIG, none waits to start there or in STANDBY, and none stands shut down by a fault in
STANDBY (R14, R163); a load test runs in CONFIG alone (R159); a channel waits to start only in OFF and FAULT_WAIT (R154,
R157, R158); and each timer of an amplifier runs only in the states it belongs to (R153, R155, R160). -/
abbrev ChannelsOk (s : State) : Prop :=
  ((s.sc.opState = .boot ∨ s.sc.opState = .config) →
    (∀ a ∈ s.os.amps.toList, a.state ∈ [AmpState.unused, .bridged, .off, .diag] ∧ a.startPending = false) ∧
    (∀ d ∈ s.os.douts.toList, d ≠ .on) ∧ ∀ h ∈ Hp.all, s.os.hps.get h ≠ .on) ∧
  (s.sc.opState = .standby →
    ∀ a ∈ s.os.amps.toList, a.state ∉ [AmpState.faultWait, .faultLatched] ∧ a.startPending = false) ∧
  (s.os.loadTest.isSome = true → s.sc.opState = .config) ∧
  ∀ a ∈ s.os.amps.toList,
    (a.startPending = true → a.state = .off ∨ a.state = .faultWait) ∧ (a.openTimer.isSome = true → a.state = .on) ∧
    (a.trip.isSome = true → a.state = .starting ∨ a.state = .limiting) ∧
    (a.soft.isSome = true → a.state = .starting) ∧ (a.retry.isSome = true → a.state = .faultWait)

end Sys2Proof.Machine
end

