-- ==== Sys2Proof/WellFormed.lean ====
section
/-! DEFINITION. Which commands can reach the part: what its frames can carry (R2) and the ranges the manual gives the
measured values. `exec` is total on ill-formed commands too; statements about all requests name `wellFormed`. -/

namespace Sys2Proof

/-- The ranges of R102. -/
def Measurement.wellFormed (m : Measurement) : Bool :=
  decide (m.level ≤ 90) && decide (m.multipath ≤ 100) && decide (m.adjacent ≤ 100)

/-- An alternate index is carried as a number of at most two bytes. -/
def Payload.wellFormed : Payload → Bool
  | .name _ _ _ => true
  | .alternates i j => decide (i < 65536) && decide (j < 65536)
  | .flags _ _ => true

/-- The ranges of the quantities of section 5.2. -/
def Sample.wellFormed : Sample → Bool
  | .ampCurrent _ _ _ => true
  | .temperature _ t => decide (-40 ≤ t) && decide (t ≤ 175)
  | .supply v => decide (v ≤ 250)
  | .micBias _ _ => true
  | .hpCurrent _ _ => true

/-- Whether a command can reach the part. -/
def Instr.wellFormed (i : Instr) : Bool :=
  match i with
  | .frameError received => decide (received.length ≤ 64) && !isGoodFrame received
  | .unknownKind kind => (Kind.ofCode kind).isNone
  | .tuneSettleEnd _ m | .qualityMeasurement _ m => m.wellFormed
  | .seekStepEnd m | .rxBSettleEnd m | .switchSettleEnd m | .blindCheckDecision m | .afReturnSettleEnd m => m.wellFormed
  | .dataGroup _ code p => decide (code < 65536) && p.wellFormed
  | .monitorSample x => x.wellFormed
  | .erleEstimate erle _ => decide (erle ≤ 40)
  | _ =>
    match i.request with
    | some (_, body) => decide (body.length ≤ maxBody)
    | none => true

end Sys2Proof
end

