-- ==== Sys2Proof/Certificates/Slice0/Obligations.lean ====
section
/-! DEFINITION. The statements for the provers, family by family in the order of the opcode table. In a statement about a
request, `u` is the state in which the request is checked and acted on: its good frame has been taken (R2, R11, R84). -/

open Sys2Proof Sys2Proof.Machine

/-! ### The queue, the frames and the Control Port (chapter 1) -/

/-- A step takes the command at the front of the queue and is that command's effect on the state with the queue's
rest. With no command waiting, a millisecond passes: each timer runs down, a load test's check by ten of its tenths,
each elapsed time grows, and nothing else changes. The queue is the model's (log 18), and so is the millisecond (its
choice, log 5). -/
def Obligations.StepTakesTheFrontCommand : Prop :=
  ∀ (s : State) (c : Instr) (rest : List Instr),
    (s.pending = c :: rest → Sys2Proof.Machine.step s = exec c (s.setPending rest)) ∧
      (s.pending = [] →
        Sys2Proof.Machine.step s = .next { s with
          cp := { s.cp with watchdog := match s.cp.watchdog with
            | .counting n => .counting (n - 1)
            | w => w }
          sc := { s.sc with failsafeMs := s.sc.failsafeMs + if s.sc.opState = .failsafe then 1 else 0 }
          zr := { s.zr with lostMs := s.zr.lostMs + if s.zr.clockLost = true then 1 else 0 }
          cu := { s.cu with slots := s.cu.slots.map (fun c => c.map (fun r =>
            { r with change := r.change.map (fun p => { p with remaining := p.remaining - 1 }) })) }
          chimes := { s.chimes with
            v1 := s.chimes.v1.map (fun v => { v with remaining := v.remaining - 1 })
            v2 := s.chimes.v2.map (fun v => { v with remaining := v.remaining - 1 }) }
          rx := { s.rx with
            a := { s.rx.a with
              settle := s.rx.a.settle.map (· - 1)
              record := { s.rx.a.record with timer := s.rx.a.record.timer.map (fun n => min 2000 (n + 1)) } }
            b := { s.rx.b with
              settle := s.rx.b.settle.map (· - 1)
              record := { s.rx.b.record with timer := s.rx.b.record.timer.map (fun n => min 2000 (n + 1)) } } }
          slm := { s.slm with dwell := s.slm.dwell.map (· - 1) }
          af := { s.af with timer := s.af.timer.map (· - 1) }
          tw := { s.tw with
            bridge := s.tw.bridge.map (· - 1), codeHeld := s.tw.codeHeld.map (fun n => min 2000 (n + 1)) }
          clp := { s.clp with
            convergence := s.clp.convergence.map (· - 1), divergence := s.clp.divergence.map (· - 1) }
          os := { s.os with
            amps := s.os.amps.map (fun a => { a with
              soft := a.soft.map (· - 1), trip := a.trip.map (· - 1), retry := a.retry.map (· - 1)
              openTimer := a.openTimer.map (· - 1), outage := a.outage.map (· + 1) })
            loadTest := s.os.loadTest.map (fun t => { t with remaining := t.remaining - 10 }) } })

/-- R2, R3, R165: the frame by which the host sends a command is read back as that command. -/
def Obligations.SentFramesAreReadBack : Prop :=
  ∀ (i : Instr) (f : Bytes),
    i.wellFormed = true →
    i.frame = some f →
    receive f = i ∧ f.length ≤ 64

/-- R2, R3, R4, R15, R16: a frame that fails checks 1 to 4 changes nothing but the pending reply, and one whose kind
byte names no request only replies as a good frame; a request frame of which one byte arrives changed is turned away
with FRAME_ERROR; and a request whose body length its kind does not allow, or whose kind the operating state does not
accept, is refused with BAD_LENGTH or WRONG_STATE and changes nothing but the reply. That the lengths 2 and 4 to 6 of
SET_SAFETY are for the field of the fallback list alone is the model's reading (log 6). -/
def Obligations.FramesAreTurnedAway : Prop :=
  (∀ (s u : State) (received : Bytes) (kind : Byte),
      u = arrival kind s →
      exec (.frameError received) s =
          .next { s with cp := { s.cp with reply := some ⟨received.getD 1 0#8, .frameError, []⟩ } } ∧
        exec (.unknownKind kind) s =
          .next (settle { u with cp := { u.cp with reply := some ⟨kind, .unknownKind, []⟩ } })) ∧
    (∀ (kind : Byte) (body : Bytes) (j : Nat) (x : Byte),
        body.length ≤ 60 →
        j < 64 →
        x ≠ (requestFrame kind body).getD j 0#8 →
        receive ((requestFrame kind body).set j x) = .frameError ((requestFrame kind body).set j x)) ∧
    (∀ (i : Instr) (k : Kind) (body : Bytes) (s u : State),
        i.request = some (k, body) →
        u = atRequest k s →
        (lengthAllowed k body = false → exec i s = .next (u.refusing k .badLength)) ∧
          (lengthAllowed k body = true →
            (u.sc.opState = .boot ∧ k ∉ [Kind.poll, .fetchReports, .getPartState, .setReportMask]) ∨
              (u.sc.opState = .standby ∧ k ∉ [Kind.poll, .fetchReports, .getPartState, .restart, .wake]) ∨
              (u.sc.opState = .config ∧
                k ∈ [Kind.wake, .promptStart, .promptEnd, .chimeRequest, .chimeCancel, .tune, .step, .seek, .setReception,
                  .getStation, .scanNow, .setScan, .setFollow, .setTrafficWatch, .trafficSkip, .rearTune, .callState,
                  .callRoute, .setUplinkMute, .setMicPolicy]) ∨
              (u.sc.opState = .run ∧ k ∈ [Kind.wake, .startAudio, .setInstall, .loadTest]) →
            exec i s = .next (u.refusing k .wrongState)))

/-- R11, R12, R20, R84: what a good frame does before its request is checked. It restarts the watchdog, ends load mode
unless it is a PATTERN_SEGMENT, and in FAILSAFE takes the part back to RUN with FAILSAFE_LEFT and the quiet flags OFF.
That the time in FAILSAFE_LEFT is rounded down is the model's choice (log 23). -/
def Obligations.GoodFrameRestoresTheLink : Prop :=
  ∀ (s u : State) (kind : Byte),
    u = arrival kind s →
    u.patterns = { s.patterns with load := if kind = 0x1d#8 then s.patterns.load else none } ∧
      (s.cp.watchdog = .stopped → keepsBut [.patterns] s u) ∧
      (s.cp.watchdog ≠ .stopped → u.cp.watchdog = .counting s.safety.config.watchdogMs ∧
        u.cp.reply = s.cp.reply ∧ u.cp.masked = s.cp.masked) ∧
      (s.cp.watchdog ≠ .expired ∨ s.sc.opState ≠ .failsafe → keepsBut [.cp, .patterns] s u ∧
        u.cp.reports = s.cp.reports ∧ u.cp.lost = s.cp.lost ∧ u.cp.attnLow = s.cp.attnLow) ∧
      (s.cp.watchdog = .expired → s.sc.opState = .failsafe →
        u.sc = { s.sc with opState := .run } ∧
        (∀ z : Zone, quietOf u z = false ∧ muteOf u z = muteOf s z ∧ listOf u z = listOf s z ∧
          baseOf u z = baseOf s z) ∧
        u.zr.cabin = s.zr.cabin ∧ u.zr.ducks = s.zr.ducks ∧ u.zr.trims = s.zr.trims ∧
        (∀ h : Hp, u.zr.hps.get h = { s.zr.hps.get h with quiet := false }) ∧
        u.zr.clockLost = s.zr.clockLost ∧ u.zr.lostMs = s.zr.lostMs ∧
        (s.cp.reports.length < 24 →
          { kind := .failsafeLeft, subject := 0,
            data := reportData (u16 (min (s.sc.failsafeMs / 100) 65535)) : Report } ∈ u.cp.reports) ∧
        keepsBut [.cp, .sc, .zr, .patterns] s u)

/-- R6: POLL changes no state and replies with the number of queued reports and the lost flag. It is accepted in every
operating state; from FAILSAFE its good frame has led back to RUN before it is acted on (R15). -/
def Obligations.PollCountsReports : Prop :=
  ∀ (s u : State),
    u = atRequest .poll s →
    u.sc.opState ≠ .failsafe →
    exec (.poll []) s = .next (u.accepting .poll [byte u.cp.reports.length, byte u.cp.lost.toNat])

/-- R8, R9, R10: FETCH_REPORTS takes up to four reports and clears the lost flag; SET_REPORT_MASK replaces the mask by
the set its five bytes name, or is refused where a bit names no report kind. Both put ATTN at the level R10 gives. -/
def Obligations.ReportsFetchedAndMasked : Prop :=
  ∀ (s u w : State) (b0 b1 b2 b3 b4 : Byte) (l : List ReportKind),
    u = atRequest .fetchReports s →
    w = atRequest .setReportMask s →
    l = ReportKind.all.filter (fun r => ([b0, b1, b2, b3, b4].getD (r.code / 8) 0#8).getLsbD (r.code % 8)) →
    (u.sc.opState ≠ .failsafe →
        exec (.fetchReports []) s =
          .next (({ u with
            cp := { u.cp with
              reports := u.cp.reports.drop 4, lost := false
              attnLow := (u.cp.reports.drop 4).any (fun r => !u.cp.masked.contains r.kind) } } : State).accepting .fetchReports
            ([byte (min 4 u.cp.reports.length)] ++
              ((u.cp.reports.take 4).map (fun r => [byte r.kind.code, byte r.subject] ++ r.data)).flatten ++
              [byte (u.cp.reports.length - 4), byte u.cp.lost.toNat]))) ∧
      (w.sc.opState = .boot ∨ w.sc.opState = .config ∨ w.sc.opState = .run →
        (b0.getLsbD 0 = false ∧ b4.getLsbD 5 = false ∧ b4.getLsbD 6 = false ∧ b4.getLsbD 7 = false →
          exec (.setReportMask [b0, b1, b2, b3, b4]) s =
            .next (({ w with
              cp := { w.cp with masked := l, attnLow := w.cp.reports.any (fun r => !l.contains r.kind) } } :
                State).accepting .setReportMask [b0, b1, b2, b3, b4])) ∧
        (b0.getLsbD 0 = true ∨ b4.getLsbD 5 = true ∨ b4.getLsbD 6 = true ∨ b4.getLsbD 7 = true →
          exec (.setReportMask [b0, b1, b2, b3, b4]) s = .next (w.refusing .setReportMask .outOfRange)))

/-- R7, R10: how the queue takes a posted report: in the place of a queued change report of its kind and subject, else
at the newest end while fewer than 24 are queued, else not at all, with the lost flag set. Nothing else changes. -/
def Obligations.QueueTakesAReport : Prop :=
  ∀ (s t : State) (kind : ReportKind) (subject : Nat) (fields : Bytes),
    t = post kind subject fields s →
    keepsBut [.cp] s t ∧ t.cp.reply = s.cp.reply ∧ t.cp.masked = s.cp.masked ∧ t.cp.watchdog = s.cp.watchdog ∧
      t.cp.attnLow = t.cp.reports.any (fun r => !s.cp.masked.contains r.kind) ∧
      (if kind.isChange = true ∧ (s.cp.reports.any (fun r => r.kind == kind && r.subject == subject)) = true then
        t.cp.reports = s.cp.reports.map
            (fun r => if r.kind = kind ∧ r.subject = subject then { r with data := reportData fields } else r) ∧
          t.cp.lost = s.cp.lost
      else if s.cp.reports.length < 24 then
        t.cp.reports = s.cp.reports ++ [⟨kind, subject, reportData fields⟩] ∧ t.cp.lost = s.cp.lost
      else t.cp.reports = s.cp.reports ∧ t.cp.lost = true)

/-- R7, R10: every step keeps the queue at 24 reports or fewer with no two change reports of one kind and subject, and
ATTN low exactly while a queued report's kind is UNMASKED. -/
def Obligations.ReportQueueStaysInOrder : Prop :=
  ∀ (s t : State),
    QueueOk s →
    Sys2Proof.Machine.step s = .next t →
    QueueOk t

/-! ### Resets, installation, the lock and the operating states (chapter 2) -/

/-- R5, R9, R14, R22, R25, R33, R34, R67, R72, R73, R74, R81, R85, R86, R99, R107, R121, R124, R128, R141, R153, R156,
R163: a power-on reset puts every block at its power-on values and the operating state at BOOT; the end of BOOT enters
CONFIG with the jacks as sensed, supplies CALL_ACTIVE as 0 and posts PART_READY. The power-on values are those that
the chapters give, block by block. The pins and the waiting commands are kept, and an end of initialisation outside
BOOT changes nothing (the model's choices, logs 1 and 2). -/
def Obligations.PowerOnResetThenConfig : Prop :=
  ∀ (s : State),
    exec .powerOnReset s = .next { State.reset with pins := s.pins, pending := s.pending } ∧
      (s.sc.opState = .boot →
        exec .initialisationComplete s =
          .next (settle (post .partReady 0
            [byte s.sc.resetCause.code, byte s.safety.locked.toNat, byte (installComplete s.install).toNat,
              byte (rolesWritten s.install)]
            (receipt .callActive 0
              { s with
                sc := { s.sc with opState := .config }
                zr := { s.zr with
                  hps := ⟨{ s.zr.hps.hpl with jack := hpIsFitted s .hpl && s.pins.jack.hpl },
                    { s.zr.hps.hpr with jack := hpIsFitted s .hpr && s.pins.jack.hpr }⟩ } })))) ∧
      (s.sc.opState ≠ .boot → exec .initialisationComplete s = .next s) ∧
      State.reset.cp = ⟨none, [], false, [], false, .stopped⟩ ∧ State.reset.sc.opState = .boot ∧
      (State.reset.install.variant = none ∧ (∀ k : Amp, State.reset.install.ampRole[k] = none) ∧
        (∀ k : Dout, State.reset.install.doutRole[k] = none) ∧ (∀ p : Fin 5, State.reset.install.bridge[p] = none) ∧
        State.reset.install.hpFitted = ⟨none, none⟩ ∧ State.reset.install.micFitted = ⟨none, none, none, none⟩ ∧
        State.reset.install.clockRole = none) ∧
      State.reset.safety =
        ⟨⟨1000, ⟨.hold, .hold, .hold, .hold, .hold⟩, none, ⟨true, false, false⟩, .num 24, -80, 0, 4, []⟩, false, false⟩ ∧
      State.reset.zr.cabin = ⟨none, 16, 24, 22, 22, 0, 0, 2, none⟩ ∧
      (∀ z : Zone, listOf State.reset z = [⟨.base, none, false⟩] ∧ muteOf State.reset z = false ∧
        quietOf State.reset z = false) ∧
      (∀ h : Hp, ((State.reset.zr.hps.get h).base, (State.reset.zr.hps.get h).volBase,
        (State.reset.zr.hps.get h).volCall, (State.reset.zr.hps.get h).ceiling) = (none, 12, 20, 30)) ∧
      State.reset.zr.ducks = ⟨.full, .num 40, .full⟩ ∧ State.reset.zr.trims = ⟨0, 0, 0, 0, 0, 0⟩ ∧
      State.reset.zr.clockLost = false ∧
      (∀ c : Fin 18, State.reset.ge.voicing[c].record.trim = 0 ∧ State.reset.ge.voicing[c].record.processing.delay = 0 ∧
        ∀ j : Fin 5, State.reset.ge.voicing[c].record.processing.bands[j] = ⟨.off, 1000, 0, 7⟩) ∧
      (∀ q : Quantity, heldValue State.reset q =
        if q ∈ [Quantity.speed, .reverse, .tailgate, .ignition] then some 0 else none) ∧
      (∀ i : Fin 16, State.reset.cu.slots[i] = none) ∧
      State.reset.patterns.memory = [] ∧ (∀ p : PatternId, State.reset.patterns.table[p] = none) ∧
      State.reset.patterns.load = none ∧
      State.reset.chimes.queue = [] ∧ State.reset.chimes.v1 = none ∧ State.reset.chimes.v2 = none ∧
      (∀ x : Rx, receiver State.reset x = ⟨.idle, ⟨.fm, 0⟩, none, none, .off, DataRecord.empty⟩) ∧
      State.reset.rx.lastTuned = ⟨.fm, 0⟩ ∧ State.reset.rx.threshold = 45 ∧
      (State.reset.slm.entries, State.reset.slm.scanning, State.reset.slm.amScanning, State.reset.slm.threshold,
          State.reset.slm.position, State.reset.slm.inserted, State.reset.slm.completed, State.reset.slm.holder) =
        ([], true, false, 35, ⟨.fm, 0⟩, 0, 0, .none) ∧
      State.reset.af.follow = true ∧ State.reset.af.state = .idle ∧ State.reset.af.timer = none ∧
      State.reset.af.oldIndex = none ∧ State.reset.af.code = none ∧ State.reset.af.candidates = [] ∧
      State.reset.tw.on = false ∧ State.reset.tw.zones = ⟨true, true, false⟩ ∧ State.reset.tw.announcement = none ∧
      State.reset.tw.bridge = none ∧ State.reset.tw.note = none ∧
      (State.reset.clp.state, State.reset.clp.route, State.reset.clp.uplinkMute, State.reset.clp.policy,
          State.reset.clp.canceller, State.reset.clp.erle, State.reset.clp.restarts) =
        (.idle, .cabin, false, .frontPair, .bypass, none, 0) ∧
      State.reset.clp.selection = ⟨⟨false, false, false, false⟩, .none⟩ ∧
      (∀ k : Amp, (State.reset.os.amps[k].state, State.reset.os.amps[k].startPending,
        State.reset.os.amps[k].restartMark, State.reset.os.amps[k].result, State.reset.os.amps[k].faults) =
          (.unused, false, false, .untested, [])) ∧
      (∀ k : Dout, State.reset.os.douts[k] = .unused) ∧ State.reset.os.hps = ⟨.off, .off⟩ ∧
      State.reset.os.bank1 = ⟨0, false⟩ ∧ State.reset.os.bank2 = ⟨0, false⟩ ∧ State.reset.os.supply = .normal ∧
      State.reset.os.protection = ⟨.retry, 8, .latched, .ms1⟩ ∧ State.reset.os.excluded = [] ∧
      State.reset.os.loadTest = none

/-- R21: RESTART leads to BOOT with its OK reply pending; it keeps the installation record, the safety values and the
lock, pattern memory and table, the station list, the last tuned station, the voicing records and the load-test
results, and returns everything else to its power-on values, every path at MUTE. That the jack states are REMOVED in
the BOOT after RESTART, and the pins kept, is the model's choice (log 2). That RESTART is performed at once, with its
reply pending in BOOT, is the model's reading (log 16). -/
def Obligations.RestartKeepsWhatItNames : Prop :=
  ∀ (s u : State),
    u = atRequest .restart s →
    u.sc.opState ∈ [OpState.config, .run, .standby] →
    ∃ t, exec (.restart []) s = .next t ∧
      t.cp = { ControlPort.reset with reply := some ⟨0x0d#8, .ok, []⟩ } ∧
      t.sc = ⟨.boot, .restart, 0⟩ ∧ t.install = u.install ∧
      t.safety = { u.safety with windowOpen := false } ∧ t.zr = ZoneRouter.reset ∧ t.cu = ConditionUnit.reset ∧
      t.patterns = { u.patterns with load := none } ∧ t.chimes = ChimeUnit.reset ∧
      t.rx = { Receivers.reset with lastTuned := u.rx.lastTuned } ∧
      t.slm = { StationManager.reset with entries := u.slm.entries.map (fun e => { e with seen := false }) } ∧
      t.af = Following.reset ∧ t.tw = TrafficWatch.reset ∧
      t.clp = { CallContext.reset with selection := selectionOf t } ∧
      (∀ k : Amp, t.os.amps[k] =
        { AmpChannel.reset with state := installedState u.install k, result := u.os.amps[k].result }) ∧
      (∀ k : Dout, t.os.douts[k] = installedDout u.install k) ∧
      { t.os with amps := OutputStage.reset.amps, douts := OutputStage.reset.douts } = OutputStage.reset ∧
      (∀ c : Fin 18, t.ge.voicing[c] =
        { u.ge.voicing[c] with
          written := false, trim := u.ge.voicing[c].record.trim
          processing := u.ge.voicing[c].record.processing, fade := none }) ∧
      (∀ p ∈ t.ge.paths, p.target = .mute ∧ p.audible = .mute) ∧ t.pins = u.pins ∧ t.pending = u.pending

/-- R17, R123, R154, R163: START_AUDIO's conditions in order, and what it starts: the watchdog, the channels by their
load-test results and gates, RX-A's tune to its last tuned station, and the sweep or a kept REAR_LISTEN tune. -/
def Obligations.StartAudioStartsTheBlocks : Prop :=
  ∀ (s u : State),
    u = atRequest .startAudio s →
    u.sc.opState = .config →
    (rolesWritten u.install = 0 → exec (.startAudio []) s = .next (u.refusing .startAudio .notInstalled)) ∧
      (rolesWritten u.install ≠ 0 → u.safety.locked = false →
        exec (.startAudio []) s = .next (u.refusing .startAudio .notLocked)) ∧
      (rolesWritten u.install ≠ 0 → u.safety.locked = true → u.os.loadTest.isSome = true →
        exec (.startAudio []) s = .next (u.refusing .startAudio .busy)) ∧
      (rolesWritten u.install ≠ 0 → u.safety.locked = true → u.os.loadTest = none →
        ∃ t, exec (.startAudio []) s = .next t ∧
          t.sc = { u.sc with opState := .run } ∧ t.cp.watchdog = .counting u.safety.config.watchdogMs ∧
          t.cp.reply = some ⟨0x0a#8, .ok, []⟩ ∧
          (∀ k : Amp,
            (u.os.amps[k].state ≠ .off → t.os.amps[k] = u.os.amps[k]) ∧
            (u.os.amps[k].state = .off → u.os.amps[k].result ∈ [LoadResult.untested, .ok, .openLoad] →
              (if gateOpen u k = true then
                t.os.amps[k].state = .starting ∧ t.os.amps[k].soft = some 20 ∧ t.os.amps[k].startPending = false
              else t.os.amps[k].state = .off ∧ t.os.amps[k].startPending = true) ∧
              (u.os.amps[k].result = .openLoad → FaultKind.openLoad ∈ t.os.amps[k].faults)) ∧
            (u.os.amps[k].state = .off → u.os.amps[k].result ∈ [LoadResult.shortBat, .shortGnd, .shortedLoad] →
              t.os.amps[k].state = .faultLatched ∧
              (resultKind u.os.amps[k].result).all (fun x => t.os.amps[k].faults.contains x) = true)) ∧
          (∀ k : Dout, t.os.douts[k] = if u.os.douts[k] = .off then .on else u.os.douts[k]) ∧
          (∀ h : Hp, t.os.hps.get h =
            if u.os.hps.get h = .off ∧ hpIsFitted u h = true then .on else u.os.hps.get h) ∧
          t.rx.a = { state := .tuning, station := u.rx.lastTuned, settle := some (settleMs u.rx.lastTuned.band)
                     qs := none, mute := .off, record := DataRecord.empty } ∧
          t.rx.lastTuned = u.rx.lastTuned ∧ t.rx.purpose = .retune ∧
          (∀ st, rearStation u = some st →
            t.slm = { u.slm with holder := .rear st } ∧ t.rx.b.state = .tuning ∧ t.rx.b.station = st ∧
            t.rx.b.settle = some (settleMs st.band)) ∧
          (u.slm.holder = .none → u.slm.scanning = true →
            t.slm = { u.slm with holder := .scan, dwell := none, quickThreshold := u.slm.threshold } ∧
            t.rx.b.state = .scanning ∧
            t.rx.b.station = u.slm.position) ∧
          (u.slm.holder = .none → u.slm.scanning = false → t.slm = u.slm ∧ t.rx.b = u.rx.b) ∧
          (u.tw.announcement = none → keepsBut [.cp, .sc, .rx, .slm, .af, .tw, .os] u t) ∧
          keepsBut [.cp, .sc, .zr, .rx, .slm, .af, .tw, .os] u t)

/-- R18, R19, R53, R98, R114, R123, R163: STANDBY's conditions in order, and what it ends: the watchdog, the window,
both receivers, the sweep and any check, the voices and the queue, every list down to BASE, the announcement, and each
channel once its paths have reached MUTE. The settings stay. WAKE leads from STANDBY to CONFIG with every running
channel OFF and everything else as STANDBY kept it. That the paths of removed PROMPT and TRAFFIC entries are dropped
at once, without a ramp that a channel would wait for, is the model's choice (log 16). -/
def Obligations.StandbyAndWake : Prop :=
  (∀ (s u : State),
      u = atRequest .standby s →
      u.sc.opState = .config ∨ u.sc.opState = .run →
      (u.clp.state ≠ .idle → exec (.standby []) s = .next (u.refusing .standby .wrongState)) ∧
        (u.clp.state = .idle → u.os.loadTest.isSome = true → exec (.standby []) s = .next (u.refusing .standby .busy)) ∧
        (u.clp.state = .idle → u.os.loadTest = none →
          ∃ t, exec (.standby []) s = .next t ∧
            t.sc = { u.sc with opState := .standby } ∧ t.cp.watchdog = .stopped ∧ t.cp.masked = u.cp.masked ∧
            t.cp.reply = some ⟨0x0b#8, .ok, []⟩ ∧
            t.safety = { u.safety with windowOpen := false } ∧ t.patterns = { u.patterns with load := none } ∧
            (∀ z : Zone, listOf t z = (listOf u z).filter (fun e => e.cls == .base) ∧ muteOf t z = muteOf u z ∧
              quietOf t z = quietOf u z ∧ baseOf t z = baseOf u z) ∧
            t.zr.cabin = u.zr.cabin ∧ t.zr.ducks = u.zr.ducks ∧ t.zr.trims = u.zr.trims ∧
            (∀ h : Hp, t.zr.hps.get h = { u.zr.hps.get h with list := (t.zr.hps.get h).list }) ∧
            t.zr.clockLost = u.zr.clockLost ∧ t.zr.lostMs = u.zr.lostMs ∧
            t.chimes = { u.chimes with queue := [], v1 := none, v2 := none } ∧
            (∀ x : Rx, receiver t x =
              { receiver u x with state := .idle, settle := none, qs := none, mute := .off, record := DataRecord.empty }) ∧
            t.rx.lastTuned = u.rx.lastTuned ∧ t.rx.threshold = u.rx.threshold ∧ t.rx.seek = none ∧
            t.slm = { u.slm with
              dwell := none, holder := match u.slm.holder with | .rear st => .rear st | _ => .none } ∧
            t.af = { Following.reset with follow := u.af.follow } ∧
            t.tw = { u.tw with announcement := none, bridge := none, codeHeld := none } ∧
            (∀ k : Amp, t.os.amps[k].state =
                (if u.os.amps[k].state = .unused ∨ u.os.amps[k].state = .bridged then u.os.amps[k].state
                else if u.os.amps[k].state.running = true ∧ ∃ p ∈ t.ge.paths, p.chan = .amp k ∧ p.audible ≠ .mute then
                  u.os.amps[k].state
                else .off) ∧
              t.os.amps[k].result = u.os.amps[k].result ∧ t.os.amps[k].faults = u.os.amps[k].faults) ∧
            (∀ k : Dout, u.os.douts[k] = .on →
              t.os.douts[k] = if ∃ p ∈ t.ge.paths, p.chan = .dout k ∧ p.audible ≠ .mute then .on else .off) ∧
            (∀ h : Hp, u.os.hps.get h = .on →
              t.os.hps.get h = if ∃ p ∈ t.ge.paths, p.chan = .hp h ∧ p.audible ≠ .mute then .on else .off) ∧
            t.os.protection = u.os.protection ∧ t.os.excluded = u.os.excluded ∧
            (∀ p ∈ t.ge.paths, p.target = .mute) ∧
            (u.clp.canceller = .bypass → t.clp = u.clp) ∧
            keepsBut [.cp, .sc, .safety, .zr, .patterns, .chimes, .rx, .slm, .af, .tw, .clp, .os] u t)) ∧
    (∀ (s u : State),
        u = atRequest .wake s →
        u.sc.opState = .standby →
        u.clp.canceller = .bypass →
        ∃ t, exec (.wake []) s = .next t ∧
          t.sc = { u.sc with opState := .config } ∧ t.cp = { u.cp with reply := some ⟨0x0c#8, .ok, []⟩ } ∧
          (∀ k : Amp,
            (u.os.amps[k].state.running = true → t.os.amps[k].state = .off) ∧
            (u.os.amps[k].state.running = false → t.os.amps[k] = u.os.amps[k])) ∧
          (∀ k : Dout, t.os.douts[k] = if u.os.douts[k] = .on then .off else u.os.douts[k]) ∧
          (∀ h : Hp, t.os.hps.get h = if u.os.hps.get h = .on then .off else u.os.hps.get h) ∧
          { t.os with amps := u.os.amps, douts := u.os.douts, hps := u.os.hps } = u.os ∧
          keepsBut [.cp, .sc, .os] u t)

/-- R22, R23, R24, R32, R137, R146, R153, R159, R163: SET_INSTALL writes a field that is UNSET, and the block that
reads it takes the value at once: a role that names a zone makes an UNUSED channel OFF, a bridge makes the pair's even
channel BRIDGED, unless it is in DIAG, and takes it from a load test's waiting channels, a headphone's YES lets the
jack state take the sensed level, a microphone's field makes the uplink selection afresh, and LEADER ends a loss of
the clock. It refuses, in order, a field that does not exist, a value that is not the field's, a field already
written, and a role write to the even channel of a BRIDGED pair; and it refuses a bridge write to a pair whose even
channel has a role other than UNUSED. That an enumerated value whose first byte is not 0 is a value that is not the
field's is the model's choice (log 21), and that the loss in CLOCK_RESTORED is rounded down (log 23). -/
def Obligations.InstallFieldsAreStored : Prop :=
  (∀ (s u : State) (hi lo : Byte) (k : Amp) (d : Dout) (pr : Fin 5) (h : Hp) (m : Mic) (c : Cabin) (p : Position)
      (yes : Bool),
      u = atRequest .setInstall s →
      u.sc.opState = .config →
      (u.install.variant = none →
          exec (.setInstall [0#8, hi, lo]) s =
            .next (({ u with install := { u.install with variant := some (nat16 hi lo) } } : State).accepting .setInstall
              [0#8, hi, lo])) ∧
        (u.install.ampRole[k] = none → isBridgedEven u.install k = false →
          exec (.setInstall [byte (k.val + 1), byte (zoneCode (.cabin c)), byte p.code]) s =
              .next (({ u with
                install := { u.install with ampRole := u.install.ampRole.set k (some (.zone c p)) }
                os := { u.os with
                  amps := u.os.amps.set k (if u.os.amps[k].state = .unused then { u.os.amps[k] with state := .off } else u.os.amps[k]) } } :
                State).accepting .setInstall [byte (k.val + 1), byte (zoneCode (.cabin c)), byte p.code]) ∧
            exec (.setInstall [byte (k.val + 1), 254#8, 254#8]) s =
              .next (({ u with install := { u.install with ampRole := u.install.ampRole.set k (some .unused) } } :
                State).accepting .setInstall [byte (k.val + 1), 254#8, 254#8])) ∧
        (u.install.doutRole[d] = none →
          exec (.setInstall [byte (d.val + 11), byte (zoneCode (.cabin c)), byte p.code]) s =
              .next (({ u with
                install := { u.install with doutRole := u.install.doutRole.set d (some (.zone c p)) }
                os := { u.os with douts := u.os.douts.set d .off } } :
                State).accepting .setInstall [byte (d.val + 11), byte (zoneCode (.cabin c)), byte p.code]) ∧
            exec (.setInstall [byte (d.val + 11), 254#8, 254#8]) s =
              .next (({ u with install := { u.install with doutRole := u.install.doutRole.set d (some .unused) } } :
                State).accepting .setInstall [byte (d.val + 11), 254#8, 254#8])) ∧
        (u.install.bridge[pr] = none →
          exec (.setInstall [byte (pr.val + 17), 0#8, 0#8]) s =
              .next (({ u with install := { u.install with bridge := u.install.bridge.set pr (some false) } } :
                State).accepting .setInstall [byte (pr.val + 17), 0#8, 0#8]) ∧
            (u.install.ampRole[evenOf pr] = none ∨ u.install.ampRole[evenOf pr] = some .unused →
              exec (.setInstall [byte (pr.val + 17), 0#8, 1#8]) s =
                .next (({ u with
                  install := { u.install with bridge := u.install.bridge.set pr (some true) }
                  os := { u.os with
                    amps := u.os.amps.set (evenOf pr)
                      (if u.os.amps[evenOf pr].state = .diag then u.os.amps[evenOf pr]
                      else { u.os.amps[evenOf pr] with state := .bridged })
                    loadTest := u.os.loadTest.map
                      (fun t => { t with waiting := t.waiting.filter (· != evenOf pr) }) } } :
                  State).accepting .setInstall [byte (pr.val + 17), 0#8, 1#8])) ∧
            (∀ r : Role, u.install.ampRole[evenOf pr] = some r → r ≠ .unused →
              exec (.setInstall [byte (pr.val + 17), 0#8, 1#8]) s = .next (u.refusing .setInstall .conflict))) ∧
        (u.install.hpFitted.get h = none →
          exec (.setInstall [byte (zoneCode (.hp h) + 19), 0#8, byte yes.toNat]) s =
            .next (({ u with
              install := { u.install with hpFitted := u.install.hpFitted.set h (some yes) }
              zr := if yes = true then
                  { u.zr with hps := u.zr.hps.set h { u.zr.hps.get h with jack := u.pins.jack.get h } }
                else u.zr } : State).accepting .setInstall [byte (zoneCode (.hp h) + 19), 0#8, byte yes.toNat])) ∧
        (u.install.micFitted.get m = none →
          ∃ t, exec (.setInstall [byte (itemPlace (.mic m) + 11), 0#8, byte yes.toNat]) s = .next t ∧
            t.install = { u.install with micFitted := u.install.micFitted.set m (some yes) } ∧
            t.clp = { u.clp with selection := selectionOf t } ∧
            t.cp.reply = some ⟨0x05#8, .ok, [byte (itemPlace (.mic m) + 11), 0#8, byte yes.toNat]⟩ ∧
            keepsBut [.cp, .install, .clp] u t) ∧
        (u.install.clockRole = none →
          exec (.setInstall [28#8, 0#8, 0#8]) s =
              .next (({ u with install := { u.install with clockRole := some .follower } } : State).accepting .setInstall
                [28#8, 0#8, 0#8]) ∧
            (u.zr.clockLost = false →
              exec (.setInstall [28#8, 0#8, 1#8]) s =
                .next (({ u with install := { u.install with clockRole := some .leader } } : State).accepting .setInstall
                  [28#8, 0#8, 1#8])) ∧
            (u.zr.clockLost = true →
              exec (.setInstall [28#8, 0#8, 1#8]) s =
                .next ((restoreClock { u with install := { u.install with clockRole := some .leader } }).accepting .setInstall
                  [28#8, 0#8, 1#8])))) ∧
    (∀ (s u : State) (f hi lo : Byte) (x : InstallField) (v : InstallValue),
        u = atRequest .setInstall s →
        u.sc.opState = .config →
        (29 ≤ f.toNat → exec (.setInstall [f, hi, lo]) s = .next (u.refusing .setInstall .outOfRange)) ∧
          (readInstallField f = some x → readInstallValue x hi lo = none →
            exec (.setInstall [f, hi, lo]) s = .next (u.refusing .setInstall .outOfRange)) ∧
          (readInstallField f = some x → readInstallValue x hi lo = some v → installSet u.install x = true →
            exec (.setInstall [f, hi, lo]) s = .next (u.refusing .setInstall .alreadySet)) ∧
          (∀ k : Amp, readInstallField f = some (.ampRole k) → readInstallValue (.ampRole k) hi lo = some v →
            u.install.ampRole[k] = none → isBridgedEven u.install k = true →
            exec (.setInstall [f, hi, lo]) s = .next (u.refusing .setInstall .conflict)))

/-- R22: no step but a power-on reset changes an installation field that has been written. -/
def Obligations.InstallationIsWrittenOnce : Prop :=
  ∀ (s t : State),
    s.pending.head? ≠ some .powerOnReset →
    Sys2Proof.Machine.step s = .next t →
    s.install.heldBy t.install

/-- R26, R27: OPEN_SAFETY_EDIT opens the window of an UNLOCKED part; while LOCKED it and the five edits are refused
with LOCKED, and while UNLOCKED with the window CLOSED the five edits are refused with EDIT_CLOSED. LOCK_SAFETY locks
and closes the window when the limits, the fail-safe chime and the fallback channels pass their checks, and otherwise
answers BAD_SAFETY. The body of a BAD_SAFETY reply is left open (logs 3 and 4). -/
def Obligations.SafetyWindowAndLock : Prop :=
  (∀ (i : Instr) (k : Kind) (body : Bytes) (s u w : State),
      i.request = some (k, body) →
      k ∈ [Kind.setSafety, .lockSafety, .patternLoad, .patternSegment, .definePattern] →
      u = atRequest k s →
      w = atRequest .openSafetyEdit s →
      u.sc.opState = .config ∨ u.sc.opState = .run →
      (lengthAllowed k body = true → u.safety.locked = true → exec i s = .next (u.refusing k .locked)) ∧
        (lengthAllowed k body = true → u.safety.locked = false → u.safety.windowOpen = false →
          exec i s = .next (u.refusing k .editClosed)) ∧
        (w.safety.locked = true → exec (.openSafetyEdit []) s = .next (w.refusing .openSafetyEdit .locked)) ∧
        (w.safety.locked = false →
          exec (.openSafetyEdit []) s =
            .next (({ w with safety := { w.safety with windowOpen := true } } : State).accepting .openSafetyEdit []))) ∧
    (∀ (s u : State),
        u = atRequest .lockSafety s →
        u.sc.opState = .config ∨ u.sc.opState = .run →
        u.safety.locked = false →
        u.safety.windowOpen = true →
        if u.safety.config.chimeFloor ≤ u.safety.config.chimeCeiling ∧
            (∀ p : PatternId, u.safety.config.chime = some p → u.patterns.table[p].isSome = true) ∧
            (∀ c ∈ u.safety.config.fallback, (servedBy u.install c).isSome = true) then
          exec (.lockSafety []) s =
            .next (({ u with
              safety := { u.safety with locked := true, windowOpen := false }
              patterns := { u.patterns with load := none } } : State).accepting .lockSafety (u16 u.safety.config.watchdogMs))
        else ∃ body : Bytes, exec (.lockSafety []) s = .next (settle (u.replying .lockSafety .badSafety body)))

/-- R25: SET_SAFETY in the open window stores each field clamped, rounded or refused as its kind lays down, and
replies with the field and the value applied. That the fail-safe chime is carried in the second byte, with NONE as
255, is the model's reading (log 4), and that a fallback list is refused so where its count is not the number of its
channels is its choice (log 6). -/
def Obligations.SafetyFieldsAreStored : Prop :=
  ∀ (s u : State) (f hi lo : Byte) (z : Zone) (p : Profile) (id : PatternId) (x : Int) (ms : Nat) (l : List Chan)
    (codes : Bytes),
    u = atRequest .setSafety s →
    u.sc.opState = .config ∨ u.sc.opState = .run →
    u.safety.locked = false →
    u.safety.windowOpen = true →
    x = (hi ++ lo : BitVec 16).toInt →
    ms = min (max (nat16 hi lo) 200) 5000 / 100 * 100 →
    exec (.setSafety [0#8, hi, lo]) s =
        .next (({ u with safety := { u.safety with config := { u.safety.config with watchdogMs := ms } } } :
          State).accepting .setSafety (0#8 :: u16 ms)) ∧
      exec (.setSafety [byte (zoneCode z + 1), 0#8, byte p.code]) s =
        .next (({ u with safety := { u.safety with config := { u.safety.config with
            profile := u.safety.config.profile.set z p } } } : State).accepting .setSafety
          [byte (zoneCode z + 1), 0#8, byte p.code]) ∧
      exec (.setSafety [6#8, 0#8, 255#8]) s =
        .next (({ u with safety := { u.safety with config := { u.safety.config with chime := none } } } :
          State).accepting .setSafety [6#8, 0#8, 255#8]) ∧
      exec (.setSafety [6#8, 0#8, byte id.val]) s =
        .next (({ u with safety := { u.safety with config := { u.safety.config with chime := some id } } } :
          State).accepting .setSafety [6#8, 0#8, byte id.val]) ∧
      (0 < lo.toNat → lo.toNat < 8 →
        exec (.setSafety [7#8, 0#8, lo]) s =
          .next (({ u with safety := { u.safety with config := { u.safety.config with
              chimeZones := ⟨lo.getLsbD 0, lo.getLsbD 1, lo.getLsbD 2⟩ } } } : State).accepting .setSafety
            [7#8, 0#8, lo])) ∧
      (nat16 hi lo = 255 →
        exec (.setSafety [8#8, hi, lo]) s =
          .next (({ u with safety := { u.safety with config := { u.safety.config with chimeDuck := .full } } } :
            State).accepting .setSafety [8#8, 0#8, 255#8])) ∧
      (nat16 hi lo ≠ 255 →
        exec (.setSafety [8#8, hi, lo]) s =
          .next (({ u with safety := { u.safety with config := { u.safety.config with
              chimeDuck := .num (min (nat16 hi lo) 240) } } } : State).accepting .setSafety
            (8#8 :: u16 (min (nat16 hi lo) 240)))) ∧
      exec (.setSafety [9#8, hi, lo]) s =
        .next (({ u with safety := { u.safety with config := { u.safety.config with
            chimeFloor := min (max x (-160)) 0 } } } : State).accepting .setSafety
          (9#8 :: s16 (min (max x (-160)) 0))) ∧
      exec (.setSafety [10#8, hi, lo]) s =
        .next (({ u with safety := { u.safety with config := { u.safety.config with
            chimeCeiling := min (max x (-120)) 24 } } } : State).accepting .setSafety
          (10#8 :: s16 (min (max x (-120)) 24))) ∧
      exec (.setSafety [11#8, hi, lo]) s =
        .next (({ u with safety := { u.safety with config := { u.safety.config with
            chimeLift := min (nat16 hi lo) 8 } } } : State).accepting .setSafety (11#8 :: u16 (min (nat16 hi lo) 8))) ∧
      ((∀ c ∈ l, c ∈ Chan.roled) → l.length ≤ 4 →
        exec (.setSafety (12#8 :: byte l.length :: l.map (fun c => byte (chanCode c)))) s =
          .next (if l.Nodup then
            ({ u with safety := { u.safety with config := { u.safety.config with fallback := l } } } :
              State).accepting .setSafety (12#8 :: byte l.length :: l.map (fun c => byte (chanCode c)))
          else u.refusing .setSafety .outOfRange)) ∧
      (codes.length ≤ 4 →
        4 < lo.toNat ∨ codes.length ≠ lo.toNat ∨ (∃ c ∈ codes, c = 0#8 ∨ 17 ≤ c.toNat) →
        exec (.setSafety (12#8 :: lo :: codes)) s = .next (u.refusing .setSafety .outOfRange)) ∧
      (13 ≤ f.toNat → exec (.setSafety [f, hi, lo]) s = .next (u.refusing .setSafety .outOfRange)) ∧
      (2 ≤ lo.toNat →
        exec (.setSafety [byte (zoneCode z + 1), 0#8, lo]) s = .next (u.refusing .setSafety .outOfRange)) ∧
      (32 ≤ lo.toNat → lo ≠ 255#8 →
        exec (.setSafety [6#8, 0#8, lo]) s = .next (u.refusing .setSafety .outOfRange)) ∧
      (lo = 0#8 ∨ 8 ≤ lo.toNat →
        exec (.setSafety [7#8, 0#8, lo]) s = .next (u.refusing .setSafety .outOfRange))

/-- R28: no step but a power-on reset unlocks the part, and while it is LOCKED none changes the safety configuration,
pattern memory, the pattern table or a role that names a zone; GET_PART_STATE and PART_READY report the lock. -/
def Obligations.LockHolds : Prop :=
  ∀ (s t : State),
    s.safety.locked = true →
    s.pending.head? ≠ some .powerOnReset →
    Sys2Proof.Machine.step s = .next t →
    t.safety.locked = true ∧ t.safety.config = s.safety.config ∧ t.patterns.memory = s.patterns.memory ∧
      t.patterns.table = s.patterns.table ∧
      (∀ c : Chan, servedBy s.install c ≠ none → servedBy t.install c = servedBy s.install c) ∧
      (s.sc.opState ≠ .failsafe →
        ∃ u, exec (.getPartState []) s = .next u ∧ (u.cp.reply.bind (fun r => r.body[5]?)) = some 1#8) ∧
      (s.sc.opState = .boot → s.cp.reports = [] →
        ∃ u, exec .initialisationComplete s = .next u ∧
          (u.cp.reports.any (fun r => r.kind == .partReady && r.data[1]? == some 1#8)) = true)

/-- R11, R14, R15, R17, R153, R155, R159, R160, R163: every step keeps the part out of RUN and FAILSAFE unless it is
LOCKED with a channel role written, and the watchdog COUNTING in RUN, EXPIRED in FAILSAFE and STOPPED elsewhere; no
channel plays in BOOT or CONFIG, none waits to start there or in STANDBY or stands shut down in STANDBY, a channel
waits to start only in OFF and FAULT_WAIT, a load test runs in CONFIG alone, and each timer of an amplifier runs only
in the states it belongs to. -/
def Obligations.OperatingStatesStayLegal : Prop :=
  ∀ (s t : State),
    Sys2Proof.Machine.step s = .next t →
    (StatesOk s → StatesOk t) ∧ (ChannelsOk s → ChannelsOk t)

/-- R12, R20, R52, R97: the watchdog's expiry takes the part from RUN to FAILSAFE, posts FAILSAFE_ENTERED, ends every
prompt, sets the quiet flag of the zones whose profile is QUIET, and leaves no CONTINUOUS chime but the fail-safe
chime, which is requested for its zones: it merges into its pattern's entry, or is queued anew where there is room. A
command whose timer, settle or subject is not there changes nothing (the model's choice, log 1). In which order
entries are cut, and when the voices look, are the model's choices (log 22). -/
def Obligations.ExpiryEntersFailsafe : Prop :=
  ∀ (s : State),
    ((∀ n : Nat, s.cp.watchdog ≠ .counting n) → exec .watchdogExpiry s = .next (settle s)) ∧
      (∀ n : Nat, s.cp.watchdog = .counting n → s.sc.opState ≠ .run →
        exec .watchdogExpiry s = .next (settle { s with cp := { s.cp with watchdog := .expired } })) ∧
      (∀ n : Nat, s.cp.watchdog = .counting n → s.sc.opState = .run →
        ∃ t, exec .watchdogExpiry s = .next t ∧
          t.sc = { s.sc with opState := .failsafe, failsafeMs := 0 } ∧ t.cp.watchdog = .expired ∧
          t.cp.reply = s.cp.reply ∧ t.cp.masked = s.cp.masked ∧
          (s.cp.reports.length < 24 →
            ⟨.failsafeEntered, 0, reportData (u16 s.safety.config.watchdogMs)⟩ ∈ t.cp.reports) ∧
          (∀ c : Cabin, ∀ e ∈ listOf t (.cabin c), e.cls ≠ .prompt) ∧
          (∀ z : Zone, quietOf t z = (s.safety.config.profile.get z == .quiet || quietOf s z) ∧
            muteOf t z = muteOf s z ∧ baseOf t z = baseOf s z) ∧
          t.zr.cabin = s.zr.cabin ∧ t.zr.ducks = s.zr.ducks ∧ t.zr.trims = s.zr.trims ∧
          (∀ h : Hp, t.zr.hps.get h = { s.zr.hps.get h with quiet := quietOf t (.hp h) }) ∧
          (∀ e ∈ t.chimes.queue, e.remaining = .continuous → s.safety.config.chime = some e.pattern) ∧
          (s.safety.config.chime = none → ∀ e ∈ t.chimes.queue, ∃ y ∈ s.chimes.queue, y.pattern = e.pattern) ∧
          (∀ id : PatternId, s.safety.config.chime = some id → ChimesOk s →
            ∀ pat : Pattern, s.patterns.table[id] = some pat →
            (s.safety.config.chimeZones.toList.any (isServed s.install)) = true →
            (∀ e : ChimeEntry, entryFor s id = some e →
              e.remaining ≠ .continuous ∨ (e.voice.bind (voiceOf s)).map Voice.phase ≠ some .repeatGap →
              (entryFor t id).map (fun y => (y.zones, y.remaining, y.cutShort, y.arrival)) =
                some (e.zones.union s.safety.config.chimeZones, pat.repeats, false, e.arrival)) ∧
            (entryFor s id = none ∧ s.chimes.queue.length < 8 ∨
                ((entryFor s id).any (fun e => e.remaining == .continuous &&
                  (e.voice.bind (voiceOf s)).map Voice.phase == some .repeatGap)) = true →
              (entryFor t id).map (fun y => (y.zones, y.remaining, y.cutShort, y.arrival)) =
                some (s.safety.config.chimeZones, pat.repeats, false, s.chimes.nextArrival))) ∧
          keepsBut [.cp, .sc, .zr, .chimes] s t)

/-! ### Zones, sources and precedence (chapter 3) -/

/-- R36, R37, R131, R134: SELECT_SOURCE sets the shared cabin base source, or a fitted headphone zone's own, in the
setting and in the BASE entries; the refusals in order; and the release of RX-B when the last zone leaves BGT. -/
def Obligations.SourceIsSelected : Prop :=
  ∀ (s u : State) (c : Cabin) (h : Hp) (src : Option Source) (sb zb : Byte),
    u = atRequest .selectSource s →
    u.sc.opState = .config ∨ u.sc.opState = .run →
    sb = byte ((src.map Source.code).getD 255) →
    (src ∈ [none, some Source.fgt, some .meda, some .medb] →
        exec (.selectSource [byte (zoneCode (.cabin c)), sb]) s =
          .next (({ u with zr := { u.zr with
              cabin := { u.zr.cabin with base := src }
              zones := ⟨{ u.zr.zones.front with list := withBase src u.zr.zones.front.list },
                { u.zr.zones.rear with list := withBase src u.zr.zones.rear.list },
                { u.zr.zones.load with list := withBase src u.zr.zones.load.list }⟩ } } : State).accepting .selectSource
            [byte (zoneCode (.cabin c)), sb])) ∧
      (src ∈ [some Source.bgt, some .call, some .prompt, some .chime] →
        exec (.selectSource [byte (zoneCode (.cabin c)), sb]) s = .next (u.refusing .selectSource .outOfRange)) ∧
      (5 ≤ zb.toNat → exec (.selectSource [zb, sb]) s = .next (u.refusing .selectSource .outOfRange)) ∧
      (hpIsFitted u h = false →
        exec (.selectSource [byte (zoneCode (.hp h)), sb]) s = .next (u.refusing .selectSource .notFitted)) ∧
      (hpIsFitted u h = true → src ∈ [some Source.call, some .prompt, some .chime] →
        exec (.selectSource [byte (zoneCode (.hp h)), sb]) s = .next (u.refusing .selectSource .outOfRange)) ∧
      (hpIsFitted u h = true → src = some .bgt → hasBgt u .hpl = false → hasBgt u .hpr = false →
        exec (.selectSource [byte (zoneCode (.hp h)), sb]) s = .next (u.refusing .selectSource .wrongState)) ∧
      (hpIsFitted u h = true →
        (src = some .bgt ∧ (hasBgt u .hpl = true ∨ hasBgt u .hpr = true)) ∨
          (src ∈ [none, some Source.fgt, some .meda, some .medb] ∧
            (hasBgt u h = false ∨ hasBgt u (Hp.other h) = true)) →
        exec (.selectSource [byte (zoneCode (.hp h)), sb]) s =
          .next (({ u with zr := { u.zr with
              hps := u.zr.hps.set h { u.zr.hps.get h with
                base := src, list := withBase src (u.zr.hps.get h).list } } } : State).accepting .selectSource
            [byte (zoneCode (.hp h)), sb])) ∧
      (hpIsFitted u h = true → src ∈ [none, some Source.fgt, some .meda, some .medb] →
        hasBgt u h = true → hasBgt u (Hp.other h) = false →
        ∃ t, exec (.selectSource [byte (zoneCode (.hp h)), sb]) s = .next t ∧
          t.zr = { u.zr with hps := u.zr.hps.set h { u.zr.hps.get h with
            base := src, list := withBase src (u.zr.hps.get h).list } } ∧
          t.cp.reply = some ⟨0x0e#8, .ok, [byte (zoneCode (.hp h)), sb]⟩ ∧ t.rx.a = u.rx.a ∧
          (if u.slm.scanning = true ∧ u.sc.opState = .run then
            t.slm = { u.slm with holder := .scan, dwell := none, quickThreshold := u.slm.threshold } ∧
              t.rx.b.state = .scanning ∧
              t.rx.b.station = u.slm.position ∧ t.rx.b.settle = some (settleMs u.slm.position.band)
          else t.slm = { u.slm with holder := .none, dwell := none } ∧ t.rx.b.state = .idle ∧ t.rx.b.settle = none) ∧
          t.rx.b.record = DataRecord.empty ∧ keepsBut [.cp, .zr, .rx, .slm] u t)

/-- R36, R38, R39, R48, R149: SET_VOLUME sets the shared cabin step of a class, restarting a running canceller when
the CALL step changes, or a fitted headphone zone's step within its ceiling; SET_MUTE sets one zone's mute flag, with
ZONE_STATE when it changes. That a value is checked before the headphone is the model's reading (log 7). -/
def Obligations.VolumeAndMuteAreSet : Prop :=
  (∀ (s u : State) (c : Cabin) (h : Hp) (cls : Machine.Class) (nb zb : Byte) (n m : Nat),
      u = atRequest .setVolume s →
      u.sc.opState = .config ∨ u.sc.opState = .run →
      n = min nb.toNat 40 →
      m = min n (u.zr.hps.get h).ceiling →
      (cls ≠ .chime →
          ∃ t, exec (.setVolume [byte (zoneCode (.cabin c)), byte cls.code, nb]) s = .next t ∧
            t.zr = { u.zr with cabin := u.zr.cabin.setStep cls n } ∧ volumeStep t (.cabin c) cls = n ∧
            t.cp.reply = some ⟨0x0f#8, .ok, [byte (zoneCode (.cabin c)), byte cls.code, byte n]⟩ ∧
            (if cls = .call ∧ n ≠ u.zr.cabin.volCall ∧ u.clp.canceller ≠ .bypass then
              t.clp = { u.clp with
                canceller := .converging, erle := some 0, restarts := min (u.clp.restarts + 1) 255
                convergence := none, divergence := none }
            else t.clp = u.clp ∧ t.cp.reports = u.cp.reports) ∧
            keepsBut [.cp, .zr, .clp] u t) ∧
        exec (.setVolume [byte (zoneCode (.cabin c)), 1#8, nb]) s = .next (u.refusing .setVolume .outOfRange) ∧
        (5 ≤ zb.toNat → exec (.setVolume [zb, byte cls.code, nb]) s = .next (u.refusing .setVolume .outOfRange)) ∧
        (zb = 0#8 ∨ 6 ≤ zb.toNat →
          exec (.setVolume [byte (zoneCode (.cabin c)), zb, nb]) s = .next (u.refusing .setVolume .outOfRange)) ∧
        (hpIsFitted u h = false →
          exec (.setVolume [byte (zoneCode (.hp h)), byte cls.code, nb]) s = .next (u.refusing .setVolume .notFitted)) ∧
        (hpIsFitted u h = true →
          exec (.setVolume [byte (zoneCode (.hp h)), 5#8, nb]) s =
              .next (({ u with zr := { u.zr with hps := u.zr.hps.set h { u.zr.hps.get h with volBase := m } } } :
                State).accepting .setVolume [byte (zoneCode (.hp h)), 5#8, byte m]) ∧
            exec (.setVolume [byte (zoneCode (.hp h)), 2#8, nb]) s =
              .next (({ u with zr := { u.zr with hps := u.zr.hps.set h { u.zr.hps.get h with volCall := m } } } :
                State).accepting .setVolume [byte (zoneCode (.hp h)), 2#8, byte m]) ∧
            (cls ≠ .base → cls ≠ .call →
              exec (.setVolume [byte (zoneCode (.hp h)), byte cls.code, nb]) s =
                .next (u.refusing .setVolume .outOfRange)))) ∧
    (∀ (s u : State) (z : Zone) (on : Bool) (zb : Byte),
        u = atRequest .setMute s →
        u.sc.opState = .config ∨ u.sc.opState = .run →
        (5 ≤ zb.toNat → exec (.setMute [zb, byte on.toNat]) s = .next (u.refusing .setMute .outOfRange)) ∧
          (2 ≤ zb.toNat → exec (.setMute [byte (zoneCode z), zb]) s = .next (u.refusing .setMute .outOfRange)) ∧
          (zoneUnfitted u z = true →
            exec (.setMute [byte (zoneCode z), byte on.toNat]) s = .next (u.refusing .setMute .notFitted)) ∧
          (zoneUnfitted u z = false → muteOf u z = on →
            exec (.setMute [byte (zoneCode z), byte on.toNat]) s =
              .next (u.accepting .setMute [byte (zoneCode z), byte on.toNat])) ∧
          (zoneUnfitted u z = false → muteOf u z ≠ on →
            exec (.setMute [byte (zoneCode z), byte on.toNat]) s =
              .next ((postZone z
                (match z with
                  | .cabin c => { u with zr := { u.zr with zones := u.zr.zones.set c { u.zr.zones.get c with mute := on } } }
                  | .hp h => { u with zr := { u.zr with hps := u.zr.hps.set h { u.zr.hps.get h with mute := on } } })).accepting
                .setMute [byte (zoneCode z), byte on.toNat])))

/-- R40, R41, R42: balance and fader, speed lift, rear-quiet, a source's trim and a class's duck depth replace the
values held, each clamped to its range. That the depth byte is not read with OFF is the model's choice (log 21). -/
def Obligations.LevelSettingsAreStored : Prop :=
  ∀ (s u1 u2 u3 u4 u5 : State) (x y : Byte) (src : Source),
    u1 = atRequest .setBalanceFader s →
    u2 = atRequest .setSpeedLift s →
    u3 = atRequest .setRearQuiet s →
    u4 = atRequest .setSourceTrim s →
    u5 = atRequest .setClassDuck s →
    u1.sc.opState = .config ∨ u1.sc.opState = .run →
    exec (.setBalanceFader [x, y]) s =
        .next (({ u1 with zr := { u1.zr with cabin := { u1.zr.cabin with
            balance := min (max x.toInt (-20)) 20, fader := min (max y.toInt (-20)) 20 } } } : State).accepting
          .setBalanceFader
          [BitVec.ofInt 8 (min (max x.toInt (-20)) 20), BitVec.ofInt 8 (min (max y.toInt (-20)) 20)]) ∧
      exec (.setSpeedLift [x]) s =
        .next (({ u2 with zr := { u2.zr with cabin := { u2.zr.cabin with speedLift := min x.toNat 4 } } } :
          State).accepting .setSpeedLift [byte (min x.toNat 4)]) ∧
      exec (.setRearQuiet [0#8, x]) s =
        .next (({ u3 with zr := { u3.zr with cabin := { u3.zr.cabin with rearQuiet := none } } } : State).accepting
          .setRearQuiet [0#8, 0#8]) ∧
      exec (.setRearQuiet [1#8, 255#8]) s =
        .next (({ u3 with zr := { u3.zr with cabin := { u3.zr.cabin with rearQuiet := some .full } } } :
          State).accepting .setRearQuiet [1#8, 255#8]) ∧
      (x ≠ 255#8 →
        exec (.setRearQuiet [1#8, x]) s =
          .next (({ u3 with zr := { u3.zr with cabin := { u3.zr.cabin with
              rearQuiet := some (.num (min x.toNat 240)) } } } : State).accepting .setRearQuiet
            [1#8, byte (min x.toNat 240)])) ∧
      (2 ≤ y.toNat → exec (.setRearQuiet [y, x]) s = .next (u3.refusing .setRearQuiet .outOfRange)) ∧
      (src ≠ .chime →
        exec (.setSourceTrim [byte src.code, x]) s =
          .next (({ u4 with zr := { u4.zr with trims := u4.zr.trims.set src (min (max x.toInt (-48)) 24) } } :
            State).accepting .setSourceTrim [byte src.code, BitVec.ofInt 8 (min (max x.toInt (-48)) 24)])) ∧
      (6 ≤ y.toNat → exec (.setSourceTrim [y, x]) s = .next (u4.refusing .setSourceTrim .outOfRange)) ∧
      (x ≠ 255#8 →
        exec (.setClassDuck [2#8, x]) s =
            .next (({ u5 with zr := { u5.zr with ducks := { u5.zr.ducks with call := .num (min x.toNat 240) } } } :
              State).accepting .setClassDuck [2#8, byte (min x.toNat 240)]) ∧
          exec (.setClassDuck [3#8, x]) s =
            .next (({ u5 with zr := { u5.zr with ducks := { u5.zr.ducks with prompt := .num (min x.toNat 240) } } } :
              State).accepting .setClassDuck [3#8, byte (min x.toNat 240)]) ∧
          exec (.setClassDuck [4#8, x]) s =
            .next (({ u5 with zr := { u5.zr with ducks := { u5.zr.ducks with traffic := .num (min x.toNat 240) } } } :
              State).accepting .setClassDuck [4#8, byte (min x.toNat 240)])) ∧
      exec (.setClassDuck [2#8, 255#8]) s =
        .next (({ u5 with zr := { u5.zr with ducks := { u5.zr.ducks with call := .full } } } : State).accepting
          .setClassDuck [2#8, 255#8]) ∧
      exec (.setClassDuck [3#8, 255#8]) s =
        .next (({ u5 with zr := { u5.zr with ducks := { u5.zr.ducks with prompt := .full } } } : State).accepting
          .setClassDuck [3#8, 255#8]) ∧
      exec (.setClassDuck [4#8, 255#8]) s =
        .next (({ u5 with zr := { u5.zr with ducks := { u5.zr.ducks with traffic := .full } } } : State).accepting
          .setClassDuck [4#8, 255#8]) ∧
      (y.toNat < 2 ∨ 5 ≤ y.toNat → exec (.setClassDuck [y, x]) s = .next (u5.refusing .setClassDuck .outOfRange))

/-- R13, R22, R43, R118: GET_PART_STATE, GET_INSTALL, GET_ZONE and GET_STATION reply with what they name and change
nothing; a position or a station that the list does not hold is refused with OUT_OF_RANGE. The order of the fields
where the records of chapter 12 leave it open is the model's (log 4). The bytes that carry the presence of a source
are free (log 3). -/
def Obligations.RecordsAreReadUnchanged : Prop :=
  (∀ (s u1 u2 u3 : State) (z : Zone) (zb x : Byte) (n : Nat) (e : ListEntry) (body : Bytes),
      u1 = atRequest .getInstall s →
      u2 = atRequest .getZone s →
      u3 = atRequest .getStation s →
      body = codeField u1.install.variant ++
        ((Amp.all.map (fun k => roleField u1.install.ampRole[k] ++
          (if k.val % 2 = 1 then bit (isBridgedEven u1.install k) else []))).flatten ++
        ((Dout.all.map (fun k => roleField u1.install.doutRole[k])).flatten ++
        ((u1.install.bridge.toList.map flagField).flatten ++
        (flagField u1.install.hpFitted.hpl ++ flagField u1.install.hpFitted.hpr ++
        (flagField u1.install.micFitted.fl ++ flagField u1.install.micFitted.fr ++
        (flagField u1.install.micFitted.rl ++ flagField u1.install.micFitted.rr ++
        opt8 (u1.install.clockRole.map ClockRole.code))))))) →
      (u1.sc.opState = .config ∨ u1.sc.opState = .run →
          body.length = 52 ∧ exec (.getInstall []) s = .next (u1.accepting .getInstall body)) ∧
        (u2.sc.opState = .config ∨ u2.sc.opState = .run →
          exec (.getZone [byte (zoneCode z)]) s =
              .next (u2.accepting .getZone
                (zoneRecord u2 z ++ [Config.presence (basePresent u2 z), byte (listOf u2 z).length] ++
                  ((listOf u2 z).map entryField).flatten ++ trimsField u2.zr.trims)) ∧
            (5 ≤ zb.toNat → exec (.getZone [zb]) s = .next (u2.refusing .getZone .outOfRange))) ∧
        (u3.sc.opState = .run →
          (u3.slm.entries[x.toNat]? = some e → listEntry u3 e.station = some e →
            u3.slm.entries.findIdx? (fun y => y.station == e.station) = some n →
            exec (.getStation [0#8, x, 0#8, 0#8]) s = .next (u3.accepting .getStation (stationRecord u3 n e))) ∧
          (u3.slm.entries.length ≤ x.toNat →
            exec (.getStation [0#8, x, 0#8, 0#8]) s = .next (u3.refusing .getStation .outOfRange)) ∧
          (e.station.inGrid = true → listEntry u3 e.station = some e →
            u3.slm.entries.findIdx? (fun y => y.station == e.station) = some n →
            exec (.getStation (1#8 :: stationField e.station)) s =
              .next (u3.accepting .getStation (stationRecord u3 n e))) ∧
          (e.station.inGrid = true → listEntry u3 e.station = none →
            exec (.getStation (1#8 :: stationField e.station)) s = .next (u3.refusing .getStation .outOfRange)))) ∧
    (∀ (s u : State),
        u = atRequest .getPartState s →
        u.sc.opState ≠ .failsafe →
        exec (.getPartState []) s =
          .next (u.accepting .getPartState
            ([0x0c#8, 0x16#8, 1#8, 0#8, byte u.sc.opState.code, byte u.safety.locked.toNat, byte u.safety.windowOpen.toNat,
                byte (rolesWritten u.install), byte (installComplete u.install).toNat] ++
              u16 u.safety.config.watchdogMs ++ [byte u.cp.reports.length])))

/-- R44, R48, R51: PROMPT_START places a PROMPT entry below CHIME and CALL in each zone of its set, PROMPT_END removes
it, each with ZONE_STATE for a list that changes; the reply carries the zones that then hold one. -/
def Obligations.PromptsComeAndGo : Prop :=
  ∀ (s u w : State) (zb : Byte),
    u = atRequest .promptStart s →
    w = atRequest .promptEnd s →
    u.sc.opState = .run →
    (zb = 0#8 ∨ 8 ≤ zb.toNat →
        exec (.promptStart [zb]) s = .next (u.refusing .promptStart .outOfRange) ∧
          exec (.promptEnd [zb]) s = .next (w.refusing .promptEnd .outOfRange)) ∧
      (zb ≠ 0#8 → zb.toNat < 8 →
        (∃ t, exec (.promptStart [zb]) s = .next t ∧
          (∀ c : Cabin, listOf t (.cabin c) =
            if zb.getLsbD (zoneCode (.cabin c)) = true then insertIn promptEntry (listOf u (.cabin c))
            else listOf u (.cabin c)) ∧
          t.zr = { u.zr with zones := t.zr.zones } ∧
          (∀ c : Cabin, t.zr.zones.get c = { u.zr.zones.get c with list := listOf t (.cabin c) }) ∧
          t.cp.reply = some ⟨0x17#8, .ok, cabinSetField (promptZones t)⟩ ∧
          (∀ c : Cabin, listOf t (.cabin c) ≠ listOf u (.cabin c) → u.cp.reports.length + 3 ≤ 24 →
            (t.cp.reports.any (fun r => r.kind == .zoneState && r.subject == zoneCode (.cabin c))) = true) ∧
          keepsBut [.cp, .zr] u t) ∧
        (∃ t, exec (.promptEnd [zb]) s = .next t ∧
          (∀ c : Cabin, listOf t (.cabin c) =
            if zb.getLsbD (zoneCode (.cabin c)) = true then (listOf w (.cabin c)).filter (fun e => e.cls != .prompt)
            else listOf w (.cabin c)) ∧
          t.zr = { w.zr with zones := t.zr.zones } ∧
          (∀ c : Cabin, t.zr.zones.get c = { w.zr.zones.get c with list := listOf t (.cabin c) }) ∧
          t.cp.reply = some ⟨0x18#8, .ok, cabinSetField (promptZones t)⟩ ∧
          (∀ c : Cabin, listOf t (.cabin c) ≠ listOf w (.cabin c) → w.cp.reports.length + 3 ≤ 24 →
            (t.cp.reports.any (fun r => r.kind == .zoneState && r.subject == zoneCode (.cabin c))) = true) ∧
          keepsBut [.cp, .zr] w t))

/-- R44, R49: every step keeps every precedence list in strict order of class priority with BASE last, without CALL
and TRAFFIC together, and holding only classes its zone allows. -/
def Obligations.PrecedenceListsStayInOrder : Prop :=
  ∀ (s t : State),
    ListsOk s →
    Sys2Proof.Machine.step s = .next t →
    ListsOk t

/-- R30, R31, R32, R66, R92, R147, R149: the loss of the clock makes a watch that runs LOST with CLOCK_LOST, and its
return makes it PRESENT with CLOCK_RESTORED and restarts a running canceller. The input slots 1 to 6 carry MEDA, MEDB,
CALL and PROMPT; a channel that may send sends the sum of its paths' sources at their audible gains and of the
sounding voices' tones at their frequencies, waveforms and gains, voiced by its record and limited to full scale, and
no other channel sends. While the clock is LOST the serial output carries nothing; else what each digital channel
sends or silence in slots 1 to 6, the uplink in slot 7 while a call is ACTIVE, unmuted and with a microphone selected,
and silence in slot 8. A loss or a return that finds the watch otherwise changes nothing (the model's choice, log 1).
That the loss in CLOCK_RESTORED is counted from the passage to LOST and rounded down is the model's choice (log 23).
The room in the queue for CLOCK_RESTORED supposes the model's order of the reports (log 24). -/
def Obligations.SerialOutputFollowsTheClock : Prop :=
  (∀ (s : State),
      (s.sc.opState ≠ .boot → s.install.clockRole ≠ some .leader → s.zr.clockLost = false →
          exec .clockLoss s =
            .next (settle (post .clockLost 0 [byte s.sc.opState.code]
              { s with zr := { s.zr with clockLost := true, lostMs := 0 } }))) ∧
        (s.sc.opState = .boot ∨ s.install.clockRole = some .leader ∨ s.zr.clockLost = true →
          exec .clockLoss s = .next s) ∧
        (s.sc.opState ≠ .boot → s.install.clockRole ≠ some .leader → s.zr.clockLost = true →
          ∃ t, exec .clockReturn s = .next t ∧
            t.zr = { s.zr with clockLost := false, lostMs := 0 } ∧
            t.clp = (if s.clp.canceller = .bypass then s.clp
              else { s.clp with
                canceller := .converging, erle := some 0, restarts := min (s.clp.restarts + 1) 255
                convergence := none, divergence := none }) ∧
            (s.cp.reports.length < 24 →
              ⟨.clockRestored, 0, reportData (u16 (min (s.zr.lostMs / 100) 65535))⟩ ∈ t.cp.reports) ∧
            t.cp.reply = s.cp.reply ∧ t.cp.masked = s.cp.masked ∧ t.cp.watchdog = s.cp.watchdog ∧
            keepsBut [.cp, .zr, .clp] s t) ∧
        (s.sc.opState = .boot ∨ s.install.clockRole = some .leader ∨ s.zr.clockLost = false →
          exec .clockReturn s = .next s)) ∧
    (∀ (s : State) (k : Dout) (c : Chan) (x : Voice),
        (([0, 1, 2, 3, 4, 5, 6, 7] : List (Fin 8)).map inputSlot =
            [some (.meda, .left), some (.meda, .right), some (.medb, .left), some (.medb, .right), some (.call, .mono),
              some (.prompt, .mono), none, none]) ∧
          (∀ p ∈ s.ge.paths, p.chan = c → ∀ y : Source, p.src = some y → ∀ g : Int, p.audible = .num g →
            (⟨.source y (sideFor s.install y c), g⟩ : Contribution) ∈ channelMix s c) ∧
          (∀ p ∈ x.paths, p.chan = c → x.phase = .tone → s.chimes.v1 = some x ∨ s.chimes.v2 = some x →
            (⟨.tone (presentSegment s x).freq (presentSegment s x).waveform, p.gain⟩ : Contribution) ∈ channelMix s c) ∧
          (chanSends s c = false → channelOutput s c = none) ∧
          (chanSends s c = true →
            channelOutput s c =
              some (.limited (.voiced s.ge.voicing[chanIndex c].mix (.sum (channelMix s c))))) ∧
          (s.zr.clockLost = true → ∀ n : Fin 8, outputSlot s n = .nothing) ∧
          (s.zr.clockLost = false →
            (s.os.douts[k] ≠ .on → outputSlot s ⟨k.val, by omega⟩ = .silence) ∧
            (s.os.douts[k] = .on →
              channelMix s (.dout k) = pathContributions s (.dout k) ++
                  (voiceContributions s (.dout k) s.chimes.v1 ++ voiceContributions s (.dout k) s.chimes.v2) ∧
                outputSlot s ⟨k.val, by omega⟩ =
                  .signal (.limited (.voiced s.ge.voicing[chanIndex (.dout k)].mix (.sum (channelMix s (.dout k)))))) ∧
            (outputSlot s 6 =
              if s.clp.state = .active ∧ s.clp.uplinkMute = false ∧ s.clp.selection.basis ≠ .none then
                .uplink s.clp.selection.mics (if s.clp.attenuated = true then 48 else 0)
              else .silence) ∧
            outputSlot s 7 = .silence))

/-! ### Gains, ramps and voicing (chapter 4) -/

/-- R56 to R59, R62 to R64: a non-chime path's target is MUTE while a cause of R62 holds, and otherwise the sum of the
ten terms, MUTE when it is below -400 and at most +24; the volume curve rises strictly from step 1 to 40, the
reception term falls by 2 qdB below a quality of 30, a speed lift lies between 0 and 48, and balance and fader never
raise a path; a chime path's gain is limited to the range from the chime floor to the chime ceiling. -/
def Obligations.TargetIsTheLimitedSum : Prop :=
  (∀ (s : State) (z : Zone) (c : Machine.Class) (x : Source) (ch : Chan) (raw : Int) (h : Hp),
      raw = trimTerm s x + receptionTerm s x + curveNumber (volumeStep s z c) + speedLiftTerm s z
        - depthNumber (duckOf s (listOf s z) c) + balanceTerm s ch - depthNumber (rearQuietOn s z c)
        - (cutOf s z x : Int) + channelTrim s ch - foldback s ch →
      pathTarget s z c none ch = .mute ∧
        (s.sc.opState ∈ [OpState.boot, .config, .standby] ∨ volumeStep s z c = 0 ∨
            (muteOf s z = true ∧ (c = .base ∨ (c = .traffic ∧ z = .cabin .front) ∨ (c = .traffic ∧ z = .cabin .rear) ∨
              (c = .traffic ∧ z = .cabin .load))) ∨
            duckOf s (listOf s z) c = some .full ∨ muteGate s z x = true ∨ isPresent s x = false ∨
            rearQuietOn s z c = some .full ∨ (quietOf s z = true ∧ (c = .base ∨ c = .prompt ∨ c = .traffic)) ∨
            (z = .hp h ∧ (s.zr.hps.get h).jack = false) →
          pathTarget s z c (some x) ch = .mute) ∧
        (s.sc.opState ∈ [OpState.run, .failsafe] → volumeStep s z c ≠ 0 →
          (muteOf s z = true → c = .call ∨ (c = .prompt ∧ (z = .cabin .front ∨ z = .cabin .rear ∨ z = .cabin .load))) →
          duckOf s (listOf s z) c ≠ some .full → muteGate s z x = false → isPresent s x = true →
          rearQuietOn s z c ≠ some .full → (quietOf s z = true → c = .call) →
          (∀ h : Hp, z = .hp h → (s.zr.hps.get h).jack = true) →
          (raw < -400 → pathTarget s z c (some x) ch = .mute) ∧
          (-400 ≤ raw → raw ≤ 24 → pathTarget s z c (some x) ch = .num raw) ∧
          (24 < raw → pathTarget s z c (some x) ch = .num 24))) ∧
    (∀ (m n q lift : Nat) (v b f : Int) (z : Cabin) (p : Position),
        volumeCurve 0 = .mute ∧ volumeCurve 40 = .num 0 ∧
          (0 < m → m < n → n ≤ 40 → curveNumber m < curveNumber n ∧ volumeCurve n = .num (curveNumber n)) ∧
          (30 ≤ q → receptionOf q = 0) ∧ (q ≤ 30 → receptionOf q = -2 * (30 - (q : Int))) ∧
          (0 ≤ liftOf v lift ∧ liftOf v lift ≤ 48) ∧ (v ≤ 39 → liftOf v lift = 0) ∧
          (balancePart p b + faderPart z f ≤ 0 ∧
            (-20 ≤ b → b ≤ 20 → -20 ≤ f → f ≤ 20 → -240 ≤ balancePart p b + faderPart z f))) ∧
    (∀ (s : State) (level g : Int) (ch : Chan),
        g = level + liftOf (heldSpeed s) s.safety.config.chimeLift + channelTrim s ch - foldback s ch →
        s.safety.config.chimeFloor ≤ s.safety.config.chimeCeiling →
        s.safety.config.chimeFloor ≤ chimeGain s level ch ∧ chimeGain s level ch ≤ s.safety.config.chimeCeiling ∧
          chimeGain s level ch = min (max g s.safety.config.chimeFloor) s.safety.config.chimeCeiling)

/-- R35, R44, R54: settling, the last act of a command that may change a list, a channel or a gain: in the settled
state of any state, the paths that are not retiring are those the lists and the channels call for, each with the
audible gain its names had before and MUTE where they are new; nothing else changes but the chime paths' gains. That a
path which retires at MUTE is dropped at once is the model's reading (log 16). -/
def Obligations.PathsFollowTheLists : Prop :=
  ∀ (s t : State) (z : Zone) (e : Entry) (c : Chan),
    t = settle s →
    keepsBut [] s t ∧
      (e ∈ listOf s z → e.cls ≠ .chime → serves s.install z c = true →
        (t.ge.paths.any (fun p => p.zone == z && p.cls == e.cls && p.src == e.src && p.chan == c && !p.retiring)) =
          true) ∧
      (∀ p ∈ t.ge.paths, p.retiring = false →
        serves s.install p.zone p.chan = true ∧
          ((listOf s p.zone).any (fun e => e.cls == p.cls && e.src == p.src && e.cls != .chime)) = true ∧
          p.target = pathTarget s p.zone p.cls p.src p.chan ∧
          p.audible = ((s.ge.paths.find? (fun q => !q.retiring && q.sameNames p)).map Path.audible).getD .mute) ∧
      (∀ p ∈ t.ge.paths, p.retiring = true →
        p.target = .mute ∧ p.audible ≠ .mute ∧
          ((s.ge.paths.any (fun q => q.sameNames p && q.audible == p.audible)) = true))

/-- R55, R96: after every step every path's target and every chime path's gain is the one the present values give. -/
def Obligations.GainsAreAlwaysCurrent : Prop :=
  ∀ (s t : State),
    GainsCurrent s →
    Sys2Proof.Machine.step s = .next t →
    GainsCurrent t

/-- R54, R65, R163: RAMP_STEP moves the audible gain of every non-chime path towards its target by the table, drops
the retiring paths that reach MUTE, and in STANDBY turns OFF each running channel whose paths have all reached MUTE. -/
def Obligations.RampsMoveByTheTable : Prop :=
  ∀ (s : State) (a g : Int),
    (s.sc.opState ≠ .standby →
        exec .rampStep s =
          .next (settle { s with ge := { s.ge with
            paths := (s.ge.paths.map (fun p => { p with audible := rampStep p.target p.audible })).filter
              (fun p => !(p.retiring && p.audible == .mute)) } })) ∧
      (s.sc.opState = .standby → s.clp.canceller = .bypass →
        ∃ t, exec .rampStep s = .next t ∧
          (∀ k : Amp, t.os.amps[k].state =
            if s.os.amps[k].state.running = true ∧
                (∀ p ∈ s.ge.paths, p.chan = .amp k → rampStep p.target p.audible = .mute) then .off
            else s.os.amps[k].state) ∧
          (∀ k : Dout, t.os.douts[k] =
            if s.os.douts[k] = .on ∧ (∀ p ∈ s.ge.paths, p.chan = .dout k → rampStep p.target p.audible = .mute) then .off
            else s.os.douts[k]) ∧
          (∀ h : Hp, t.os.hps.get h =
            if s.os.hps.get h = .on ∧ (∀ p ∈ s.ge.paths, p.chan = .hp h → rampStep p.target p.audible = .mute) then .off
            else s.os.hps.get h) ∧
          t.ge = (settle { s with ge := { s.ge with
            paths := (s.ge.paths.map (fun p => { p with audible := rampStep p.target p.audible })).filter
              (fun p => !(p.retiring && p.audible == .mute)) } }).ge ∧
          keepsBut [.os] s t) ∧
      rampStep .mute .mute = .mute ∧
      (a - 6 ≤ -240 → rampStep .mute (.num a) = .mute) ∧ (-240 < a - 6 → rampStep .mute (.num a) = .num (a - 6)) ∧
      rampStep (.num g) .mute = .num (min g (-240)) ∧
      (a < g → rampStep (.num g) (.num a) = .num (min g (a + 2))) ∧
      (g < a → rampStep (.num g) (.num a) = .num (max g (a - 6))) ∧
      rampStep (.num g) (.num g) = .num g

/-- R68, R69, R70: SET_VOICING stores a channel's complete record, clamped, or is refused. At the next block boundary
it takes effect at once in its trim and fades in over ten blocks from what the channel sends. -/
def Obligations.VoicingIsWrittenAndFaded : Prop :=
  (∀ (s u : State) (c : Chan) (cb d tr : Byte) (bands : Bytes),
      u = atRequest .setVoicing s →
      u.sc.opState = .config ∨ u.sc.opState = .run →
      bands.length = 25 →
      (cb = 0#8 ∨ 19 ≤ cb.toNat →
          exec (.setVoicing ([cb, d, tr] ++ bands)) s = .next (u.refusing .setVoicing .outOfRange)) ∧
        (chanUnfitted u c = true →
          exec (.setVoicing ([byte (chanCode c), d, tr] ++ bands)) s = .next (u.refusing .setVoicing .notFitted)) ∧
        (chanUnfitted u c = false → readBands bands = none →
          exec (.setVoicing ([byte (chanCode c), d, tr] ++ bands)) s = .next (u.refusing .setVoicing .outOfRange)) ∧
        ((∃ j ∈ [0, 1, 2, 3, 4], 4 ≤ (bands.getD (5 * j) 0#8).toNat) ↔ readBands bands = none) ∧
        (∀ bs : Vector BandRecord 5, readBands bands = some bs → chanUnfitted u c = false →
          (∀ j : Fin 5,
            bs[j].type.code = (bands.getD (5 * j.val) 0#8).toNat ∧
            bs[j].freq = min (max (nat16 (bands.getD (5 * j.val + 1) 0#8) (bands.getD (5 * j.val + 2) 0#8)) 20) 20000 ∧
            bs[j].gain = min (max (bands.getD (5 * j.val + 3) 0#8).toInt (-48)) 48 ∧
            bs[j].q = min (max (bands.getD (5 * j.val + 4) 0#8).toNat 3) 80) ∧
          exec (.setVoicing ([byte (chanCode c), d, tr] ++ bands)) s =
            .next (({ u with ge := { u.ge with
                voicing := u.ge.voicing.set (chanIndex c) { u.ge.voicing[chanIndex c] with
                  record := { trim := min (max tr.toInt (-48)) 0
                              processing := { delay := min d.toNat 200, bands := bs } }
                  written := true } } } : State).accepting .setVoicing
              (voicingField c { trim := min (max tr.toInt (-48)) 0
                                processing := { delay := min d.toNat 200, bands := bs } })))) ∧
    (∀ (s : State),
        ∃ t, exec .voicingBlockBoundary s = .next t ∧
          (∀ c : Fin 18,
            (s.ge.voicing[c].written = true →
              t.ge.voicing[c] =
                { record := s.ge.voicing[c].record, written := false, trim := s.ge.voicing[c].record.trim
                  processing := s.ge.voicing[c].record.processing
                  fade := some { outgoing := s.ge.voicing[c].mix, block := 1 } }) ∧
            (s.ge.voicing[c].written = false →
              t.ge.voicing[c] = { s.ge.voicing[c] with
                fade := s.ge.voicing[c].fade.bind
                  (fun f => if f.block < 10 then some { f with block := f.block + 1 } else none) })) ∧
          keepsBut [.ge] s t)

/-! ### Vehicle state and conditions (chapter 5) -/

/-- R71, R73, R76, R78: VEHICLE_STATE stores the four values, the speed clamped to 300, or refuses a value outside its
set. A receipt evaluates every record on its quantity: a first result at once, a result equal to the state ending any
pending change, another result starting the hold time or taken at once without one. -/
def Obligations.VehicleStateIsEvaluated : Prop :=
  (∀ (s u : State) (v1 v0 rb tb ib : Byte),
      u = atRequest .vehicleState s →
      u.sc.opState = .config ∨ u.sc.opState = .run →
      (2 ≤ rb.toNat ∨ 2 ≤ tb.toNat ∨ 4 ≤ ib.toNat →
          exec (.vehicleState [v1, v0, rb, tb, ib]) s = .next (u.refusing .vehicleState .outOfRange)) ∧
        (rb.toNat < 2 → tb.toNat < 2 → ib.toNat < 4 →
          ∃ t, exec (.vehicleState [v1, v0, rb, tb, ib]) s = .next t ∧
            heldValue t .speed = some (min (nat16 v1 v0) 300 : Nat) ∧ heldValue t .reverse = some (rb.toNat : Int) ∧
            heldValue t .tailgate = some (tb.toNat : Int) ∧ heldValue t .ignition = some (ib.toNat : Int) ∧
            (∀ q : Quantity, q ∉ [Quantity.speed, .reverse, .tailgate, .ignition] → heldValue t q = heldValue u q) ∧
            (∀ i : Fin 16, t.cu.slots[i] = u.cu.slots[i].map (fun r =>
              match r.quantity with
              | .speed => r.evaluated (min (nat16 v1 v0) 300 : Nat)
              | .reverse => r.evaluated rb.toNat
              | .tailgate => r.evaluated tb.toNat
              | .ignition => r.evaluated ib.toNat
              | _ => r)) ∧
            t.cp.reply = some ⟨0x1a#8, .ok, u16 (min (nat16 v1 v0) 300) ++ [rb, tb, ib]⟩ ∧ keepsBut [.cp, .cu] u t)) ∧
    (∀ (s t : State) (q : Quantity) (v x : Int),
        t = receipt q v s →
        x = min (max v (quantityRange q).1) (quantityRange q).2 →
        heldValue t q = some x ∧ (∀ p : Quantity, p ≠ q → heldValue t p = heldValue s p) ∧
          (∀ i : Fin 16, ∀ r : Condition, s.cu.slots[i] = some r →
            (r.quantity ≠ q → t.cu.slots[i] = some r) ∧
            (r.quantity = q → r.state = none →
              t.cu.slots[i] = some { r with state := some (r.comparison.holds x r.threshold), change := none }) ∧
            (r.quantity = q → r.state = some (r.comparison.holds x r.threshold) →
              t.cu.slots[i] = some { r with change := none }) ∧
            (r.quantity = q → r.state = some (!r.comparison.holds x r.threshold) →
              t.cu.slots[i] = some
                (if r.change.isSome = true then r
                else if r.hold = 0 then { r with state := some (r.comparison.holds x r.threshold) }
                else { r with change := some { result := r.comparison.holds x r.threshold, remaining := r.hold } }))) ∧
          (∀ i : Fin 16, s.cu.slots[i] = none → t.cu.slots[i] = none) ∧ keepsBut [.cp, .cu] s t)

/-- R74, R75, R77, R78: SET_CONDITION empties a slot or writes its record, clamped, evaluated at once against the
quantity's held value; as a slot's hold timer runs out its pending result becomes its state. CONDITION_CHANGED follows
each change of a slot's state. A run-out without a pending change changes nothing (the model's choice, log 1). The
zeros that a reply carries for EMPTY are the model's reading (log 4). -/
def Obligations.ConditionsAreWrittenAndTimed : Prop :=
  (∀ (s u : State) (i : Fin 16) (q : Quantity) (cmp : Comparison) (t1 t0 h1 h0 zb sb eb db x : Byte) (e : Effect)
      (r : Condition),
      u = atRequest .setCondition s →
      u.sc.opState = .config ∨ u.sc.opState = .run →
      r = { quantity := q, comparison := cmp
            threshold := min (max (int16 t1 t0) (quantityRange q).1) (quantityRange q).2
            hold := min (nat16 h1 h0) 5000 / 100 * 100
            zones := ⟨zb.getLsbD 0, zb.getLsbD 1, zb.getLsbD 2, zb.getLsbD 3, zb.getLsbD 4⟩
            sources := ⟨sb.getLsbD 0, sb.getLsbD 1, sb.getLsbD 2, sb.getLsbD 3, sb.getLsbD 4, sb.getLsbD 5⟩
            effect := e, change := none
            state := (heldValue u q).map (fun v =>
              cmp.holds v (min (max (int16 t1 t0) (quantityRange q).1) (quantityRange q).2)) } →
      (eb = 0#8 ∧ e = .muteWhenTrue) ∨ (eb = 1#8 ∧ e = .muteWhenFalse) ∨
        (eb = 2#8 ∧ e = .cutWhenTrue (min (max db.toNat 1) 240)) →
      (zb.toNat < 32 → sb.toNat < 64 →
          ∃ t, exec (.setCondition [byte i.val, 1#8, byte q.code, byte cmp.code, t1, t0, h1, h0, zb, sb, eb, db]) s = .next t ∧
            t.cu = { u.cu with slots := u.cu.slots.set i (some r) } ∧
            t.cp.reply = some ⟨0x1b#8, .ok, conditionField i (some r)⟩ ∧
            (conditionStateCode (some r) ≠ conditionStateCode u.cu.slots[i] → u.cp.reports.length < 24 →
              (t.cp.reports.any (fun p => p.kind == .conditionChanged && p.subject == i.val)) = true) ∧
            (conditionStateCode (some r) = conditionStateCode u.cu.slots[i] → t.cp.reports = u.cp.reports) ∧
            keepsBut [.cp, .cu] u t) ∧
        (∃ t, exec (.setCondition [byte i.val, 0#8, x, x, t1, t0, h1, h0, zb, sb, x, db]) s = .next t ∧
          t.cu = { u.cu with slots := u.cu.slots.set i none } ∧
          t.cp.reply = some ⟨0x1b#8, .ok, byte i.val :: List.replicate 12 0#8⟩ ∧
          (u.cu.slots[i] ≠ none → u.cp.reports.length < 24 →
            (t.cp.reports.any (fun p => p.kind == .conditionChanged && p.subject == i.val)) = true) ∧
          (u.cu.slots[i] = none → t.cp.reports = u.cp.reports) ∧ keepsBut [.cp, .cu] u t) ∧
        (16 ≤ x.toNat →
          exec (.setCondition [x, 1#8, byte q.code, byte cmp.code, t1, t0, h1, h0, zb, sb, eb, db]) s =
            .next (u.refusing .setCondition .outOfRange)) ∧
        (2 ≤ x.toNat →
          exec (.setCondition [byte i.val, x, byte q.code, byte cmp.code, t1, t0, h1, h0, zb, sb, eb, db]) s =
            .next (u.refusing .setCondition .outOfRange)) ∧
        (11 ≤ x.toNat →
          exec (.setCondition [byte i.val, 1#8, x, byte cmp.code, t1, t0, h1, h0, zb, sb, eb, db]) s =
            .next (u.refusing .setCondition .outOfRange)) ∧
        (3 ≤ x.toNat →
          exec (.setCondition [byte i.val, 1#8, byte q.code, x, t1, t0, h1, h0, zb, sb, eb, db]) s =
              .next (u.refusing .setCondition .outOfRange) ∧
            exec (.setCondition [byte i.val, 1#8, byte q.code, byte cmp.code, t1, t0, h1, h0, zb, sb, x, db]) s =
              .next (u.refusing .setCondition .outOfRange)) ∧
        (32 ≤ zb.toNat ∨ 64 ≤ sb.toNat →
          exec (.setCondition [byte i.val, 1#8, byte q.code, byte cmp.code, t1, t0, h1, h0, zb, sb, eb, db]) s =
            .next (u.refusing .setCondition .outOfRange))) ∧
    (∀ (s : State) (i : Fin 16),
        (s.cu.slots[i] = none ∨ (s.cu.slots[i].bind Condition.change) = none →
            exec (.holdTimerRunout i) s = .next (settle s)) ∧
          (∀ r : Condition, s.cu.slots[i] = some r → ∀ p : PendingChange, r.change = some p →
            ∃ t, exec (.holdTimerRunout i) s = .next t ∧
              t.cu = { s.cu with slots := s.cu.slots.set i (some { r with state := some p.result, change := none }) } ∧
              (r.state ≠ some p.result → s.cp.reports.length < 24 →
                (t.cp.reports.any (fun x => x.kind == .conditionChanged && x.subject == i.val)) = true) ∧
              t.cp.reply = s.cp.reply ∧ t.cp.masked = s.cp.masked ∧ t.cp.watchdog = s.cp.watchdog ∧ keepsBut [.cp, .cu] s t))

/-! ### Signal sounds (chapter 6) -/

/-- R82, R83: in the open window PATTERN_LOAD places the cursor; PATTERN_SEGMENT writes its segments, clamped, at the
cursor in order up to slot 511, moves the cursor past them, and leaves every other slot as it was. The two bytes that
carry the cursor END are free (log 3). -/
def Obligations.SegmentsAreLoadedAtTheCursor : Prop :=
  ∀ (s u w : State) (hi lo f1 f0 l1 l0 d1 d0 g1 g0 : Byte) (body : Bytes) (m : Nat),
    u = atRequest .patternLoad s →
    w = atRequest .patternSegment s →
    u.sc.opState = .config ∨ u.sc.opState = .run →
    u.safety.locked = false →
    u.safety.windowOpen = true →
    (nat16 hi lo < 512 →
        exec (.patternLoad [hi, lo]) s =
          .next (({ u with patterns := { u.patterns with load := some (.slot (nat16 hi lo)) } } : State).accepting
            .patternLoad (u16 (nat16 hi lo)))) ∧
      (512 ≤ nat16 hi lo → exec (.patternLoad [hi, lo]) s = .next (u.refusing .patternLoad .outOfRange)) ∧
      (∀ wf ∈ [Waveform.sine, .softSquare, .click], ∀ pos ∈ [SegmentPosition.left, .right, .both],
        readSegment [f1, f0, byte wf.code, l1, l0, d1, d0, byte pos.code, g1, g0] =
          some ⟨min (max (nat16 f1 f0) 100) 8000, wf, min (max (int16 l1 l0) (-160)) 0,
            min (max (nat16 d1 d0) 1) 2000, pos, min (nat16 g1 g0) 2000⟩) ∧
      (body.length ∈ [10, 20, 30, 40, 50] → w.patterns.load = none →
        exec (.patternSegment body) s = .next (w.refusing .patternSegment .wrongState)) ∧
      (body.length ∈ [10, 20, 30, 40, 50] → w.patterns.load ≠ none → readSegments (body.length / 10) body = none →
        exec (.patternSegment body) s = .next (w.refusing .patternSegment .outOfRange)) ∧
      (body.length ∈ [10, 20, 30, 40, 50] → w.patterns.load = some .atEnd →
        (readSegments (body.length / 10) body).isSome = true →
        exec (.patternSegment body) s =
          .next (settle (w.replying .patternSegment .cursorEnd [0#8, Config.cursorEnd.1, Config.cursorEnd.2]))) ∧
      (∀ n : Nat, w.patterns.load = some (.slot n) → n < 512 → body.length ∈ [10, 20, 30, 40, 50] →
        ∀ gs : List Segment, readSegments (body.length / 10) body = some gs →
        ∃ t, exec (.patternSegment body) s = .next t ∧
          (∀ j ∈ List.range (min gs.length (512 - n)),
            (t.patterns.memory.find? (fun x => x.1 == n + j)).map Prod.snd = gs[j]?) ∧
          (m < n ∨ n + gs.length ≤ m →
            t.patterns.memory.find? (fun x => x.1 == m) = w.patterns.memory.find? (fun x => x.1 == m)) ∧
          t.patterns.table = w.patterns.table ∧
          t.patterns.load = some (if n + gs.length < 512 then .slot (n + gs.length) else .atEnd) ∧
          t.cp.reply = some ⟨0x1d#8, if n + gs.length ≤ 512 then .ok else .cursorEnd,
            byte (min gs.length (512 - n)) ::
              (if n + gs.length < 512 then u16 (n + gs.length) else [Config.cursorEnd.1, Config.cursorEnd.2])⟩ ∧
          keepsBut [.cp, .patterns] w t)

/-- R85: DEFINE_PATTERN in the open window returns an entry to UNDEFINED or defines it over loaded slots; the refusals
in order, BAD_PATTERN with what did not fit or the lowest EMPTY slot. The zeros that a reply carries for UNDEFINED are
the model's reading (log 4). -/
def Obligations.PatternIsDefined : Prop :=
  ∀ (s u : State) (id : PatternId) (x f1 f0 cb rb g1 g0 pb : Byte) (first count : Nat) (reps : Repeats),
    u = atRequest .definePattern s →
    u.sc.opState = .config ∨ u.sc.opState = .run →
    u.safety.locked = false →
    u.safety.windowOpen = true →
    first = nat16 f1 f0 →
    count = cb.toNat % 32 + 1 →
    reps = (if rb = 255#8 then .continuous else .count (rb.toNat + 1)) →
    exec (.definePattern [byte id.val, 0#8, f1, f0, cb, rb, g1, g0, pb]) s =
        .next (({ u with patterns := { u.patterns with table := u.patterns.table.set id none } } : State).accepting
          .definePattern (byte id.val :: List.replicate 8 0#8)) ∧
      (32 ≤ x.toNat →
        exec (.definePattern [x, 1#8, f1, f0, cb, rb, g1, g0, pb]) s = .next (u.refusing .definePattern .outOfRange)) ∧
      (2 ≤ x.toNat →
        exec (.definePattern [byte id.val, x, f1, f0, cb, rb, g1, g0, pb]) s =
          .next (u.refusing .definePattern .outOfRange)) ∧
      ((16 ≤ rb.toNat ∧ rb ≠ 255#8) ∨ 512 ≤ first →
        exec (.definePattern [byte id.val, 1#8, f1, f0, cb, rb, g1, g0, pb]) s =
          .next (u.refusing .definePattern .outOfRange)) ∧
      (rb.toNat < 16 ∨ rb = 255#8 → first < 512 →
        (512 < first + count →
          exec (.definePattern [byte id.val, 1#8, f1, f0, cb, rb, g1, g0, pb]) s =
            .next (settle (u.replying .definePattern .badPattern (u16 first ++ [byte (count - 1)])))) ∧
        (first + count ≤ 512 → ∀ n ∈ List.range 512, first ≤ n → n < first + count → slotLoaded u n = false →
          (∀ j ∈ List.range n, first ≤ j → slotLoaded u j = true) →
          exec (.definePattern [byte id.val, 1#8, f1, f0, cb, rb, g1, g0, pb]) s =
            .next (settle (u.replying .definePattern .badPattern (u16 n)))) ∧
        (first + count ≤ 512 → (∀ n ∈ List.range 512, first ≤ n → n < first + count → slotLoaded u n = true) →
          exec (.definePattern [byte id.val, 1#8, f1, f0, cb, rb, g1, g0, pb]) s =
            .next (({ u with patterns := { u.patterns with
                table := u.patterns.table.set id (some ⟨first, count, reps, min (nat16 g1 g0) 5000, min pb.toNat 7⟩) } } :
                State).accepting .definePattern
              ([byte id.val, 1#8] ++ u16 first ++ [byte (count - 1), rb] ++ u16 (min (nat16 g1 g0) 5000) ++
                [byte (min pb.toNat 7)]))))

/-- R87, R88, R89, R90, R91, R93, R94, R95: CHIME_REQUEST's refusals in order, and its three ways: a merge into the
pattern's entry, a new entry, and a new entry in the place of the last QUEUED entry of lower priority, with
CHIME_DROPPED. A new entry is taken by an IDLE voice, V1 before V2, at its first segment, on the channels of R94 and
R95 and with CHIME entries in its zones; it preempts the lower-ranked of two PLAYING entries where its priority is
strictly higher; and else it waits. CHIME_CANCEL removes its pattern's entry with CHIME_ENDED and stops its voice,
which takes the first QUEUED entry; without an entry it only replies so. That the dropped pattern is a reply's fourth
byte, and the layout of CHIME_REROUTED, are the model's readings (log 4), as are the fallback channels that
CHIME_REROUTED counts (log 10) and the numbers of the marks (log 15). The room in the queue for CHIME_DROPPED,
CHIME_REROUTED and CHIME_ENDED supposes the model's order of the reports (log 22). -/
def Obligations.ChimesAreQueuedAndCancelled : Prop :=
  (∀ (s u : State) (id : PatternId) (x zb : Byte) (z : CabinSet),
      u = atRequest .chimeRequest s →
      u.sc.opState = .run →
      ChimesOk u →
      z = ⟨zb.getLsbD 0, zb.getLsbD 1, zb.getLsbD 2⟩ →
      (32 ≤ x.toNat → exec (.chimeRequest [x, zb]) s = .next (u.refusing .chimeRequest .outOfRange)) ∧
        (zb = 0#8 ∨ 8 ≤ zb.toNat →
          exec (.chimeRequest [byte id.val, zb]) s = .next (u.refusing .chimeRequest .outOfRange)) ∧
        (0 < zb.toNat → zb.toNat < 8 →
          (u.patterns.table[id] = none →
            exec (.chimeRequest [byte id.val, zb]) s = .next (u.refusing .chimeRequest .badPattern)) ∧
          (u.patterns.table[id] ≠ none → (∀ c : Cabin, z.get c = true → isServed u.install c = false) →
            exec (.chimeRequest [byte id.val, zb]) s = .next (u.refusing .chimeRequest .notFitted)) ∧
          (∀ pat : Pattern, u.patterns.table[id] = some pat →
            (z.toList.any (isServed u.install)) = true →
            (∀ e : ChimeEntry, entryFor u id = some e →
              ∃ t, exec (.chimeRequest [byte id.val, zb]) s = .next t ∧
                t.chimes.queue.length = u.chimes.queue.length ∧
                (entryFor t id).map (fun y => (y.zones, y.remaining, y.cutShort, y.arrival)) =
                  some (e.zones.union z, pat.repeats, false, e.arrival) ∧
                t.cp.reply = some ⟨0x1f#8, .ok, [byte id.val, 1#8] ++ cabinSetField (e.zones.union z)⟩ ∧
                keepsBut [.cp, .zr, .chimes] u t) ∧
            (entryFor u id = none → u.chimes.queue.length < 8 →
              ∃ t, exec (.chimeRequest [byte id.val, zb]) s = .next t ∧
                t.chimes.queue.length = u.chimes.queue.length + 1 ∧
                (entryFor t id).map (fun y => (y.zones, y.remaining, y.cutShort, y.arrival)) =
                  some (z, pat.repeats, false, u.chimes.nextArrival) ∧
                t.cp.reply = some ⟨0x1f#8, .ok, [byte id.val, 0#8, zb]⟩ ∧ keepsBut [.cp, .zr, .chimes] u t) ∧
            (entryFor u id = none → 8 ≤ u.chimes.queue.length →
              ((lastQueued u).all (fun e => decide (priorityOf u e.pattern ≤ pat.priority))) = true →
              exec (.chimeRequest [byte id.val, zb]) s = .next (u.refusing .chimeRequest .queueFull)) ∧
            (∀ e : ChimeEntry, lastQueued u = some e → entryFor u id = none → 8 ≤ u.chimes.queue.length →
              pat.priority < priorityOf u e.pattern →
              ∃ t, exec (.chimeRequest [byte id.val, zb]) s = .next t ∧
                t.chimes.queue.length = u.chimes.queue.length ∧ entryFor t e.pattern = none ∧
                (entryFor t id).map (fun y => (y.zones, y.remaining)) = some (z, pat.repeats) ∧
                t.cp.reply = some ⟨0x1f#8, .ok, [byte id.val, 0#8, zb, byte e.pattern.val]⟩ ∧
                (u.cp.reports.length < 24 →
                  (t.cp.reports.any (fun r => r.kind == .chimeDropped && r.subject == e.pattern.val)) = true) ∧
                keepsBut [.cp, .zr, .chimes] u t)))) ∧
    (∀ (s u : State) (id : PatternId) (zb : Byte) (z : CabinSet) (pat : Pattern) (n : ChimeEntry),
        u = atRequest .chimeRequest s →
        u.sc.opState = .run →
        ChimesOk u →
        z = ⟨zb.getLsbD 0, zb.getLsbD 1, zb.getLsbD 2⟩ →
        0 < zb.toNat →
        zb.toNat < 8 →
        u.patterns.table[id] = some pat →
        (z.toList.any (isServed u.install)) = true →
        entryFor u id = none →
        n = ⟨id, z, pat.repeats, none, u.chimes.nextArrival, false, false, 1, false⟩ →
        (u.chimes.queue.length < 8 → firstQueued u = none →
            (u.chimes.v1 = none →
              ∃ t, exec (.chimeRequest [byte id.val, zb]) s = .next t ∧ EntryTaken u t .v1 n 24 ∧
                t.chimes.v2.map Voice.ungained = u.chimes.v2.map Voice.ungained) ∧
            (u.chimes.v1 ≠ none → u.chimes.v2 = none →
              ∃ t, exec (.chimeRequest [byte id.val, zb]) s = .next t ∧ EntryTaken u t .v2 n 24 ∧
                t.chimes.v1.map Voice.ungained = u.chimes.v1.map Voice.ungained)) ∧
          (∀ v o : VoiceId, v ≠ o → ∀ x : Voice, voiceOf u v = some x → ∀ y : Voice, voiceOf u o = some y →
            RanksLower u x y →
            (pat.priority < priorityOf u x.pattern →
              ((firstQueued u).all (fun e => decide (pat.priority < priorityOf u e.pattern))) = true →
              u.chimes.queue.length < 8 ∨ (firstQueued u ≠ none ∧ ChimeOrderOk u) →
              ∃ t, exec (.chimeRequest [byte id.val, zb]) s = .next t ∧ EntryPreempts u t v o x n 23) ∧
            (priorityOf u x.pattern ≤ pat.priority →
              ((firstQueued u).all (fun e => decide (priorityOf u x.pattern ≤ priorityOf u e.pattern))) = true →
              u.chimes.queue.length < 8 →
              ∃ t, exec (.chimeRequest [byte id.val, zb]) s = .next t ∧ entryFor t id = some n ∧ t.zr = u.zr ∧
                t.chimes.v1.map Voice.ungained = u.chimes.v1.map Voice.ungained ∧
                t.chimes.v2.map Voice.ungained = u.chimes.v2.map Voice.ungained))) ∧
    (∀ (s u : State) (id : PatternId) (x : Byte),
        u = atRequest .chimeCancel s →
        u.sc.opState = .run →
        ChimesOk u →
        (32 ≤ x.toNat → exec (.chimeCancel [x]) s = .next (u.refusing .chimeCancel .outOfRange)) ∧
          (entryFor u id = none →
            exec (.chimeCancel [byte id.val]) s = .next (u.accepting .chimeCancel [byte id.val, 0#8])) ∧
          (∀ e : ChimeEntry, entryFor u id = some e →
            ∃ t, exec (.chimeCancel [byte id.val]) s = .next t ∧
              t.chimes.queue.map ChimeEntry.pattern = (u.chimes.queue.map ChimeEntry.pattern).filter (fun p => p != id) ∧
              (∀ v : VoiceId, (voiceOf t v).map Voice.pattern ≠ some id) ∧
              (∀ v : VoiceId, e.voice = some v → NextTaken u t v) ∧
              t.cp.reply = some ⟨0x20#8, .ok, [byte id.val, 1#8]⟩ ∧
              (u.cp.reports.length < 24 →
                (t.cp.reports.any (fun r => r.kind == .chimeEnded && r.subject == id.val &&
                  r.data == reportData ([1#8] ++ (cabinSetField e.zones ++ bit e.played)))) = true) ∧
              keepsBut [.cp, .zr, .chimes] u t))

/-- R90, R92, R93, R94, R95: the end of a voice's phase. After the tone comes the segment's gap, after the gap the
next segment's tone, after the last segment the repeat gap with one repeat fewer, and after the last repeat
CHIME_ENDED, when the voice takes the first QUEUED entry or becomes IDLE; a gap of 0 takes no time. Each tone's paths
lead to the live candidates of the entry's zones and to the live fallback channels for a zone that has none, of which
CHIME_REROUTED tells once. A command whose timer, settle or subject is not there changes nothing (the model's choice,
log 1). The layout of CHIME_REROUTED, the fallback channels that it counts and the numbers of the marks are the
model's readings (logs 4, 10 and 15). The room in the queue for CHIME_REROUTED and CHIME_ENDED supposes the model's
order of the reports (log 22). -/
def Obligations.VoicePlaysItsPattern : Prop :=
  ∀ (s : State) (v : VoiceId),
    ChimesOk s →
    (voiceOf s v = none → exec (.voicePhaseEnd v) s = .next (settle s)) ∧
      (∀ x : Voice, voiceOf s v = some x → ∀ e : ChimeEntry, entryOn s v = some e →
        ∃ t, exec (.voicePhaseEnd v) s = .next t ∧
          (x.phase = .tone → (presentSegment s x).gapAfter ≠ 0 →
            (voiceOf t v).map (fun y => (y.pattern, y.rep, y.seg, y.phase, y.remaining)) =
              some (x.pattern, x.rep, x.seg, .gap, (presentSegment s x).gapAfter) ∧
            t.chimes.queue = s.chimes.queue) ∧
          (x.phase = .gap ∨ (x.phase = .tone ∧ (presentSegment s x).gapAfter = 0) →
            (x.seg < (patternAt s x.pattern).count →
              ToneBegun s t v e x.rep (x.seg + 1) (presentSegment s { x with seg := x.seg + 1 }) ∧
              Rerouted s t e (presentSegment s { x with seg := x.seg + 1 }).position 24) ∧
            ((patternAt s x.pattern).count ≤ x.seg → e.remaining ≠ .count 0 → e.remaining ≠ .count 1 →
              (entryFor t x.pattern).map ChimeEntry.remaining =
                some (match e.remaining with
                  | .continuous => .continuous
                  | .count n => .count (n - 1)) ∧
              ((patternAt s x.pattern).repeatGap ≠ 0 →
                (voiceOf t v).map (fun y => (y.rep, y.phase, y.remaining)) =
                  some (x.rep, .repeatGap, (patternAt s x.pattern).repeatGap)) ∧
              ((patternAt s x.pattern).repeatGap = 0 →
                ToneBegun s t v e (x.rep + 1) 1 (presentSegment s { x with seg := 1 }) ∧
                Rerouted s t e (presentSegment s { x with seg := 1 }).position 24)) ∧
            ((patternAt s x.pattern).count ≤ x.seg → e.remaining = .count 1 →
              t.chimes.queue.map ChimeEntry.pattern =
                (s.chimes.queue.map ChimeEntry.pattern).filter (fun p => p != x.pattern) ∧
              NextTaken s t v ∧
              (s.cp.reports.length < 24 →
                (t.cp.reports.any (fun r => r.kind == .chimeEnded && r.subject == x.pattern.val &&
                  r.data == reportData ([if e.cutShort = true then 2#8 else 0#8] ++
                    (cabinSetField e.zones ++ bit e.played)))) = true))) ∧
          (x.phase = .repeatGap →
            ToneBegun s t v e (x.rep + 1) 1 (presentSegment s { x with seg := 1 }) ∧
            Rerouted s t e (presentSegment s { x with seg := 1 }).position 24 ∧
            (entryFor t x.pattern).map ChimeEntry.reached = some (x.rep + 1)) ∧
          t.cp.reply = s.cp.reply ∧ t.cp.watchdog = s.cp.watchdog ∧ keepsBut [.cp, .zr, .chimes] s t)

/-- R86, R90: every step keeps the chime queue at eight entries or fewer, no two of one pattern, each PLAYING entry on
the voice that plays its pattern and each playing voice with its entry, in the order of priority and then arrival. -/
def Obligations.ChimeQueueStaysInOrder : Prop :=
  ∀ (s t : State),
    ChimesOk s →
    Sys2Proof.Machine.step s = .next t →
    ChimesOk t ∧ (StatesOk s → ChimeOrderOk s → ChimeOrderOk t)

/-- R47, R93, R49, R142: every step keeps a CHIME entry exactly in the cabin zones in which a voice plays, and a CALL
entry exactly in the zones of the route of a call in progress. -/
def Obligations.EntriesFollowVoicesAndCalls : Prop :=
  ∀ (s t : State),
    EntriesFollow s →
    ChimesOk s →
    ListsOk s →
    Sys2Proof.Machine.step s = .next t →
    EntriesFollow t

/-! ### Receivers and the station list (chapters 7 and 8) -/

/-- R104, R105, R107, R127, R130: TUNE and STEP put RX-A on the station named, settling, end a seek with SEEK_ABORTED,
give up an attempt of alternate following and end an announcement; a STEP is limited to its range and to the band.
SET_RECEPTION sets the seek threshold. SEEK_ABORTED is stated for states in which a check holds RX-B only while it is
CHECKING, as ReceptionAndCallsStayInOrder keeps it. The room in the queue for SEEK_ABORTED supposes the model's order
of the reports (log 24). -/
def Obligations.ReceiverIsTuned : Prop :=
  ∀ (s u1 u2 u3 : State) (st st2 : Station) (x y z : Byte) (n : Int),
    u1 = atRequest .tune s →
    u2 = atRequest .step s →
    u3 = atRequest .setReception s →
    u1.sc.opState = .run →
    n = min (max x.toInt (-64)) 63 →
    st2 = ⟨u2.rx.a.station.band,
      (min (max ((u2.rx.a.station.index : Int) + n) 0) (topIndex u2.rx.a.station.band)).toNat⟩ →
    (st.inGrid = true →
        ∃ t, exec (.tune (stationField st)) s = .next t ∧
          t.rx.a = { state := .tuning, station := st, settle := some (settleMs st.band), qs := none, mute := .off
                     record := DataRecord.empty } ∧
          t.rx.lastTuned = u1.rx.lastTuned ∧ t.rx.purpose = .retune ∧ t.rx.seek = none ∧
          t.rx.threshold = u1.rx.threshold ∧ t.af = { Following.reset with follow := u1.af.follow } ∧
          CheckReleased u1 t ∧ AnnouncementOver u1 t ∧
          (u1.rx.a.state = .seeking → u1.cp.reports.length < 23 →
            (u1.slm.holder = .check → u1.rx.b.state = .checking) →
            Told t .seekAborted 0 (stationField u1.rx.a.station ++ [0x21#8])) ∧
          t.cp.reply = some ⟨0x21#8, .ok, stationField st⟩ ∧ keepsBut [.cp, .zr, .rx, .slm, .af, .tw] u1 t) ∧
      (2 ≤ x.toNat → exec (.tune [x, y, z]) s = .next (u1.refusing .tune .outOfRange)) ∧
      (topIndex st.band < nat16 y z →
        exec (.tune [byte (bandCode st.band), y, z]) s = .next (u1.refusing .tune .outOfRange)) ∧
      (∃ t, exec (.step [x]) s = .next t ∧
        t.rx.a = { state := .tuning, station := st2, settle := some (settleMs st2.band), qs := none, mute := .off
                   record := DataRecord.empty } ∧
        t.rx.lastTuned = u2.rx.lastTuned ∧ t.rx.purpose = .retune ∧ t.rx.seek = none ∧
        t.rx.threshold = u2.rx.threshold ∧ t.af = { Following.reset with follow := u2.af.follow } ∧
        CheckReleased u2 t ∧ AnnouncementOver u2 t ∧
        (u2.rx.a.state = .seeking → u2.cp.reports.length < 23 →
          (u2.slm.holder = .check → u2.rx.b.state = .checking) →
          Told t .seekAborted 0 (stationField u2.rx.a.station ++ [0x22#8])) ∧
        t.cp.reply = some ⟨0x22#8, .ok, BitVec.ofInt 8 n :: u16 st2.index⟩ ∧
        keepsBut [.cp, .zr, .rx, .slm, .af, .tw] u2 t) ∧
      exec (.setReception [x]) s =
        .next (({ u3 with rx := { u3.rx with threshold := min x.toNat 100 } } : State).accepting .setReception
          [byte (min x.toNat 100)])

/-- R101, R102, R103, R109, R115, R116, R117, R124: the quality of a measurement; a settle's end locks the receiver
with it, and a measurement of a LOCKED receiver smooths it. The value is handed on to its quantity and to the
station's list entry, which is inserted where there is none, in a full list in the place of the weakest unpinned
entry; and it starts the low timer of alternate following below 30. A command whose timer, settle or subject is not
there changes nothing (the model's choice, log 1). -/
def Obligations.QualityIsMeasured : Prop :=
  ∀ (s : State) (x : Rx) (m : Measurement) (q qs : Nat),
    q = quality (receiver s x).station.band m →
    qs = (3 * (receiver s x).qs.getD 0 + q) / 4 →
    ((quality .fm m : Int) =
        max 0 (min (max (2 * ((m.level : Int) - 10)) 0) 100 - (m.multipath / 2 : Nat) - (m.adjacent / 4 : Nat)) ∧
      (quality .am m : Int) = max 0 (min (max (2 * ((m.level : Int) - 20)) 0) 100 - (m.adjacent / 4 : Nat)) ∧ q ≤ 100) ∧
      ((receiver s x).state = .tuning → (receiver s x).settle.isSome = true → x = .b ∨ s.rx.purpose = .retune →
        ∃ t, exec (.tuneSettleEnd x m) s = .next t ∧
          receiver t x = { receiver s x with
            state := .locked, settle := none, qs := some q, mute := if x = .a then .off else (receiver s x).mute } ∧
          heldValue t (rxQuantity x) = some (q : Int) ∧
          (x = .a → t.rx.lastTuned = s.rx.a.station ∧
            (s.af.state ≠ .verify → Sighted s t s.rx.a.station q) ∧
            (s.cp.reports.length < 7 → Told t .tuneDone 0 (stationField s.rx.a.station ++ [byte q]))) ∧
          (x = .b → rearStation s = some s.rx.b.station → Sighted s t s.rx.b.station q) ∧
          keepsBut [.cp, .cu, .rx, .slm, .af] s t) ∧
      ((receiver s x).state ≠ .tuning ∨ (receiver s x).settle = none →
        exec (.tuneSettleEnd x m) s = .next (settle s)) ∧
      ((receiver s x).state = .locked →
        ∃ t, exec (.qualityMeasurement x m) s = .next t ∧
          receiver t x = { receiver s x with qs := some qs } ∧
          heldValue t (rxQuantity x) = some (min qs 100 : Nat) ∧
          (x = .a → s.rx.a.station = s.rx.lastTuned → s.af.state ≠ .verify → Sighted s t s.rx.lastTuned qs) ∧
          (x = .a → s.rx.a.station ≠ s.rx.lastTuned ∨ s.af.state = .verify → t.slm.entries = s.slm.entries) ∧
          (x = .b → rearStation s = some s.rx.b.station → Sighted s t s.rx.b.station qs) ∧
          (x = .b → rearStation s ≠ some s.rx.b.station → t.slm.entries = s.slm.entries) ∧
          (x = .a → s.af.state = .idle →
            t.af = if s.af.follow = true ∧ isPlaying s = true ∧ s.rx.a.station.band = .fm ∧ s.rx.a.mute = .off ∧
                s.rx.a.record.code ≠ none ∧ s.rx.a.record.alternates ≠ [] ∧ qs < 30 then
              { s.af with state := .low, timer := some 2000 }
            else s.af) ∧
          (x = .a → s.af.state = .low → 30 ≤ qs → t.af = { s.af with state := .idle, timer := none }) ∧
          keepsBut [.cp, .cu, .rx, .slm, .af] s t) ∧
      ((receiver s x).state ≠ .locked → exec (.qualityMeasurement x m) s = .next (settle s))

/-- R106: SEEK starts from RX-A's index and moves one index at a time, wrapping at the ends of the band; it ends with
SEEK_DONE at the first index whose quality reaches the threshold, with SEEK_FAILED back at its start, and moves on
elsewhere. A command whose timer, settle or subject is not there changes nothing (the model's choice, log 1). -/
def Obligations.SeekStepsToAStation : Prop :=
  ∀ (s u : State) (x : Byte) (m : Measurement) (q : Nat) (up down : Station → Station),
    u = atRequest .seek s →
    q = quality s.rx.a.station.band m →
    up = (fun st => { st with index := if topIndex st.band ≤ st.index then 0 else st.index + 1 }) →
    down = (fun st => { st with index := if st.index = 0 then topIndex st.band else st.index - 1 }) →
    (u.sc.opState = .run → 2 ≤ x.toNat → exec (.seek [x]) s = .next (u.refusing .seek .outOfRange)) ∧
      (u.sc.opState = .run → x.toNat < 2 →
        ∃ t, exec (.seek [x]) s = .next t ∧
          t.rx.a = { u.rx.a with
            state := .seeking, mute := .seek, record := DataRecord.empty, settle := some (settleMs u.rx.a.station.band)
            station := if x = 0#8 then up u.rx.a.station else down u.rx.a.station } ∧
          t.rx.seek = some ⟨u.rx.a.station.index, x == 0#8⟩ ∧ t.rx.lastTuned = u.rx.lastTuned ∧
          t.rx.threshold = u.rx.threshold ∧ t.af = { Following.reset with follow := u.af.follow } ∧
          CheckReleased u t ∧ AnnouncementOver u t ∧
          t.cp.reply = some ⟨0x23#8, .ok, []⟩ ∧ keepsBut [.cp, .zr, .rx, .slm, .af, .tw] u t) ∧
      (s.rx.seek = none ∨ s.rx.a.state ≠ .seeking ∨ s.rx.a.settle = none →
        exec (.seekStepEnd m) s = .next (settle s)) ∧
      (∀ k : Seek, s.rx.seek = some k → s.rx.a.state = .seeking → s.rx.a.settle ≠ none →
        (s.rx.a.station.index ≠ k.start → q < s.rx.threshold →
          exec (.seekStepEnd m) s =
            .next (settle { s with rx := { s.rx with a := { s.rx.a with
                station := if k.up = true then up s.rx.a.station else down s.rx.a.station
                settle := some (settleMs s.rx.a.station.band), record := DataRecord.empty } } })) ∧
        (s.rx.a.station.index = k.start ∨ s.rx.threshold ≤ q →
          ∃ t, exec (.seekStepEnd m) s = .next t ∧
            t.rx.a = { s.rx.a with state := .locked, settle := none, qs := some q, mute := .off } ∧
            t.rx.seek = none ∧ t.rx.lastTuned = s.rx.a.station ∧ heldValue t .qualA = some (q : Int) ∧
            (s.cp.reports.length < 7 →
              if s.rx.a.station.index = k.start then
                Told t .seekFailed 0 (stationField s.rx.a.station ++ [byte q])
              else Told t .seekDone 0 (stationField s.rx.a.station ++ [byte q])) ∧
            keepsBut [.cp, .cu, .rx, .slm, .af] s t))

/-- R111, R112, R113, R116, R124, R129, R130: a data group proposes its station code, is applied where the code is
held or was proposed by the group before, and replaces the record where another code is held; the code that RX-A's
current station confirms is its entry's, and a name segment held already teaches the entry nothing; RX-A's traffic-on
flag begins an announcement under the watch as it rises and ends one as it falls, a clear of RX-A's record ends an
announcement and leaves LOW; the traffic timer's run-out takes the traffic-on flag to 0. A command whose timer, settle
or subject is not there changes nothing (the model's choice, log 1). Which fields of a record are applied to an entry
at which change is the model's reading, and that those of a verification are applied to none its choice (log 9). -/
def Obligations.DataGroupsFillTheRecord : Prop :=
  ∀ (s : State) (x : Rx) (code : Nat) (p : Payload) (pos : Fin 4) (c1 c2 : Byte) (i j : Nat) (carrier on : Bool)
    (r : Receiver) (r2 : DataRecord),
    r = receiver s x →
    r2 = { r.record with code := some code, candidate := none, timer := some 0 } →
    (¬(r.station.band = .fm ∧ r.settle = none ∧
          (r.state = .locked ∨ (x = .b ∧ (r.state = .scanning ∨ r.state = .checking)))) →
        exec (.dataGroup x code p) s = .next (settle s)) ∧
      (r.station.band = .fm → r.settle = none →
        r.state = .locked ∨ (x = .b ∧ (r.state = .scanning ∨ r.state = .checking)) →
        (r.record.code = none → r.record.candidate ≠ some code →
          ∃ t, exec (.dataGroup x code p) s = .next t ∧
            receiver t x = { r with record := { r.record with candidate := some code } } ∧ keepsBut [.rx] s t) ∧
        (r.record.code ≠ none → r.record.code ≠ some code →
          ∃ t, exec (.dataGroup x code p) s = .next t ∧
            receiver t x = { r with record := { DataRecord.empty with candidate := some code } } ∧
            (x = .a → AnnouncementOver s t ∧ t.tw.codeHeld = none ∧ t.af.state ≠ .low) ∧
            (x = .b → keepsBut [.cp, .rx] s t) ∧ keepsBut [.cp, .zr, .rx, .af, .tw] s t) ∧
        (r.record.code = some code ∨ (r.record.code = none ∧ r.record.candidate = some code) →
          (x = .a → s.af.state ≠ .verify) → (x = .b → s.slm.holder ≠ .check ∧ s.slm.holder ≠ .scan) →
          (∃ t, exec (.dataGroup x code (.name pos c1 c2)) s = .next t ∧
            receiver t x = { r with record := { r2 with segments := r2.segments.set pos (some (c1, c2)) } } ∧
            (x = .a → r.station = s.rx.lastTuned → r.record.code = none →
              ((listEntry t r.station).all (fun e => e.code == some code)) = true) ∧
            (x = .a → r.record.code = some code → r.record.segments[pos] = some (c1, c2) → t.slm = s.slm) ∧
            keepsBut [.cp, .rx, .slm, .tw] s t) ∧
          (∃ t, exec (.dataGroup x code (.alternates i j)) s = .next t ∧
            receiver t x = { r with record := { r2 with
              alternates := offerAlternate r.station.index (offerAlternate r.station.index r.record.alternates i) j } } ∧
            (x = .a → r.station = s.rx.lastTuned → r.record.code = none →
              ((listEntry t r.station).all (fun e => e.code == some code)) = true) ∧
            keepsBut [.cp, .rx, .slm, .tw] s t) ∧
          (∃ t, exec (.dataGroup x code (.flags carrier on)) s = .next t ∧
            receiver t x = { r with record := { r2 with carrier := carrier, trafficOn := on } } ∧
            (x = .a → r.station = s.rx.lastTuned → r.record.code = none →
              ((listEntry t r.station).all (fun e => e.code == some code)) = true) ∧
            (x = .a → r.record.trafficOn = true → on = false → AnnouncementOver s t) ∧
            (x = .a → r.record.trafficOn = false → on = true → s.tw.on = true → t.tw.announcement ≠ none) ∧
            (x = .a → on = true → t.tw.bridge = none) ∧
            keepsBut [.cp, .zr, .rx, .slm, .tw] s t))) ∧
      (r.record.code = none ∨ r.record.timer = none → exec (.trafficTimerRunout x) s = .next (settle s)) ∧
      (r.record.code ≠ none → r.record.timer ≠ none →
        ∃ t, exec (.trafficTimerRunout x) s = .next t ∧
          receiver t x = { r with record := { r.record with trafficOn := false, timer := some 2000 } } ∧
          (x = .a → r.record.trafficOn = true → AnnouncementOver s t) ∧
          (x = .a → r.record.trafficOn = false → t.slm = s.slm) ∧
          (x = .b → keepsBut [.cp, .rx, .slm] s t) ∧ keepsBut [.cp, .zr, .rx, .slm, .tw] s t)

/-- R115, R116, R117, R119, R120, R121: the sweep measures its position, keeps a station at or above its threshold as
it stood when the measure was ordered, in a full list only in the place of a weaker candidate for removal, which is no
pinned entry, dwells on an FM station whose entry, old or new, holds no code, and moves up one index, to AM or to a
new sweep with SCAN_DONE, for which the unseen entries age and exactly the unpinned ones of age 3 are removed;
SCAN_NOW begins it afresh and SET_SCAN applies its settings, a change of threshold being for the next measure. A
command whose timer, settle or subject is not there changes nothing (the model's choice, log 1). What AM scanning OFF
does in AM, and by which threshold a measure in flight is judged, are the model's readings (log 14), as is that a new
entry holds no data yet (log 9). -/
def Obligations.SweepVisitsTheBands : Prop :=
  ∀ (s u w : State) (m : Measurement) (q : Nat) (sc am x : Byte),
    u = atRequest .scanNow s →
    w = atRequest .setScan s →
    q = quality s.rx.b.station.band m →
    (s.rx.b.settle ≠ none → s.rx.b.state = .scanning → s.slm.holder = .scan →
        ∃ t, exec (.rxBSettleEnd m) s = .next t ∧
          (q < s.slm.quickThreshold →
            (s.slm.position.band = .fm → ((listEntry s s.slm.position).any (fun e => e.code == none)) = true →
              t.slm = { s.slm with dwell := some 400 }) ∧
            (s.slm.position.band = .am ∨ ((listEntry s s.slm.position).any (fun e => e.code == none)) = false →
              SweepMovedWith s t s.slm.entries)) ∧
          (s.slm.quickThreshold ≤ q →
            (∀ e : ListEntry, listEntry s s.slm.position = some e →
              DwellsOrMoves s t (seenIn s.slm.entries s.slm.position q) e.code.isSome) ∧
            (listEntry s s.slm.position = none → s.slm.entries.length < 40 →
              DwellsOrMoves s t (placeEntry (freshEntry s.slm.position q) s.slm.entries) false) ∧
            (listEntry s s.slm.position = none → 40 ≤ s.slm.entries.length → Ascending s.slm.entries →
              ∃ c ∈ s.slm.entries, Weakest s s.slm.entries c ∧
                if c.quality < q then
                  DwellsOrMoves s t (placeEntry (freshEntry s.slm.position q) (without c.station s.slm.entries)) false
                else SweepMovedWith s t s.slm.entries)) ∧
          keepsBut [.cp, .rx, .slm] s t) ∧
      (s.rx.b.settle = none ∨ (s.rx.b.state ≠ .scanning ∧ s.rx.b.state ≠ .checking) →
        exec (.rxBSettleEnd m) s = .next (settle s)) ∧
      (s.slm.holder = .scan → s.slm.dwell ≠ none →
        ∃ t, exec .dwellEnd s = .next t ∧ SweepMovedWith s t s.slm.entries ∧ keepsBut [.cp, .rx, .slm] s t) ∧
      (s.slm.holder ≠ .scan ∨ s.slm.dwell = none → exec .dwellEnd s = .next s) ∧
      (u.sc.opState = .run → u.slm.scanning = false → exec (.scanNow []) s = .next (u.refusing .scanNow .wrongState)) ∧
      (u.sc.opState = .run → u.slm.scanning = true →
        ∃ t, exec (.scanNow []) s = .next t ∧
          t.slm = { u.slm with
            entries := u.slm.entries.map (fun e => { e with seen := false }), inserted := 0, position := ⟨.fm, 0⟩
            dwell := none
            quickThreshold := if u.slm.holder = .scan then u.slm.threshold else u.slm.quickThreshold } ∧
          (u.slm.holder = .scan → Visiting t) ∧ (u.slm.holder ≠ .scan → t.rx = u.rx) ∧ t.rx.a = u.rx.a ∧
          t.cp.reply = some ⟨0x26#8, .ok, []⟩ ∧ keepsBut [.cp, .rx, .slm] u t) ∧
      (w.sc.opState = .run → 2 ≤ sc.toNat ∨ 2 ≤ am.toNat →
        exec (.setScan [sc, am, x]) s = .next (w.refusing .setScan .outOfRange)) ∧
      (w.sc.opState = .run → sc.toNat < 2 → am.toNat < 2 →
        ∃ t, exec (.setScan [sc, am, x]) s = .next t ∧
          (w.slm.holder = .scan → w.slm.position.band = .fm → sc = 1#8 → w.slm.scanning = true →
            t.slm.quickThreshold = w.slm.quickThreshold ∧ t.rx = w.rx) ∧
          t.slm.scanning = (sc == 1#8) ∧ t.slm.amScanning = (am == 1#8) ∧ t.slm.threshold = min x.toNat 100 ∧
          (w.slm.holder = .scan → sc = 0#8 → w.slm.scanning = true → t.slm.holder = .none ∧ t.rx.b.state = .idle) ∧
          (w.slm.holder = .none → sc = 1#8 → w.slm.scanning = false → t.slm.holder = .scan ∧ Visiting t) ∧
          (w.slm.amScanning = true → am = 0#8 → w.slm.position.band = .am →
            t.slm.position = ⟨.fm, 0⟩ ∧ t.slm.completed = (w.slm.completed + 1) % 256 ∧ Swept w t w.slm.entries) ∧
          ((w.slm.amScanning && am == 0#8 && w.slm.position.band == .am) = false →
            t.slm.position = w.slm.position ∧ t.slm.entries = w.slm.entries) ∧
          t.rx.a = w.rx.a ∧ t.cp.reply = some ⟨0x27#8, .ok, [sc, am, byte (min x.toNat 100)]⟩ ∧
          keepsBut [.cp, .rx, .slm] w t)

/-- R124, R125, R127: an attempt begins as the low timer runs out, with the alternates in the order of their listed
qualities; a check that times out or measures too low passes to the next candidate; the backoff's end and SET_FOLLOW
OFF end an attempt. A command whose timer, settle or subject is not there changes nothing (the model's choice, log 1).
What follow OFF does during a switch, and that the return from VERIFY runs under the mute OFF, are the model's
readings (log 8). The room in the queue for AF_REVERTED supposes the model's order of the reports (log 24). -/
def Obligations.FollowingTriesItsCandidates : Prop :=
  ∀ (s u b : State) (m : Measurement) (q : Nat) (x : Byte) (l : List Nat),
    u = atRequest .setFollow s →
    b = { s with af := ⟨s.af.follow, s.af.state, s.af.timer, some s.rx.a.station.index, s.rx.a.record.code, s.af.current,
      candidateList s s.rx.a.record.alternates, 0, s.af.passed⟩ } →
    q = quality s.rx.b.station.band m →
    ((candidateList s l).isPerm l = true ∧
        (candidateList s l).Pairwise (fun i j =>
          (listedQuality s j = none) ∨ (listedQuality s i ≠ none ∧
            (listedQuality s j).getD 0 ≤ (listedQuality s i).getD 0))) ∧
      (s.af.state ≠ .low ∨ s.af.timer = none → exec .lowTimerRunout s = .next s) ∧
      (s.af.state = .low → s.af.timer ≠ none →
        ∃ t, exec .lowTimerRunout s = .next t ∧ CandidateTried b t ∧ keepsBut [.cp, .rx, .slm, .af, .tw, .zr] s t) ∧
      (s.af.state ≠ .attempt ∨ s.slm.holder ≠ .check ∨ s.af.timer = none → exec .checkTimeout s = .next s) ∧
      (s.af.state = .attempt → s.slm.holder = .check → s.af.timer ≠ none →
        ∃ t, exec .checkTimeout s = .next t ∧ CandidateTried s t ∧ keepsBut [.cp, .rx, .slm, .af] s t) ∧
      (s.rx.b.settle ≠ none → s.rx.b.state = .checking → s.slm.holder = .check → s.af.state = .attempt →
        ∃ t, exec (.rxBSettleEnd m) s = .next t ∧
          (q < s.rx.a.qs.getD 0 + 10 → CandidateTried s t) ∧
          (s.rx.a.qs.getD 0 + 10 ≤ q → t.af = { s.af with passed := some q } ∧
            t.rx = { s.rx with b := { s.rx.b with settle := none } } ∧ t.slm = s.slm) ∧
          keepsBut [.cp, .rx, .slm, .af] s t) ∧
      (s.af.state = .backoff →
        exec .backoffRunout s = .next (settle { s with af := { Following.reset with follow := s.af.follow } })) ∧
      (s.af.state ≠ .backoff → exec .backoffRunout s = .next s) ∧
      (u.sc.opState = .run →
        (2 ≤ x.toNat → exec (.setFollow [x]) s = .next (u.refusing .setFollow .outOfRange)) ∧
        exec (.setFollow [1#8]) s =
          .next (({ u with af := { u.af with follow := true } } : State).accepting .setFollow []) ∧
        (∃ t, exec (.setFollow [0#8]) s = .next t ∧ t.af = { Following.reset with follow := false } ∧
          (u.af.state ∈ [AttemptState.idle, .low, .backoff] → keepsBut [.cp, .af] u t) ∧
          (u.af.state = .verify → TuningBack u t .off ∧ t.slm = u.slm ∧
            (u.cp.reports.length < 24 →
              Told t .afReverted 0 (u16 (u.af.current.getD 0) ++ u16 (u.af.oldIndex.getD 0) ++ [2#8]))) ∧
          (u.af.state = .attempt → CheckReleased u t ∧
            (u.rx.a.state = .tuning → u.rx.purpose = .blind ∨ u.rx.purpose = .switch → TuningBack u t .blind) ∧
            (u.rx.a.state ≠ .tuning ∨ (u.rx.purpose ≠ .blind ∧ u.rx.purpose ≠ .switch) → t.rx.a = u.rx.a)) ∧
          t.cp.reply = some ⟨0x28#8, .ok, []⟩ ∧ keepsBut [.cp, .rx, .slm, .af, .tw] u t))

/-- R119, R125, R126: the end of the switch leaves RX-A on the candidate with AF_SWITCHED; a blind check whose quality
is too low, a verification that times out and one whose code is another tune RX-A back; the return's end tries the
next candidate; a code confirmed in VERIFY stays with AF_SWITCHED or returns; a code confirmed on RX-B passes a check,
which begins the switch, or fails it, and with the name ends a dwell of the sweep. A command whose timer, settle or
subject is not there changes nothing (the model's choice, log 1). The mutes of the returns are the model's reading
(log 8). The room in the queue for AF_REVERTED supposes the model's order of the reports (log 24). -/
def Obligations.FollowingSwitchesOrReturns : Prop :=
  ∀ (s : State) (m : Measurement) (q code : Nat) (c1 c2 : Byte) (pos : Fin 4) (p : Payload) (r : DataRecord),
    q = quality s.rx.a.station.band m →
    r = { s.rx.b.record with
      code := some code, candidate := none, timer := some 0
      segments := s.rx.b.record.segments.set pos (some (c1, c2)) } →
    (s.rx.a.state = .tuning → s.rx.a.settle ≠ none → s.rx.purpose = .switch →
        ∃ t, exec (.switchSettleEnd m) s = .next t ∧ StaysOnCandidate s t 0 ∧
          t.rx.a = { s.rx.a with state := .locked, settle := none, qs := some q, mute := .off } ∧
          keepsBut [.cp, .cu, .rx, .slm, .af] s t) ∧
      (s.rx.a.state ≠ .tuning ∨ s.rx.a.settle = none ∨ s.rx.purpose ≠ .switch →
        exec (.switchSettleEnd m) s = .next s) ∧
      (s.rx.a.state = .tuning → s.rx.a.settle ≠ none → s.rx.purpose = .blind →
        ∃ t, exec (.blindCheckDecision m) s = .next t ∧
          (q < s.rx.a.qs.getD 0 + 10 → TuningBack s t .blind ∧ (s.af.state ≠ .low → t.af = s.af)) ∧
          (s.rx.a.qs.getD 0 + 10 ≤ q →
            t.rx.a = { s.rx.a with state := .locked, settle := none, qs := some q, mute := .off } ∧
            t.af = { s.af with state := .verify, timer := some 1000, passed := some q } ∧ t.slm = s.slm ∧
            t.rx.lastTuned = s.rx.lastTuned ∧ heldValue t .qualA = some (q : Int)) ∧
          keepsBut [.cp, .cu, .rx, .af, .tw] s t) ∧
      (s.rx.a.state ≠ .tuning ∨ s.rx.a.settle = none ∨ s.rx.purpose ≠ .blind →
        exec (.blindCheckDecision m) s = .next s) ∧
      (s.rx.a.state = .tuning → s.rx.a.settle ≠ none → s.rx.purpose = .back →
        ∃ t, exec (.afReturnSettleEnd m) s = .next t ∧ heldValue t .qualA = some (q : Int) ∧
          (s.af.state ≠ .attempt →
            t.rx.a = { s.rx.a with state := .locked, settle := none, qs := some q, mute := .off }) ∧
          (s.af.state = .attempt → s.cp.reports.length < 7 →
            CandidateTried { s with rx := { s.rx with a := { s.rx.a with
                state := .locked, settle := none, qs := some q, mute := .off } } }
              { t with slm := { t.slm with entries := s.slm.entries, inserted := s.slm.inserted } }) ∧
          keepsBut [.cp, .cu, .rx, .slm, .af, .tw] s t) ∧
      (s.rx.a.state ≠ .tuning ∨ s.rx.a.settle = none ∨ s.rx.purpose ≠ .back →
        exec (.afReturnSettleEnd m) s = .next s) ∧
      (s.af.state ≠ .verify → exec .verifyTimeout s = .next s) ∧
      (s.af.state = .verify →
        (∃ t, exec .verifyTimeout s = .next t ∧ TuningBack s t .off ∧
          t.af = { s.af with state := .attempt, timer := none } ∧
          (s.cp.reports.length < 24 →
            Told t .afReverted 0 (u16 (s.af.current.getD 0) ++ u16 (s.af.oldIndex.getD 0) ++ [1#8])) ∧
          keepsBut [.cp, .rx, .af, .tw] s t) ∧
        (s.rx.a.state = .locked → s.rx.a.settle = none → s.rx.a.station.band = .fm →
          s.rx.a.record.code = none → s.rx.a.record.candidate = some code →
          ∃ t, exec (.dataGroup .a code p) s = .next t ∧
            (s.af.code = some code → StaysOnCandidate s t 1) ∧
            (s.af.code ≠ some code → TuningBack s t .off ∧ t.af = { s.af with state := .attempt, timer := none } ∧
              (s.cp.reports.length < 7 →
                Told t .afReverted 0 (u16 (s.af.current.getD 0) ++ u16 (s.af.oldIndex.getD 0) ++ [0#8]))) ∧
            (isFlagsPayload p = false → t.zr = s.zr) ∧ keepsBut [.cp, .zr, .rx, .slm, .af, .tw] s t)) ∧
      (s.rx.b.state = .checking → s.slm.holder = .check → s.af.state = .attempt → s.rx.b.settle = none →
        s.rx.b.station.band = .fm → s.rx.b.record.code = none → s.rx.b.record.candidate = some code →
        ∃ t, exec (.dataGroup .b code p) s = .next t ∧
          (s.af.code = some code →
            t.rx.a.state = .tuning ∧ t.rx.a.station = ⟨.fm, s.af.current.getD 0⟩ ∧ t.rx.a.settle = some 20 ∧
            t.rx.a.mute = .switch ∧ t.rx.purpose = .switch ∧ t.rx.a.record = DataRecord.empty ∧
            t.rx.lastTuned = s.rx.lastTuned ∧ t.af = { s.af with timer := none } ∧ Released s t) ∧
          (s.af.code ≠ some code → CandidateTried s t) ∧ keepsBut [.cp, .rx, .slm, .af, .tw] s t) ∧
      (s.rx.b.state = .scanning → s.slm.holder = .scan → s.slm.dwell ≠ none → s.rx.b.settle = none →
        s.rx.b.station.band = .fm →
        s.rx.b.record.code = some code ∨ (s.rx.b.record.code = none ∧ s.rx.b.record.candidate = some code) →
        ∃ t, exec (.dataGroup .b code (.name pos c1 c2)) s = .next t ∧
          (r.name ≠ none → SweepMoved s t) ∧
          (r.name = none → t.rx.b = { s.rx.b with record := r } ∧ t.slm = { s.slm with entries := t.slm.entries }) ∧
          keepsBut [.cp, .rx, .slm] s t)

/-- R50, R128, R129, R130: SET_TRAFFIC_WATCH sets the watch and its zones, begins an announcement where the flag
stands and ends one with the watch; TRAFFIC_SKIP and the bridge's end end an announcement; a code held for two seconds
without the carrier flag is noted once. A command whose timer, settle or subject is not there changes nothing (the
model's choice, log 1). That ON acts as a beginning only behind OFF is the model's reading (log 14). -/
def Obligations.TrafficIsWatched : Prop :=
  ∀ (s u w : State) (x zb : Byte) (z : CabinSet),
    u = atRequest .setTrafficWatch s →
    w = atRequest .trafficSkip s →
    z = ⟨zb.getLsbD 0, zb.getLsbD 1, zb.getLsbD 2⟩ →
    (u.sc.opState = .run → 2 ≤ x.toNat ∨ zb = 0#8 ∨ 8 ≤ zb.toNat →
        exec (.setTrafficWatch [x, zb]) s = .next (u.refusing .setTrafficWatch .outOfRange)) ∧
      (u.sc.opState = .run → x.toNat < 2 → 0 < zb.toNat → zb.toNat < 8 →
        ∃ t, exec (.setTrafficWatch [x, zb]) s = .next t ∧ t.tw.on = (x == 1#8) ∧ t.tw.zones = z ∧
          (x = 0#8 → AnnouncementOver u t ∧
            (u.tw.announcement ≠ none → u.cp.reports.length < 21 → Told t .trafficEnded 0 [3#8])) ∧
          (x = 1#8 → u.tw.on = true → t.tw = { u.tw with zones := z } ∧ t.zr = u.zr) ∧
          (x = 1#8 → u.tw.on = false → u.rx.a.record.trafficOn = false →
            t.tw.announcement = u.tw.announcement ∧ t.tw.bridge = u.tw.bridge ∧ t.zr = u.zr) ∧
          (x = 1#8 → u.tw.on = false → u.rx.a.record.trafficOn = true → u.tw.announcement = none →
            t.tw.announcement = some
              { zones := z
                sounding := cabinSet (fun c => z.get c && !holdsClass (listOf u (.cabin c)) .call)
                deferred := cabinSet (fun c => z.get c && holdsClass (listOf u (.cabin c)) .call) } ∧
            (∀ c : Cabin,
              (z.get c = true → holdsClass (listOf u (.cabin c)) .call = false →
                holdsClass (listOf t (.cabin c)) .traffic = true) ∧
              (z.get c = false ∨ holdsClass (listOf u (.cabin c)) .call = true →
                listOf t (.cabin c) = listOf u (.cabin c)))) ∧
          t.cp.reply = some ⟨0x29#8, .ok, [x, zb]⟩ ∧ keepsBut [.cp, .zr, .tw] u t) ∧
      (w.sc.opState = .run →
        ∃ t, exec (.trafficSkip []) s = .next t ∧ AnnouncementOver w t ∧ t.tw.on = w.tw.on ∧ t.tw.zones = w.tw.zones ∧
          t.tw.note = w.tw.note ∧
          (w.tw.announcement ≠ none → w.cp.reports.length < 21 → Told t .trafficEnded 0 [2#8]) ∧
          t.cp.reply = some ⟨0x2a#8, .ok, []⟩ ∧ keepsBut [.cp, .zr, .tw] w t) ∧
      (s.tw.bridge = none → exec .bridgeTimerRunout s = .next s) ∧
      (s.tw.bridge ≠ none →
        ∃ t, exec .bridgeTimerRunout s = .next t ∧ AnnouncementOver s t ∧
          (s.tw.announcement ≠ none → s.cp.reports.length < 21 → Told t .trafficEnded 0 [0#8]) ∧
          keepsBut [.cp, .zr, .tw] s t) ∧
      (s.tw.codeHeld = none → exec .carrierJudgement s = .next (settle s)) ∧
      (s.tw.codeHeld ≠ none →
        (s.tw.on = false ∨ s.rx.a.record.carrier = true →
          exec .carrierJudgement s = .next (settle { s with tw := { s.tw with codeHeld := some 2000 } })) ∧
        (∀ c : Nat, s.rx.a.record.code = some c → s.tw.on = true → s.rx.a.record.carrier = false →
          ∃ t, exec .carrierJudgement s = .next t ∧
            t.tw = { s.tw with codeHeld := some 2000, note := some ⟨s.rx.a.station, c⟩ } ∧
            (s.tw.note ≠ some ⟨s.rx.a.station, c⟩ → s.cp.reports.length < 24 →
              Told t .trafficNoCarrier 0 (stationField s.rx.a.station ++ u16 c)) ∧
            (s.tw.note = some ⟨s.rx.a.station, c⟩ → t.cp = s.cp) ∧ keepsBut [.cp, .tw] s t))

/-! ### Rear listening and the jacks (chapter 9) -/

/-- R131 to R135, R122: REAR_TUNE refuses a zone that is no headphone zone, a station outside its grid and a position
outside the station list with OUT_OF_RANGE, puts a fitted headphone zone on FGT where its station is RX-A's, refuses
with NO_RECEIVER where the other zone holds RX-B on another station, and else puts it on BGT with RX-B ordered to the
station; SET_REAR_CEILING limits a headphone zone's steps. The five bytes of REAR_TUNE's body are the model's reading
(log 4), and that the last two of a position are not read is its choice (log 21). The room in the queue for
RX_B_HOLDER and AF_FAILED supposes the model's order of the reports (log 24). -/
def Obligations.RearZonesAreTuned : Prop :=
  ∀ (s u w : State) (h : Hp) (st : Station) (e : ListEntry) (x y hi lo : Byte) (n : Nat),
    u = atRequest .rearTune s →
    w = atRequest .setRearCeiling s →
    n = min y.toNat 40 →
    (u.sc.opState = .run →
        (u.slm.entries[x.toNat]? = some e → e.station.inGrid = true →
          exec (.rearTune [byte (zoneCode (.hp h)), 0#8, x, 0#8, 0#8]) s =
            exec (.rearTune ([byte (zoneCode (.hp h)), 1#8] ++ stationField e.station)) s) ∧
        (u.slm.entries.length ≤ x.toNat →
          exec (.rearTune [byte (zoneCode (.hp h)), 0#8, x, 0#8, 0#8]) s = .next (u.refusing .rearTune .outOfRange)) ∧
        (2 ≤ x.toNat ∨ (x = 0#8 ∧ 410 < nat16 hi lo) ∨ (x = 1#8 ∧ 119 < nat16 hi lo) →
          exec (.rearTune [byte (zoneCode (.hp h)), 1#8, x, hi, lo]) s = .next (u.refusing .rearTune .outOfRange)) ∧
        (2 ≤ x.toNat →
          exec (.rearTune ([byte (zoneCode (.hp h)), x] ++ stationField st)) s = .next (u.refusing .rearTune .outOfRange)) ∧
        (x.toNat < 3 ∨ 5 ≤ x.toNat →
          exec (.rearTune ([x, 1#8] ++ stationField st)) s = .next (u.refusing .rearTune .outOfRange)) ∧
        (st.inGrid = true → hpIsFitted u h = false →
          exec (.rearTune ([byte (zoneCode (.hp h)), 1#8] ++ stationField st)) s = .next (u.refusing .rearTune .notFitted)) ∧
        (st.inGrid = true → hpIsFitted u h = true → st = u.rx.lastTuned →
          ∃ t, exec (.rearTune ([byte (zoneCode (.hp h)), 1#8] ++ stationField st)) s = .next t ∧
            t.zr = { u.zr with hps := u.zr.hps.set h { u.zr.hps.get h with
              base := some .fgt, list := withBase (some .fgt) (u.zr.hps.get h).list } } ∧
            (if hasBgt u h = true ∧ hasBgt u (Hp.other h) = false then Released u t ∧ t.rx.a = u.rx.a
            else t.slm = u.slm ∧ t.rx = u.rx) ∧
            t.cp.reply = some ⟨0x2b#8, .ok, [byte (zoneCode (.hp h)), 0#8] ++ stationField st⟩ ∧
            keepsBut [.cp, .zr, .rx, .slm] u t) ∧
        (st.inGrid = true → hpIsFitted u h = true → st ≠ u.rx.lastTuned → hasBgt u (Hp.other h) = true →
          rearStation u ≠ some st →
          exec (.rearTune ([byte (zoneCode (.hp h)), 1#8] ++ stationField st)) s =
            .next (u.refusing .rearTune .noReceiver)) ∧
        (st.inGrid = true → hpIsFitted u h = true → st ≠ u.rx.lastTuned →
          hasBgt u (Hp.other h) = false ∨ rearStation u = some st →
          ∃ t, exec (.rearTune ([byte (zoneCode (.hp h)), 1#8] ++ stationField st)) s = .next t ∧
            t.zr = { u.zr with hps := u.zr.hps.set h { u.zr.hps.get h with
              base := some .bgt, list := withBase (some .bgt) (u.zr.hps.get h).list } } ∧
            rearStation t = some st ∧
            (rearStation u = some st → t.slm = u.slm ∧ t.rx = u.rx ∧ t.af = u.af) ∧
            (rearStation u ≠ some st →
              t.slm = { u.slm with holder := .rear st, dwell := none } ∧ t.rx.b.state = .tuning ∧ t.rx.b.station = st ∧
              t.rx.b.settle = some (settleMs st.band) ∧ t.rx.b.record = DataRecord.empty ∧
              (u.cp.reports.length < 24 → (t.cp.reports.any (fun r => r.kind == .rxBHolder)) = true)) ∧
            (u.slm.holder ≠ .check → t.rx.a = u.rx.a ∧ t.af = u.af ∧ t.tw = u.tw) ∧
            (u.slm.holder = .check → u.cp.reports.length < 20 →
              CandidateTried { u with slm := t.slm, rx := { u.rx with b := t.rx.b } } t) ∧
            t.cp.reply = some ⟨0x2b#8, .ok, [byte (zoneCode (.hp h)), 1#8] ++ stationField st⟩ ∧
            keepsBut [.cp, .zr, .rx, .slm, .af, .tw] u t)) ∧
      (w.sc.opState = .config ∨ w.sc.opState = .run →
        (x.toNat < 3 ∨ 5 ≤ x.toNat → exec (.setRearCeiling [x, y]) s = .next (w.refusing .setRearCeiling .outOfRange)) ∧
        (hpIsFitted w h = false →
          exec (.setRearCeiling [byte (zoneCode (.hp h)), y]) s = .next (w.refusing .setRearCeiling .notFitted)) ∧
        (hpIsFitted w h = true →
          exec (.setRearCeiling [byte (zoneCode (.hp h)), y]) s =
            .next (({ w with zr := { w.zr with hps := w.zr.hps.set h { w.zr.hps.get h with
                ceiling := n, volBase := min (w.zr.hps.get h).volBase n
                volCall := min (w.zr.hps.get h).volCall n } } } : State).accepting .setRearCeiling
              [byte n, byte (min (w.zr.hps.get h).volBase n), byte (min (w.zr.hps.get h).volCall n)])))

/-! ### Calls (chapter 10) -/

/-- R141, R142, R149: CALL_STATE makes the legal changes and refuses the others; leaving IDLE places the route's CALL
entries over any announcement and starts the canceller on the route CABIN, and IDLE removes them, lifts the uplink
mute and takes the canceller to BYPASS; CALL_ACTIVE follows. That the canceller's start is not counted, that it sets
the ERLE estimate to 0, and that an uplink mute set in IDLE stays in force, are the model's readings (log 12). -/
def Obligations.CallStateIsFollowed : Prop :=
  ∀ (s u : State) (x : Byte) (new : CallState),
    u = atRequest .callState s →
    u.sc.opState = .run →
    ListsOk u →
    (4 ≤ x.toNat → exec (.callState [x]) s = .next (u.refusing .callState .outOfRange)) ∧
      ((u.clp.state, new) ∈ [(CallState.idle, CallState.held), (.ringing, .ringing), (.ringing, .held),
          (.active, .ringing), (.active, .active), (.held, .ringing), (.held, .held)] →
        exec (.callState [byte new.code]) s = .next (u.refusing .callState .badTransition)) ∧
      (u.clp.state = .idle → new = .idle →
        exec (.callState [byte new.code]) s = .next (u.accepting .callState (contextField u))) ∧
      (u.clp.state = .idle → new = .ringing ∨ new = .active →
        ∃ t, exec (.callState [byte new.code]) s = .next t ∧
          (u.clp.route = .cabin →
            t.clp = { u.clp with
              state := new, restarts := 0, canceller := .converging, erle := some 0, convergence := none
              divergence := none, selection := selectionOf t }) ∧
          (u.clp.route ≠ .cabin → t.clp = { u.clp with state := new, restarts := 0, selection := selectionOf t }) ∧
          heldValue t .callActive = some 1 ∧
          (∀ z : Zone,
            (z ∈ routeZones u.clp.route → holdsClass (listOf t z) .call = true ∧ holdsClass (listOf t z) .traffic = false ∧
              (∀ a : Announcement, t.tw.announcement = some a → ∀ c ∈ Cabin.all, z = .cabin c →
                holdsClass (listOf u z) .traffic = true → a.sounding.get c = false ∧ a.deferred.get c = true)) ∧
            (z ∉ routeZones u.clp.route → listOf t z = listOf u z)) ∧
          t.cp.reply = some ⟨0x2d#8, .ok, contextField t⟩ ∧ keepsBut [.cp, .zr, .cu, .tw, .clp] u t) ∧
      (u.clp.state ≠ .idle → new = .idle →
        ∃ t, exec (.callState [byte new.code]) s = .next t ∧
          t.clp = { u.clp with
            state := .idle, uplinkMute := false, canceller := .bypass, erle := none, convergence := none
            divergence := none, attenuated := false } ∧
          heldValue t .callActive = some 0 ∧
          (∀ z : Zone,
            (z ∈ routeZones u.clp.route → holdsClass (listOf t z) .call = false) ∧
            (z ∉ routeZones u.clp.route → listOf t z = listOf u z)) ∧
          (∀ a : Announcement, u.tw.announcement = some a → ∀ c ∈ Cabin.all,
            .cabin c ∈ routeZones u.clp.route → a.deferred.get c = true →
            holdsClass (listOf t (.cabin c)) .traffic = true ∧ deferredZones t = a.deferred.minus
              (cabinSet (fun c => (routeZones u.clp.route).contains (.cabin c)))) ∧
          t.cp.reply = some ⟨0x2d#8, .ok, contextField t⟩ ∧ keepsBut [.cp, .zr, .cu, .tw, .clp] u t) ∧
      ((u.clp.state, new) ∈ [(CallState.ringing, CallState.active), (.active, .held), (.held, .active)] →
        ∃ t, exec (.callState [byte new.code]) s = .next t ∧ t.clp = { u.clp with state := new } ∧
          heldValue t .callActive = some 1 ∧ t.cp.reply = some ⟨0x2d#8, .ok, contextField t⟩ ∧
          keepsBut [.cp, .cu, .clp] u t)

/-- R136, R137, R143, R144: CALL_ROUTE's refusals in order, and its move of a call's entries, uplink selection and
canceller with CALL_ROUTE_CHANGED; a jack's change is reported with HEADPHONE_PLUG, and its removal brings the route
back to the cabin. The pin's level is kept even where the part does not sense it (the model's choice, log 2). That a
change of route to the cabin counts as a restart is the model's reading (log 12), as is the byte of a set of
microphones (log 4). -/
def Obligations.CallRouteIsMoved : Prop :=
  ∀ (s u : State) (x : Byte) (h : Hp) (r : Route) (inserted : Bool),
    u = atRequest .callRoute s →
    (u.sc.opState = .run →
        (3 ≤ x.toNat → exec (.callRoute [x]) s = .next (u.refusing .callRoute .outOfRange)) ∧
        (hpIsFitted u h = false →
          exec (.callRoute [byte (Route.hp h).code]) s = .next (u.refusing .callRoute .notFitted)) ∧
        (hpIsFitted u h = true → (u.zr.hps.get h).jack = false ∨ u.os.hps.get h = .heldOff →
          exec (.callRoute [byte (Route.hp h).code]) s = .next (u.refusing .callRoute .wrongState)) ∧
        (hpIsFitted u h = true → (u.zr.hps.get h).jack = true → u.os.hps.get h ≠ .heldOff →
          micUsable u .rl = false → micUsable u .rr = false →
          exec (.callRoute [byte (Route.hp h).code]) s = .next (u.refusing .callRoute .notFitted)) ∧
        (r = .cabin ∨ (r = .hp h ∧ hpIsFitted u h = true ∧ (u.zr.hps.get h).jack = true ∧
            u.os.hps.get h ≠ .heldOff ∧ (micUsable u .rl = true ∨ micUsable u .rr = true)) →
          (r = u.clp.route →
            exec (.callRoute [byte r.code]) s = .next (u.accepting .callRoute (contextField u))) ∧
          (r ≠ u.clp.route →
            ∃ t, exec (.callRoute [byte r.code]) s = .next t ∧
              (u.clp.state = .idle → t.clp = { u.clp with route := r, selection := selectionOf t } ∧
                keepsBut [.cp, .clp] u t) ∧
              (u.clp.state ≠ .idle → r = .cabin →
                t.clp = { u.clp.recovering with route := r, selection := selectionOf t }) ∧
              (u.clp.state ≠ .idle → r ≠ .cabin →
                t.clp = { u.clp with
                  route := r, selection := selectionOf t, canceller := .bypass, erle := none, convergence := none
                  divergence := none, attenuated := false }) ∧
              (u.clp.state ≠ .idle → ∀ z : Zone,
                (z ∈ routeZones r → z ∉ routeZones u.clp.route → holdsClass (listOf t z) .call = true) ∧
                (z ∉ routeZones r → z ∈ routeZones u.clp.route → holdsClass (listOf t z) .call = false) ∧
                (z ∉ routeZones r → z ∉ routeZones u.clp.route → listOf t z = listOf u z)) ∧
              (u.cp.reports.length < 18 →
                Told t .callRouteChanged 0
                  ([byte u.clp.route.code, byte r.code, 0#8, byte u.clp.state.code] ++ micSetField t.clp.selection.mics)) ∧
              t.cp.reply = some ⟨0x2e#8, .ok, contextField t⟩ ∧ keepsBut [.cp, .zr, .tw, .clp] u t))) ∧
      (s.sc.opState = .boot ∨ hpIsFitted s h = false ∨ (s.zr.hps.get h).jack = inserted →
        exec (.jackStateChange h inserted) s =
          .next { s with pins := { s.pins with jack := s.pins.jack.set h inserted } }) ∧
      (s.sc.opState ≠ .boot → hpIsFitted s h = true → (s.zr.hps.get h).jack ≠ inserted →
        ∃ t, exec (.jackStateChange h inserted) s = .next t ∧
          t.pins = { s.pins with jack := s.pins.jack.set h inserted } ∧ (t.zr.hps.get h).jack = inserted ∧
          (∀ z : Zone, muteOf t z = muteOf s z ∧ quietOf t z = quietOf s z ∧ baseOf t z = baseOf s z) ∧
          (inserted = true ∨ s.clp.route ≠ .hp h →
            t.zr = { s.zr with hps := s.zr.hps.set h { s.zr.hps.get h with jack := inserted } } ∧ t.clp = s.clp) ∧
          (inserted = false → s.clp.route = .hp h →
            t.clp.route = .cabin ∧ t.clp.selection = selectionOf t ∧ t.clp.state = s.clp.state ∧
            (s.clp.state ≠ .idle → t.clp.canceller = .converging ∧ holdsClass (listOf t (.cabin .front)) .call = true ∧
              holdsClass (listOf t (.cabin .rear)) .call = true ∧ holdsClass (listOf t (.hp h)) .call = false) ∧
            (s.cp.reports.length < 18 →
              Told t .callRouteChanged 0
                ([byte (Route.hp h).code, 0#8, 1#8, byte s.clp.state.code] ++ micSetField t.clp.selection.mics))) ∧
          (s.cp.reports.length < 16 →
            Told t .headphonePlug (zoneCode (.hp h)) [byte inserted.toNat, byte (hpActive t h).toNat]) ∧
          keepsBut [.cp, .zr, .tw, .clp, .pins] s t)

/-- R146, R148: SET_UPLINK_MUTE and SET_MIC_POLICY change the call context, reply with it and post no report; the
uplink selection is that of the route and the policy among the usable microphones, its basis ROUTE exactly where one
of these is usable, and falls back to every usable microphone where none is. -/
def Obligations.UplinkIsSelected : Prop :=
  ∀ (s u w : State) (x : Byte) (m : Bool) (p : MicPolicy) (k : Mic),
    u = atRequest .setUplinkMute s →
    w = atRequest .setMicPolicy s →
    (u.sc.opState = .run →
        (2 ≤ x.toNat → exec (.setUplinkMute [x]) s = .next (u.refusing .setUplinkMute .outOfRange)) ∧
        exec (.setUplinkMute [byte m.toNat]) s =
          .next (({ u with clp := { u.clp with uplinkMute := m } } : State).accepting .setUplinkMute
            (contextField { u with clp := { u.clp with uplinkMute := m } }))) ∧
      (w.sc.opState = .run →
        (3 ≤ x.toNat → exec (.setMicPolicy [x]) s = .next (w.refusing .setMicPolicy .outOfRange)) ∧
        ∃ t, exec (.setMicPolicy [byte p.code]) s = .next t ∧
          t.clp = { w.clp with policy := p, selection := selectionOf t } ∧
          t.cp.reports = w.cp.reports ∧
          t.cp.reply = some ⟨0x30#8, .ok, contextField t⟩ ∧ keepsBut [.cp, .clp] w t) ∧
      ((selectionOf s).mics.get k = true → micUsable s k = true) ∧
      ((selectionOf s).basis = .none ↔ ∀ j ∈ Mic.all, micUsable s j = false) ∧
      ((selectionOf s).basis = .route ↔
        ∃ j ∈ Mic.all, micUsable s j = true ∧
          (match s.clp.route with
            | .cabin =>
              match s.clp.policy with
              | .driver => j == .fl
              | .frontPair => j == .fl || j == .fr
              | .allFitted => true
            | .hp _ => j == .rl || j == .rr) = true) ∧
      ((selectionOf s).basis = .fallback → (selectionOf s).mics.get k = micUsable s k) ∧
      (s.clp.route = .cabin → (selectionOf s).basis = .route →
        (selectionOf s).mics.get k = (micUsable s k &&
          match s.clp.policy with
          | .driver => k == .fl
          | .frontPair => k == .fl || k == .fr
          | .allFitted => true)) ∧
      (s.clp.route = .hp .hpl → (selectionOf s).basis = .route →
        (selectionOf s).mics.get k = (k == if micUsable s .rl = true then .rl else .rr)) ∧
      (s.clp.route = .hp .hpr → (selectionOf s).basis = .route →
        (selectionOf s).mics.get k = (k == if micUsable s .rr = true then .rr else .rl))

/-- R149, R150, R151: an ERLE estimate starts or discards the canceller's timers; the convergence timer's run-out
gives CONVERGED, the divergence timer's DIVERGED and a restart; the noise estimate of the usable front microphones
becomes CABIN_NOISE. A command whose timer, settle or subject is not there changes nothing (the model's choice, log
1). That the attenuation is held between estimates is the model's reading (log 12). -/
def Obligations.CancellerFollowsItsEstimates : Prop :=
  ∀ (s : State) (erle : Nat) (downlink a b : Int),
    (s.clp.canceller = .bypass → exec (.erleEstimate erle downlink) s = .next s) ∧
      (s.clp.canceller = .converging → erle ≤ 40 →
        exec (.erleEstimate erle downlink) s =
          .next (settle { s with clp := { s.clp with
            erle := some erle, attenuated := decide (-40 < downlink)
            convergence := if 18 ≤ erle then some (s.clp.convergence.getD 500) else none } })) ∧
      (s.clp.canceller = .converged → erle ≤ 40 →
        exec (.erleEstimate erle downlink) s =
          .next (settle { s with clp := { s.clp with
            erle := some erle, attenuated := false
            divergence := if erle < 6 then some (s.clp.divergence.getD 1000) else none } })) ∧
      (s.clp.canceller = .converging → s.clp.convergence ≠ none →
        exec .convergenceTimerRunout s =
          .next (settle (postAec { s with clp := { s.clp with
            canceller := .converged, convergence := none, attenuated := false } }))) ∧
      (s.clp.canceller ≠ .converging ∨ s.clp.convergence = none → exec .convergenceTimerRunout s = .next s) ∧
      (s.clp.canceller = .converged → s.clp.divergence ≠ none →
        ∃ t, exec .divergenceTimerRunout s = .next t ∧ t.clp = s.clp.recovering ∧
          (s.cp.reports.length < 23 → (t.cp.reports.any (fun r => r.kind == .aecState)) = true) ∧
          keepsBut [.cp, .clp] s t) ∧
      (s.clp.canceller ≠ .converged ∨ s.clp.divergence = none → exec .divergenceTimerRunout s = .next s) ∧
      (isPlaying s = true → micUsable s .fl = true ∨ micUsable s .fr = true →
        exec (.noiseEstimate a b) s =
          .next (settle (receipt .cabinNoise
            (if micUsable s .fl = true ∧ micUsable s .fr = true then (a + b) / 2
            else if micUsable s .fl = true then a else b) s))) ∧
      (isPlaying s = false ∨ (micUsable s .fl = false ∧ micUsable s .fr = false) →
        exec (.noiseEstimate a b) s = .next s)

/-! ### The Output Stage (chapter 11) -/

/-- R159: LOAD_TEST's refusals in order, and the test's first channel in DIAG; each check's end counts the check and
keeps the first condition that registered; after the fourth the channel's result is stored, it takes the state its
fields give, and the next channel or LOAD_TEST_DONE follows. A command whose timer, settle or subject is not there
changes nothing (the model's choice, log 1). The unit of the time left of a check is the model's (log 15). That a
channel still in DIAG whose pair has just been bridged counts as BRIDGED in the second check of LOAD_TEST is the
model's choice (log 25). -/
def Obligations.LoadTestRunsItsChecks : Prop :=
  ∀ (s u : State) (hi lo : Byte) (l : List Amp) (registered : Bool),
    u = atRequest .loadTest s →
    l = Amp.all.filter (fun k => (nat16 hi lo).testBit k.val) →
    (u.sc.opState = .config →
        (nat16 hi lo = 0 ∨ 1024 ≤ nat16 hi lo ∨ (∃ k ∈ l, isBridgedEven u.install k = true) →
          exec (.loadTest [hi, lo]) s = .next (u.refusing .loadTest .outOfRange)) ∧
        (0 < nat16 hi lo → nat16 hi lo < 1024 → (∀ k ∈ l, isBridgedEven u.install k = false) →
          (u.os.loadTest ≠ none → exec (.loadTest [hi, lo]) s = .next (u.refusing .loadTest .busy)) ∧
          (u.os.loadTest = none → ∀ k : Amp, l.head? = some k →
            ∃ t, exec (.loadTest [hi, lo]) s = .next t ∧
              t.os.loadTest = some
                { set := l, waiting := l.drop 1, done := [], current := k, checks := 0, found := none
                  blanking := u.os.protection.blanking, remaining := checkTenths u.os.protection.blanking } ∧
              t.os.amps[k].state = .diag ∧ t.os.amps[k].result = u.os.amps[k].result ∧
              OnlyAmp { u with os := { u.os with loadTest := t.os.loadTest } } t k ∧ PassageHeard u t k ∧
              t.cp.reply = some ⟨0x31#8, .ok, []⟩ ∧ keepsBut [.cp, .clp, .os] u t))) ∧
      (s.os.loadTest = none → exec (.loadTestCheckEnd registered) s = .next s) ∧
      (∀ lt : LoadTest, s.os.loadTest = some lt →
        (lt.checks < 3 →
          exec (.loadTestCheckEnd registered) s =
            .next (settle { s with os := { s.os with loadTest := some { lt with
              checks := lt.checks + 1, remaining := checkTenths lt.blanking
              found := if lt.found = none ∧ registered = true then
                  [LoadResult.shortBat, .shortGnd, .shortedLoad][lt.checks]?
                else lt.found } } })) ∧
        (3 ≤ lt.checks → lt.current ∉ lt.waiting →
          ∃ t, exec (.loadTestCheckEnd registered) s = .next t ∧
            t.os.amps[lt.current].result =
              lt.found.getD (if registered = true then .openLoad else .ok) ∧
            t.os.amps[lt.current].state = installedState s.install lt.current ∧
            (lt.waiting = [] → t.os.loadTest = none ∧
              (s.cp.reports.length < 22 → (t.cp.reports.any (fun r => r.kind == .loadTestDone)) = true)) ∧
            (∀ k : Amp, lt.waiting.head? = some k →
              t.os.amps[k].state = .diag ∧
              t.os.loadTest = some
                { lt with
                  waiting := lt.waiting.drop 1, done := lt.done ++ [lt.current], current := k, checks := 0, found := none
                  blanking := s.os.protection.blanking, remaining := checkTenths s.os.protection.blanking }) ∧
            (∀ k : Amp, k ≠ lt.current → lt.waiting.head? ≠ some k → t.os.amps[k] = s.os.amps[k]) ∧
            { t.os with amps := s.os.amps, loadTest := s.os.loadTest } = s.os ∧
            (s.clp.canceller = .bypass → t.clp = s.clp) ∧ keepsBut [.cp, .clp, .os] s t))

/-- R156, R161: SET_PROTECTION stores its four settings, LIVE holding removing the kinds whose cause has ended;
GET_FAULTS reports every channel and, in LATCHED holding, then removes those kinds; RETRY_CHANNEL starts a
FAULT_LATCHED channel through an open gate. The layout of GET_FAULTS is the model's reading (log 4). -/
def Obligations.FaultsAreHeldAndCleared : Prop :=
  ∀ (s u1 u2 u3 : State) (tb x : Byte) (m : ProtectionMode) (f : FaultHolding) (bl : Blanking) (k : Amp),
    u1 = atRequest .setProtection s →
    u2 = atRequest .getFaults s →
    u3 = atRequest .retryChannel s →
    u1.sc.opState = .config ∨ u1.sc.opState = .run →
    (2 ≤ x.toNat →
        exec (.setProtection [x, tb, byte f.code, byte bl.code]) s = .next (u1.refusing .setProtection .outOfRange) ∧
          exec (.setProtection [byte m.code, tb, x, byte bl.code]) s = .next (u1.refusing .setProtection .outOfRange)) ∧
      (4 ≤ x.toNat →
        exec (.setProtection [byte m.code, tb, byte f.code, x]) s = .next (u1.refusing .setProtection .outOfRange)) ∧
      (∃ t, exec (.setProtection [byte m.code, tb, byte f.code, byte bl.code]) s = .next t ∧
        t.os.protection = { mode := m, tripMs := min (max tb.toNat 2) 64, holding := f, blanking := bl } ∧
        (∀ j : Amp, t.os.amps[j] = { u1.os.amps[j] with
          faults := if f = .live then u1.os.amps[j].faults.filter (fun y => u1.os.amps[j].causes.contains y)
            else u1.os.amps[j].faults }) ∧
        { t.os with amps := u1.os.amps, protection := u1.os.protection } = u1.os ∧
        t.cp.reply = some ⟨0x32#8, .ok, [byte m.code, byte (min (max tb.toNat 2) 64), byte f.code, byte bl.code]⟩ ∧
        keepsBut [.cp, .os] u1 t) ∧
      (∃ t, exec (.getFaults []) s = .next t ∧
        (∀ j : Amp, t.os.amps[j] = { u2.os.amps[j] with
          faults := if u2.os.protection.holding = .latched then
              u2.os.amps[j].faults.filter (fun y => u2.os.amps[j].causes.contains y)
            else u2.os.amps[j].faults }) ∧
        { t.os with amps := u2.os.amps } = u2.os ∧
        t.cp.reply = some ⟨0x36#8, .ok,
          (u2.os.amps.toList.map (fun a =>
            [byte a.state.code, byte a.result.code] ++ faultSetField a.faults ++
              faultSetField (a.faults.filter (fun y => a.causes.contains y)))).flatten ++
          (u2.os.douts.toList.map (fun d => byte d.code)) ++
          [byte u2.os.hps.hpl.code, byte u2.os.hps.hpr.code, byte u2.os.supply.code, byte u2.os.bank1.level,
            byte u2.os.bank1.shutdown.toNat, byte u2.os.bank2.level, byte u2.os.bank2.shutdown.toNat]⟩ ∧
        keepsBut [.cp, .os] u2 t) ∧
      (x = 0#8 ∨ 11 ≤ x.toNat → exec (.retryChannel [x]) s = .next (u3.refusing .retryChannel .outOfRange)) ∧
      (u3.os.amps[k].state ≠ .faultLatched →
        exec (.retryChannel [byte (k.val + 1)]) s = .next (u3.refusing .retryChannel .wrongState)) ∧
      (u3.os.amps[k].state = .faultLatched → gateOpen u3 k = false →
        exec (.retryChannel [byte (k.val + 1)]) s = .next (u3.refusing .retryChannel .busy)) ∧
      (u3.os.amps[k].state = .faultLatched → gateOpen u3 k = true →
        ∃ t, exec (.retryChannel [byte (k.val + 1)]) s = .next t ∧
          t.os.amps[k].state = .starting ∧ t.os.amps[k].soft = some 20 ∧ t.os.amps[k].trip = none ∧
          t.os.amps[k].restartMark = true ∧ t.os.amps[k].faults = u3.os.amps[k].faults ∧ OnlyAmp u3 t k ∧
          t.cp.reply = some ⟨0x34#8, .ok, []⟩ ∧ keepsBut [.cp, .os] u3 t)

/-- R138, R145, R160, R162, R163: CLEAR_FAULT releases a fitted headphone driver that is held off; SET_MONITOR
excludes the items it names and no bank or supply, ending the open timers and the microphone faults of the items
excluded. -/
def Obligations.DriversAndItemsAreReleased : Prop :=
  ∀ (s u w : State) (x b2 b1 b0 : Byte) (h : Hp) (n : Nat) (l : List Item),
    u = atRequest .clearFault s →
    w = atRequest .setMonitor s →
    n = b2.toNat * 65536 + nat16 b1 b0 →
    l = Item.all.filter (fun i => n.testBit (itemPlace i)) →
    u.sc.opState = .config ∨ u.sc.opState = .run →
    (x.toNat < 17 ∨ 19 ≤ x.toNat → exec (.clearFault [x]) s = .next (u.refusing .clearFault .outOfRange)) ∧
      (hpIsFitted u h = false →
        exec (.clearFault [byte (chanCode (.hp h))]) s = .next (u.refusing .clearFault .notFitted)) ∧
      (hpIsFitted u h = true → u.os.hps.get h ≠ .heldOff →
        exec (.clearFault [byte (chanCode (.hp h))]) s = .next (u.accepting .clearFault [])) ∧
      (hpIsFitted u h = true → u.os.hps.get h = .heldOff →
        exec (.clearFault [byte (chanCode (.hp h))]) s =
          .next (({ u with os := { u.os with
              hps := u.os.hps.set h (if u.sc.opState = .run then .on else .off) } } : State).accepting .clearFault [])) ∧
      (524288 ≤ n ∨ n.testBit 10 = true ∨ n.testBit 11 = true ∨ n.testBit 12 = true →
        exec (.setMonitor [b2, b1, b0]) s = .next (w.refusing .setMonitor .outOfRange)) ∧
      (n < 524288 → n.testBit 10 = false → n.testBit 11 = false → n.testBit 12 = false →
        ∃ t, exec (.setMonitor [b2, b1, b0]) s = .next t ∧ t.os.excluded = l ∧
          (∀ k : Amp,
            (n.testBit k.val = false → t.os.amps[k] = w.os.amps[k]) ∧
            (n.testBit k.val = true → t.os.amps[k] = { w.os.amps[k] with
              openTimer := none, causes := w.os.amps[k].causes.filter (fun f => f != .onOpenSuspect)
              faults := if w.os.protection.holding = .live then
                  w.os.amps[k].faults.filter (fun f => f != .onOpenSuspect)
                else w.os.amps[k].faults })) ∧
          { t.os with amps := w.os.amps, excluded := w.os.excluded } = w.os ∧
          (∀ j : Mic, t.clp.faulty.get j = (w.clp.faulty.get j && !n.testBit (itemPlace (.mic j)))) ∧
          (if t.clp.faulty = w.clp.faulty then t.clp = w.clp
          else t.clp = { w.clp with faulty := t.clp.faulty, selection := selectionOf t }) ∧
          t.cp.reply = some ⟨0x33#8, .ok, [b2, b1, b0]⟩ ∧ keepsBut [.cp, .clp, .os] w t)

/-- R73, R138, R145, R146, R153, R154, R157, R158, R160, R161, R162, R163: what a sample does to the block it belongs
to. A bank's temperature sets its level and its shutdown flag, and the supply its state, each with the channels it
shuts down, holds off or lets start and the kinds in their fault records, and each clamped as the Condition Unit's
held value; a microphone's bias its health and the selection, an amplifier's current its open timer, and a headphone's
short, which is found in RUN and FAILSAFE alone, holds its driver off; an item that is not sampled does nothing. A
command whose timer, settle or subject is not there changes nothing (the model's choice, log 1). When the cause of
ON_OPEN_SUSPECT ends, and the restart mark of a channel held off, are the model's readings (log 11), as is that a
driver which is ON in STANDBY is sampled and no short found on it (log 13). The room in the queue for THERMAL_LEVEL
and SUPPLY_STATE supposes the model's order of the reports (log 22). That SUPPLY_STATE carries a supply above 25.0 V
as 250 is the model's choice (log 17). -/
def Obligations.SamplesReachTheirBlocks : Prop :=
  ∀ (s : State) (x : Sample) (b : Bank) (temp : Int) (v : Nat) (m : Mic) (inside below : Bool) (h : Hp) (k : Amp)
    (out : Int) (lv met : Nat) (sd : Bool) (st : SupplyState),
    lv = (bankState s b).level →
    met = (if 160 ≤ temp then 3 else if 150 ≤ temp then 2 else if 140 ≤ temp then 1 else 0) →
    sd = (if 170 ≤ temp then true else if temp ≤ 135 then false else (bankState s b).shutdown) →
    st = (if v < 90 then .undervoltage else if 180 < v then .overvoltage
      else if s.os.supply = .undervoltage ∧ v < 95 then .undervoltage
      else if s.os.supply = .overvoltage ∧ 170 < v then .overvoltage else .normal) →
    (isSampled s (sampleItem x) = false → exec (.monitorSample x) s = .next s) ∧
      (s.sc.opState = .boot ∨ sampleItem x ∈ s.os.excluded → exec (.monitorSample x) s = .next s) ∧
      (isSampled s (.bank b) = true →
        ∃ t, exec (.monitorSample (.temperature b temp)) s = .next t ∧
          bankState t b = { level := if lv < met then met else if 0 < lv ∧ temp ≤ 125 + 10 * (lv : Int) then lv - 1 else lv
                            shutdown := sd } ∧
          (∀ c : Bank, c ≠ b → bankState t c = bankState s c) ∧
          heldValue t (match b with
            | .b1 => .tempBank1
            | .b2 => .tempBank2) = some (min (max temp (-40)) 175) ∧
          (s.cp.reports.length < 24 → bankState t b ≠ bankState s b →
            (t.cp.reports.any (fun r => r.kind == .thermalLevel)) = true) ∧
          (sd = (bankState s b).shutdown → ∀ j : Amp, t.os.amps[j] = s.os.amps[j]) ∧
          (sd = true → (bankState s b).shutdown = false → s.sc.opState ≠ .standby → ∀ j : Amp,
            (s.os.amps[j].state.running = true → b ∈ gateBanks s.install j →
              t.os.amps[j].state = (if s.os.protection.mode = .retry then .faultWait else .faultLatched) ∧
              (s.os.protection.mode = .retry → t.os.amps[j].startPending = true ∧ t.os.amps[j].restartMark = true) ∧
              FaultKind.thermalShutdown ∈ t.os.amps[j].faults ∧ t.os.amps[j].thermalBank = some b) ∧
            (s.os.amps[j].state.running = false ∨ b ∉ gateBanks s.install j → t.os.amps[j] = s.os.amps[j])) ∧
          (sd = false → (bankState s b).shutdown = true → ∀ j : Amp,
            (s.os.amps[j].startPending = true → gateOpen t j = true → s.sc.opState ≠ .standby →
              t.os.amps[j].state = .starting ∧ t.os.amps[j].startPending = false) ∧
            (s.os.amps[j].startPending = false ∨ gateOpen t j = false → t.os.amps[j].state = s.os.amps[j].state) ∧
            (s.os.amps[j].thermalBank = some b → FaultKind.thermalShutdown ∉ t.os.amps[j].causes) ∧
            (s.os.amps[j].thermalBank ≠ some b → t.os.amps[j].causes = s.os.amps[j].causes ∧
              t.os.amps[j].faults = s.os.amps[j].faults)) ∧
          keepsBut [.cp, .cu, .clp, .os] s t) ∧
      (isSampled s .supply = true →
        ∃ t, exec (.monitorSample (.supply v)) s = .next t ∧ t.os.supply = st ∧
          heldValue t .supply = some (min v 250 : Nat) ∧
          (st ≠ s.os.supply → s.cp.reports.length < 24 →
            (t.cp.reports.any (fun r => r.kind == .supplyState && r.data == reportData [byte st.code, byte (min v 250)])) =
              true) ∧
          (st = .overvoltage → s.os.supply ≠ .overvoltage → s.sc.opState ≠ .standby → ∀ j : Amp,
            (s.os.amps[j].state.running = true →
              t.os.amps[j].state = .off ∧ t.os.amps[j].startPending = true ∧ FaultKind.ovHold ∈ t.os.amps[j].faults) ∧
            (s.os.amps[j].state.running = false → t.os.amps[j] = s.os.amps[j])) ∧
          (st ≠ .overvoltage → s.os.supply = .overvoltage → s.sc.opState ≠ .standby → ∀ j : Amp,
            (s.os.amps[j].startPending = true → gateOpen t j = true → t.os.amps[j].state = .starting) ∧
            (s.os.amps[j].startPending = false → t.os.amps[j].state = s.os.amps[j].state)) ∧
          ((st = .overvoltage ↔ s.os.supply = .overvoltage) → t.os = { s.os with supply := st }) ∧
          keepsBut [.cp, .cu, .clp, .os] s t) ∧
      (isSampled s (.mic m) = true →
        ∃ t, exec (.monitorSample (.micBias m inside)) s = .next t ∧ t.clp.faulty = s.clp.faulty.set m (!inside) ∧
          (s.clp.faulty.get m = !inside → t.clp = s.clp ∧ t.cp = s.cp) ∧
          (s.clp.faulty.get m = inside →
            t.clp = { s.clp with faulty := s.clp.faulty.set m (!inside), selection := selectionOf t } ∧
            (inside = false → s.cp.reports.length < 24 →
              (t.cp.reports.any (fun r => r.kind == .micFault)) = true)) ∧
          keepsBut [.cp, .clp] s t) ∧
      (isSampled s (.hp h) = true →
        exec (.monitorSample (.hpCurrent h false)) s = .next (settle s) ∧
          (s.sc.opState ∈ [OpState.boot, .config, .standby] →
            exec (.monitorSample (.hpCurrent h true)) s = .next (settle s)) ∧
          (s.sc.opState ∈ [OpState.run, .failsafe] →
            ∃ t, exec (.monitorSample (.hpCurrent h true)) s = .next t ∧
              t.os = { s.os with hps := s.os.hps.set h .heldOff } ∧
              (s.cp.reports.length < 24 → Told t .headphoneShort (zoneCode (.hp h))
                (bit (s.zr.hps.get h).jack ++ sourceField (s.zr.hps.get h).base)) ∧
              keepsBut [.cp, .os] s t)) ∧
      (isSampled s (.amp k) = true →
        ∃ t, exec (.monitorSample (.ampCurrent k below out)) s = .next t ∧
          (s.os.amps[k].state = .on →
            t.os.amps[k].openTimer =
              if below = true ∧ -20 < out then some (s.os.amps[k].openTimer.getD 2000) else none) ∧
          (s.os.amps[k].state ≠ .on → t.os.amps[k].openTimer = s.os.amps[k].openTimer) ∧
          (below = false → FaultKind.onOpenSuspect ∉ t.os.amps[k].causes) ∧
          t.os.amps[k].state = s.os.amps[k].state ∧ OnlyAmp s t k ∧ keepsBut [.os] s t)

/-- R149, R154, R155, R160, R161: the amplifier channels' own events. The limit's engagement starts the trip timer and
its release ends it; the soft start ends in ON or LIMITING; the trip timer's run-out shuts the channel down with
CHANNEL_FAULT; the retry timer's starts it again; the open timer's reports ON_OPEN_SUSPECT. A command whose timer,
settle or subject is not there changes nothing (the model's choice, log 1). That the outage time in CHANNEL_RECOVERED
is rounded down is the model's choice (log 23). What a retry through a closed gate leaves, and the layouts of the
reports, are the model's readings (logs 4 and 11). -/
def Obligations.AmplifiersProtectThemselves : Prop :=
  ∀ (s : State) (k : Amp) (a : AmpChannel),
    a = s.os.amps[k] →
    (a.state ≠ .starting → a.state ≠ .on → exec (.limitEngage k) s = .next s) ∧
      (a.state = .starting ∨ a.state = .on →
        ∃ t, exec (.limitEngage k) s = .next t ∧
          t.os.amps[k].state = (if a.state = .on then .limiting else .starting) ∧
          t.os.amps[k].trip = some s.os.protection.tripMs ∧ t.os.amps[k].openTimer = none ∧
          t.os.amps[k].soft = a.soft ∧ t.os.amps[k].faults = a.faults ∧ OnlyAmp s t k ∧ keepsBut [.os] s t) ∧
      (a.state ≠ .starting → a.state ≠ .limiting → exec (.limitRelease k) s = .next s) ∧
      (a.state = .starting →
        ∃ t, exec (.limitRelease k) s = .next t ∧ t.os.amps[k].state = .starting ∧ t.os.amps[k].trip = none ∧
          t.os.amps[k].soft = a.soft ∧ t.os.amps[k].faults = a.faults ∧ OnlyAmp s t k ∧ keepsBut [.os] s t) ∧
      (a.state = .limiting →
        ∃ t, exec (.limitRelease k) s = .next t ∧ t.os.amps[k].state = .on ∧ t.os.amps[k].trip = none ∧
          t.os.amps[k].restartMark = false ∧ FaultKind.overcurrentTrip ∉ t.os.amps[k].causes ∧
          (a.restartMark = false → t.cp = s.cp) ∧ OnlyAmp s t k ∧ keepsBut [.cp, .os] s t) ∧
      (a.state ≠ .starting ∨ a.soft = none → exec (.softStartEnd k) s = .next s) ∧
      (a.state = .starting → a.soft ≠ none →
        ∃ t, exec (.softStartEnd k) s = .next t ∧
          t.os.amps[k].state = (if a.trip = none then .on else .limiting) ∧ t.os.amps[k].soft = none ∧
          t.os.amps[k].trip = a.trip ∧
          (a.trip = none → t.os.amps[k].restartMark = false ∧ t.os.amps[k].outage = none ∧
            (a.restartMark = true → s.cp.reports.length < 23 →
              Told t .channelRecovered (k.val + 1) (codeField (a.outage.map (fun n => min (n / 10) 65535))))) ∧
          PassageHeard s t k ∧ OnlyAmp s t k ∧ keepsBut [.cp, .clp, .os] s t) ∧
      ((a.state ≠ .starting ∧ a.state ≠ .limiting) ∨ a.trip = none → exec (.tripTimerRunout k) s = .next s) ∧
      (a.state = .starting ∨ a.state = .limiting → a.trip ≠ none →
        ∃ t, exec (.tripTimerRunout k) s = .next t ∧
          t.os.amps[k].state =
            (if s.sc.opState = .standby then .off
            else if s.os.protection.mode = .retry then .faultWait else .faultLatched) ∧
          (s.sc.opState ≠ .standby → s.os.protection.mode = .retry → t.os.amps[k].retry = some 1000) ∧
          t.os.amps[k].trip = none ∧ t.os.amps[k].soft = none ∧ t.os.amps[k].outage = some 0 ∧
          FaultKind.overcurrentTrip ∈ t.os.amps[k].faults ∧ FaultKind.overcurrentTrip ∈ t.os.amps[k].causes ∧
          (s.cp.reports.length < 23 → Told t .channelFault (k.val + 1)
            ([byte t.os.amps[k].state.code, byte FaultKind.overcurrentTrip.code] ++ faultSetField t.os.amps[k].faults)) ∧
          PassageHeard s t k ∧ OnlyAmp s t k ∧ keepsBut [.cp, .clp, .os] s t) ∧
      (a.state ≠ .faultWait ∨ a.retry = none → exec (.retryTimerRunout k) s = .next s) ∧
      (a.state = .faultWait → a.retry ≠ none → s.sc.opState ≠ .standby →
        ∃ t, exec (.retryTimerRunout k) s = .next t ∧
          (if gateOpen s k = true then t.os.amps[k].state = .starting ∧ t.os.amps[k].soft = some 20
          else t.os.amps[k].state = .faultWait ∧ t.os.amps[k].startPending = true) ∧
          t.os.amps[k].retry = none ∧ t.os.amps[k].restartMark = true ∧ OnlyAmp s t k ∧ keepsBut [.os] s t) ∧
      (a.state ≠ .on ∨ a.openTimer = none → exec (.openTimerRunout k) s = .next s) ∧
      (a.state = .on → a.openTimer ≠ none →
        ∃ t, exec (.openTimerRunout k) s = .next t ∧ t.os.amps[k].openTimer = none ∧
          t.os.amps[k].state = .on ∧ FaultKind.onOpenSuspect ∈ t.os.amps[k].faults ∧
          (s.cp.reports.length < 24 → Told t .onOpenSuspect (k.val + 1) (placeField s k)) ∧
          OnlyAmp s t k ∧ keepsBut [.cp, .os] s t)

/-! ### The whole part -/

/-- R25, R36, R38, R81, R135: every step keeps every zone setting and every safety field in its range, and pattern
memory in its one form. -/
def Obligations.SettingsStayInRange : Prop :=
  ∀ (s t : State),
    Sys2Proof.Machine.step s = .next t →
    (SettingsOk s → SettingsOk t) ∧ (SafetyOk s → SafetyOk t) ∧ (PatternsOk s → PatternsOk t)

/-- R100, R109, R115, R122, R146, R149: every step keeps the station list in order and every station on its grid, RX-B
held by REAR_LISTEN exactly while a headphone zone has BGT and CHECKING while AF_CHECK holds it, the canceller running
exactly while a cabin call is in progress, and the uplink selection the one the route, the policy and the microphones
give. -/
def Obligations.ReceptionAndCallsStayInOrder : Prop :=
  ∀ (s t : State),
    Sys2Proof.Machine.step s = .next t →
    (ReceptionOk s → ReceptionOk t) ∧ (HolderOk s → HolderOk t) ∧ (CallOk s → CallOk t)

/-- Every invariant of the statements above holds of the part right after a power-on reset. -/
def Obligations.InvariantsHoldAtReset : Prop :=
  QueueOk State.reset ∧ ListsOk State.reset ∧ GainsCurrent State.reset ∧ ChimesOk State.reset ∧
    ChimeOrderOk State.reset ∧ EntriesFollow State.reset ∧ CallOk State.reset ∧ HolderOk State.reset ∧
    ReceptionOk State.reset ∧ SettingsOk State.reset ∧ SafetyOk State.reset ∧ PatternsOk State.reset ∧
    StatesOk State.reset ∧ ChannelsOk State.reset
end

