-- ==== Sys2Proof/Laws/State.lean ====
section
/-! SUPPORT. One lemma per block per update of the state, each true by definition, so that no later proof unfolds a
record update. -/

namespace Sys2Proof.Machine

@[simp] theorem State.modCp_cp (s : State) (g : ControlPort → ControlPort) : (s.modCp g).cp = g s.cp := rfl
@[simp] theorem State.modCp_sc (s : State) (g : ControlPort → ControlPort) : (s.modCp g).sc = s.sc := rfl
@[simp] theorem State.modCp_install (s : State) (g : ControlPort → ControlPort) : (s.modCp g).install = s.install := rfl
@[simp] theorem State.modCp_safety (s : State) (g : ControlPort → ControlPort) : (s.modCp g).safety = s.safety := rfl
@[simp] theorem State.modCp_zr (s : State) (g : ControlPort → ControlPort) : (s.modCp g).zr = s.zr := rfl
@[simp] theorem State.modCp_ge (s : State) (g : ControlPort → ControlPort) : (s.modCp g).ge = s.ge := rfl
@[simp] theorem State.modCp_cu (s : State) (g : ControlPort → ControlPort) : (s.modCp g).cu = s.cu := rfl
@[simp] theorem State.modCp_patterns (s : State) (g : ControlPort → ControlPort) : (s.modCp g).patterns = s.patterns := rfl
@[simp] theorem State.modCp_chimes (s : State) (g : ControlPort → ControlPort) : (s.modCp g).chimes = s.chimes := rfl
@[simp] theorem State.modCp_rx (s : State) (g : ControlPort → ControlPort) : (s.modCp g).rx = s.rx := rfl
@[simp] theorem State.modCp_slm (s : State) (g : ControlPort → ControlPort) : (s.modCp g).slm = s.slm := rfl
@[simp] theorem State.modCp_af (s : State) (g : ControlPort → ControlPort) : (s.modCp g).af = s.af := rfl
@[simp] theorem State.modCp_tw (s : State) (g : ControlPort → ControlPort) : (s.modCp g).tw = s.tw := rfl
@[simp] theorem State.modCp_clp (s : State) (g : ControlPort → ControlPort) : (s.modCp g).clp = s.clp := rfl
@[simp] theorem State.modCp_os (s : State) (g : ControlPort → ControlPort) : (s.modCp g).os = s.os := rfl
@[simp] theorem State.modCp_pins (s : State) (g : ControlPort → ControlPort) : (s.modCp g).pins = s.pins := rfl
@[simp] theorem State.modCp_pending (s : State) (g : ControlPort → ControlPort) : (s.modCp g).pending = s.pending := rfl

@[simp] theorem State.modSc_cp (s : State) (g : Controller → Controller) : (s.modSc g).cp = s.cp := rfl
@[simp] theorem State.modSc_sc (s : State) (g : Controller → Controller) : (s.modSc g).sc = g s.sc := rfl
@[simp] theorem State.modSc_install (s : State) (g : Controller → Controller) : (s.modSc g).install = s.install := rfl
@[simp] theorem State.modSc_safety (s : State) (g : Controller → Controller) : (s.modSc g).safety = s.safety := rfl
@[simp] theorem State.modSc_zr (s : State) (g : Controller → Controller) : (s.modSc g).zr = s.zr := rfl
@[simp] theorem State.modSc_ge (s : State) (g : Controller → Controller) : (s.modSc g).ge = s.ge := rfl
@[simp] theorem State.modSc_cu (s : State) (g : Controller → Controller) : (s.modSc g).cu = s.cu := rfl
@[simp] theorem State.modSc_patterns (s : State) (g : Controller → Controller) : (s.modSc g).patterns = s.patterns := rfl
@[simp] theorem State.modSc_chimes (s : State) (g : Controller → Controller) : (s.modSc g).chimes = s.chimes := rfl
@[simp] theorem State.modSc_rx (s : State) (g : Controller → Controller) : (s.modSc g).rx = s.rx := rfl
@[simp] theorem State.modSc_slm (s : State) (g : Controller → Controller) : (s.modSc g).slm = s.slm := rfl
@[simp] theorem State.modSc_af (s : State) (g : Controller → Controller) : (s.modSc g).af = s.af := rfl
@[simp] theorem State.modSc_tw (s : State) (g : Controller → Controller) : (s.modSc g).tw = s.tw := rfl
@[simp] theorem State.modSc_clp (s : State) (g : Controller → Controller) : (s.modSc g).clp = s.clp := rfl
@[simp] theorem State.modSc_os (s : State) (g : Controller → Controller) : (s.modSc g).os = s.os := rfl
@[simp] theorem State.modSc_pins (s : State) (g : Controller → Controller) : (s.modSc g).pins = s.pins := rfl
@[simp] theorem State.modSc_pending (s : State) (g : Controller → Controller) : (s.modSc g).pending = s.pending := rfl

@[simp] theorem State.modInstall_cp (s : State) (g : Install → Install) : (s.modInstall g).cp = s.cp := rfl
@[simp] theorem State.modInstall_sc (s : State) (g : Install → Install) : (s.modInstall g).sc = s.sc := rfl
@[simp] theorem State.modInstall_install (s : State) (g : Install → Install) : (s.modInstall g).install = g s.install := rfl
@[simp] theorem State.modInstall_safety (s : State) (g : Install → Install) : (s.modInstall g).safety = s.safety := rfl
@[simp] theorem State.modInstall_zr (s : State) (g : Install → Install) : (s.modInstall g).zr = s.zr := rfl
@[simp] theorem State.modInstall_ge (s : State) (g : Install → Install) : (s.modInstall g).ge = s.ge := rfl
@[simp] theorem State.modInstall_cu (s : State) (g : Install → Install) : (s.modInstall g).cu = s.cu := rfl
@[simp] theorem State.modInstall_patterns (s : State) (g : Install → Install) : (s.modInstall g).patterns = s.patterns := rfl
@[simp] theorem State.modInstall_chimes (s : State) (g : Install → Install) : (s.modInstall g).chimes = s.chimes := rfl
@[simp] theorem State.modInstall_rx (s : State) (g : Install → Install) : (s.modInstall g).rx = s.rx := rfl
@[simp] theorem State.modInstall_slm (s : State) (g : Install → Install) : (s.modInstall g).slm = s.slm := rfl
@[simp] theorem State.modInstall_af (s : State) (g : Install → Install) : (s.modInstall g).af = s.af := rfl
@[simp] theorem State.modInstall_tw (s : State) (g : Install → Install) : (s.modInstall g).tw = s.tw := rfl
@[simp] theorem State.modInstall_clp (s : State) (g : Install → Install) : (s.modInstall g).clp = s.clp := rfl
@[simp] theorem State.modInstall_os (s : State) (g : Install → Install) : (s.modInstall g).os = s.os := rfl
@[simp] theorem State.modInstall_pins (s : State) (g : Install → Install) : (s.modInstall g).pins = s.pins := rfl
@[simp] theorem State.modInstall_pending (s : State) (g : Install → Install) : (s.modInstall g).pending = s.pending := rfl

@[simp] theorem State.modSafety_cp (s : State) (g : Safety → Safety) : (s.modSafety g).cp = s.cp := rfl
@[simp] theorem State.modSafety_sc (s : State) (g : Safety → Safety) : (s.modSafety g).sc = s.sc := rfl
@[simp] theorem State.modSafety_install (s : State) (g : Safety → Safety) : (s.modSafety g).install = s.install := rfl
@[simp] theorem State.modSafety_safety (s : State) (g : Safety → Safety) : (s.modSafety g).safety = g s.safety := rfl
@[simp] theorem State.modSafety_zr (s : State) (g : Safety → Safety) : (s.modSafety g).zr = s.zr := rfl
@[simp] theorem State.modSafety_ge (s : State) (g : Safety → Safety) : (s.modSafety g).ge = s.ge := rfl
@[simp] theorem State.modSafety_cu (s : State) (g : Safety → Safety) : (s.modSafety g).cu = s.cu := rfl
@[simp] theorem State.modSafety_patterns (s : State) (g : Safety → Safety) : (s.modSafety g).patterns = s.patterns := rfl
@[simp] theorem State.modSafety_chimes (s : State) (g : Safety → Safety) : (s.modSafety g).chimes = s.chimes := rfl
@[simp] theorem State.modSafety_rx (s : State) (g : Safety → Safety) : (s.modSafety g).rx = s.rx := rfl
@[simp] theorem State.modSafety_slm (s : State) (g : Safety → Safety) : (s.modSafety g).slm = s.slm := rfl
@[simp] theorem State.modSafety_af (s : State) (g : Safety → Safety) : (s.modSafety g).af = s.af := rfl
@[simp] theorem State.modSafety_tw (s : State) (g : Safety → Safety) : (s.modSafety g).tw = s.tw := rfl
@[simp] theorem State.modSafety_clp (s : State) (g : Safety → Safety) : (s.modSafety g).clp = s.clp := rfl
@[simp] theorem State.modSafety_os (s : State) (g : Safety → Safety) : (s.modSafety g).os = s.os := rfl
@[simp] theorem State.modSafety_pins (s : State) (g : Safety → Safety) : (s.modSafety g).pins = s.pins := rfl
@[simp] theorem State.modSafety_pending (s : State) (g : Safety → Safety) : (s.modSafety g).pending = s.pending := rfl

@[simp] theorem State.modZr_cp (s : State) (g : ZoneRouter → ZoneRouter) : (s.modZr g).cp = s.cp := rfl
@[simp] theorem State.modZr_sc (s : State) (g : ZoneRouter → ZoneRouter) : (s.modZr g).sc = s.sc := rfl
@[simp] theorem State.modZr_install (s : State) (g : ZoneRouter → ZoneRouter) : (s.modZr g).install = s.install := rfl
@[simp] theorem State.modZr_safety (s : State) (g : ZoneRouter → ZoneRouter) : (s.modZr g).safety = s.safety := rfl
@[simp] theorem State.modZr_zr (s : State) (g : ZoneRouter → ZoneRouter) : (s.modZr g).zr = g s.zr := rfl
@[simp] theorem State.modZr_ge (s : State) (g : ZoneRouter → ZoneRouter) : (s.modZr g).ge = s.ge := rfl
@[simp] theorem State.modZr_cu (s : State) (g : ZoneRouter → ZoneRouter) : (s.modZr g).cu = s.cu := rfl
@[simp] theorem State.modZr_patterns (s : State) (g : ZoneRouter → ZoneRouter) : (s.modZr g).patterns = s.patterns := rfl
@[simp] theorem State.modZr_chimes (s : State) (g : ZoneRouter → ZoneRouter) : (s.modZr g).chimes = s.chimes := rfl
@[simp] theorem State.modZr_rx (s : State) (g : ZoneRouter → ZoneRouter) : (s.modZr g).rx = s.rx := rfl
@[simp] theorem State.modZr_slm (s : State) (g : ZoneRouter → ZoneRouter) : (s.modZr g).slm = s.slm := rfl
@[simp] theorem State.modZr_af (s : State) (g : ZoneRouter → ZoneRouter) : (s.modZr g).af = s.af := rfl
@[simp] theorem State.modZr_tw (s : State) (g : ZoneRouter → ZoneRouter) : (s.modZr g).tw = s.tw := rfl
@[simp] theorem State.modZr_clp (s : State) (g : ZoneRouter → ZoneRouter) : (s.modZr g).clp = s.clp := rfl
@[simp] theorem State.modZr_os (s : State) (g : ZoneRouter → ZoneRouter) : (s.modZr g).os = s.os := rfl
@[simp] theorem State.modZr_pins (s : State) (g : ZoneRouter → ZoneRouter) : (s.modZr g).pins = s.pins := rfl
@[simp] theorem State.modZr_pending (s : State) (g : ZoneRouter → ZoneRouter) : (s.modZr g).pending = s.pending := rfl

@[simp] theorem State.modGe_cp (s : State) (g : GainEngine → GainEngine) : (s.modGe g).cp = s.cp := rfl
@[simp] theorem State.modGe_sc (s : State) (g : GainEngine → GainEngine) : (s.modGe g).sc = s.sc := rfl
@[simp] theorem State.modGe_install (s : State) (g : GainEngine → GainEngine) : (s.modGe g).install = s.install := rfl
@[simp] theorem State.modGe_safety (s : State) (g : GainEngine → GainEngine) : (s.modGe g).safety = s.safety := rfl
@[simp] theorem State.modGe_zr (s : State) (g : GainEngine → GainEngine) : (s.modGe g).zr = s.zr := rfl
@[simp] theorem State.modGe_ge (s : State) (g : GainEngine → GainEngine) : (s.modGe g).ge = g s.ge := rfl
@[simp] theorem State.modGe_cu (s : State) (g : GainEngine → GainEngine) : (s.modGe g).cu = s.cu := rfl
@[simp] theorem State.modGe_patterns (s : State) (g : GainEngine → GainEngine) : (s.modGe g).patterns = s.patterns := rfl
@[simp] theorem State.modGe_chimes (s : State) (g : GainEngine → GainEngine) : (s.modGe g).chimes = s.chimes := rfl
@[simp] theorem State.modGe_rx (s : State) (g : GainEngine → GainEngine) : (s.modGe g).rx = s.rx := rfl
@[simp] theorem State.modGe_slm (s : State) (g : GainEngine → GainEngine) : (s.modGe g).slm = s.slm := rfl
@[simp] theorem State.modGe_af (s : State) (g : GainEngine → GainEngine) : (s.modGe g).af = s.af := rfl
@[simp] theorem State.modGe_tw (s : State) (g : GainEngine → GainEngine) : (s.modGe g).tw = s.tw := rfl
@[simp] theorem State.modGe_clp (s : State) (g : GainEngine → GainEngine) : (s.modGe g).clp = s.clp := rfl
@[simp] theorem State.modGe_os (s : State) (g : GainEngine → GainEngine) : (s.modGe g).os = s.os := rfl
@[simp] theorem State.modGe_pins (s : State) (g : GainEngine → GainEngine) : (s.modGe g).pins = s.pins := rfl
@[simp] theorem State.modGe_pending (s : State) (g : GainEngine → GainEngine) : (s.modGe g).pending = s.pending := rfl

@[simp] theorem State.modCu_cp (s : State) (g : ConditionUnit → ConditionUnit) : (s.modCu g).cp = s.cp := rfl
@[simp] theorem State.modCu_sc (s : State) (g : ConditionUnit → ConditionUnit) : (s.modCu g).sc = s.sc := rfl
@[simp] theorem State.modCu_install (s : State) (g : ConditionUnit → ConditionUnit) : (s.modCu g).install = s.install := rfl
@[simp] theorem State.modCu_safety (s : State) (g : ConditionUnit → ConditionUnit) : (s.modCu g).safety = s.safety := rfl
@[simp] theorem State.modCu_zr (s : State) (g : ConditionUnit → ConditionUnit) : (s.modCu g).zr = s.zr := rfl
@[simp] theorem State.modCu_ge (s : State) (g : ConditionUnit → ConditionUnit) : (s.modCu g).ge = s.ge := rfl
@[simp] theorem State.modCu_cu (s : State) (g : ConditionUnit → ConditionUnit) : (s.modCu g).cu = g s.cu := rfl
@[simp] theorem State.modCu_patterns (s : State) (g : ConditionUnit → ConditionUnit) : (s.modCu g).patterns = s.patterns := rfl
@[simp] theorem State.modCu_chimes (s : State) (g : ConditionUnit → ConditionUnit) : (s.modCu g).chimes = s.chimes := rfl
@[simp] theorem State.modCu_rx (s : State) (g : ConditionUnit → ConditionUnit) : (s.modCu g).rx = s.rx := rfl
@[simp] theorem State.modCu_slm (s : State) (g : ConditionUnit → ConditionUnit) : (s.modCu g).slm = s.slm := rfl
@[simp] theorem State.modCu_af (s : State) (g : ConditionUnit → ConditionUnit) : (s.modCu g).af = s.af := rfl
@[simp] theorem State.modCu_tw (s : State) (g : ConditionUnit → ConditionUnit) : (s.modCu g).tw = s.tw := rfl
@[simp] theorem State.modCu_clp (s : State) (g : ConditionUnit → ConditionUnit) : (s.modCu g).clp = s.clp := rfl
@[simp] theorem State.modCu_os (s : State) (g : ConditionUnit → ConditionUnit) : (s.modCu g).os = s.os := rfl
@[simp] theorem State.modCu_pins (s : State) (g : ConditionUnit → ConditionUnit) : (s.modCu g).pins = s.pins := rfl
@[simp] theorem State.modCu_pending (s : State) (g : ConditionUnit → ConditionUnit) : (s.modCu g).pending = s.pending := rfl

@[simp] theorem State.modPatterns_cp (s : State) (g : PatternStore → PatternStore) : (s.modPatterns g).cp = s.cp := rfl
@[simp] theorem State.modPatterns_sc (s : State) (g : PatternStore → PatternStore) : (s.modPatterns g).sc = s.sc := rfl
@[simp] theorem State.modPatterns_install (s : State) (g : PatternStore → PatternStore) : (s.modPatterns g).install = s.install := rfl
@[simp] theorem State.modPatterns_safety (s : State) (g : PatternStore → PatternStore) : (s.modPatterns g).safety = s.safety := rfl
@[simp] theorem State.modPatterns_zr (s : State) (g : PatternStore → PatternStore) : (s.modPatterns g).zr = s.zr := rfl
@[simp] theorem State.modPatterns_ge (s : State) (g : PatternStore → PatternStore) : (s.modPatterns g).ge = s.ge := rfl
@[simp] theorem State.modPatterns_cu (s : State) (g : PatternStore → PatternStore) : (s.modPatterns g).cu = s.cu := rfl
@[simp] theorem State.modPatterns_patterns (s : State) (g : PatternStore → PatternStore) : (s.modPatterns g).patterns = g s.patterns := rfl
@[simp] theorem State.modPatterns_chimes (s : State) (g : PatternStore → PatternStore) : (s.modPatterns g).chimes = s.chimes := rfl
@[simp] theorem State.modPatterns_rx (s : State) (g : PatternStore → PatternStore) : (s.modPatterns g).rx = s.rx := rfl
@[simp] theorem State.modPatterns_slm (s : State) (g : PatternStore → PatternStore) : (s.modPatterns g).slm = s.slm := rfl
@[simp] theorem State.modPatterns_af (s : State) (g : PatternStore → PatternStore) : (s.modPatterns g).af = s.af := rfl
@[simp] theorem State.modPatterns_tw (s : State) (g : PatternStore → PatternStore) : (s.modPatterns g).tw = s.tw := rfl
@[simp] theorem State.modPatterns_clp (s : State) (g : PatternStore → PatternStore) : (s.modPatterns g).clp = s.clp := rfl
@[simp] theorem State.modPatterns_os (s : State) (g : PatternStore → PatternStore) : (s.modPatterns g).os = s.os := rfl
@[simp] theorem State.modPatterns_pins (s : State) (g : PatternStore → PatternStore) : (s.modPatterns g).pins = s.pins := rfl
@[simp] theorem State.modPatterns_pending (s : State) (g : PatternStore → PatternStore) : (s.modPatterns g).pending = s.pending := rfl

@[simp] theorem State.modChimes_cp (s : State) (g : ChimeUnit → ChimeUnit) : (s.modChimes g).cp = s.cp := rfl
@[simp] theorem State.modChimes_sc (s : State) (g : ChimeUnit → ChimeUnit) : (s.modChimes g).sc = s.sc := rfl
@[simp] theorem State.modChimes_install (s : State) (g : ChimeUnit → ChimeUnit) : (s.modChimes g).install = s.install := rfl
@[simp] theorem State.modChimes_safety (s : State) (g : ChimeUnit → ChimeUnit) : (s.modChimes g).safety = s.safety := rfl
@[simp] theorem State.modChimes_zr (s : State) (g : ChimeUnit → ChimeUnit) : (s.modChimes g).zr = s.zr := rfl
@[simp] theorem State.modChimes_ge (s : State) (g : ChimeUnit → ChimeUnit) : (s.modChimes g).ge = s.ge := rfl
@[simp] theorem State.modChimes_cu (s : State) (g : ChimeUnit → ChimeUnit) : (s.modChimes g).cu = s.cu := rfl
@[simp] theorem State.modChimes_patterns (s : State) (g : ChimeUnit → ChimeUnit) : (s.modChimes g).patterns = s.patterns := rfl
@[simp] theorem State.modChimes_chimes (s : State) (g : ChimeUnit → ChimeUnit) : (s.modChimes g).chimes = g s.chimes := rfl
@[simp] theorem State.modChimes_rx (s : State) (g : ChimeUnit → ChimeUnit) : (s.modChimes g).rx = s.rx := rfl
@[simp] theorem State.modChimes_slm (s : State) (g : ChimeUnit → ChimeUnit) : (s.modChimes g).slm = s.slm := rfl
@[simp] theorem State.modChimes_af (s : State) (g : ChimeUnit → ChimeUnit) : (s.modChimes g).af = s.af := rfl
@[simp] theorem State.modChimes_tw (s : State) (g : ChimeUnit → ChimeUnit) : (s.modChimes g).tw = s.tw := rfl
@[simp] theorem State.modChimes_clp (s : State) (g : ChimeUnit → ChimeUnit) : (s.modChimes g).clp = s.clp := rfl
@[simp] theorem State.modChimes_os (s : State) (g : ChimeUnit → ChimeUnit) : (s.modChimes g).os = s.os := rfl
@[simp] theorem State.modChimes_pins (s : State) (g : ChimeUnit → ChimeUnit) : (s.modChimes g).pins = s.pins := rfl
@[simp] theorem State.modChimes_pending (s : State) (g : ChimeUnit → ChimeUnit) : (s.modChimes g).pending = s.pending := rfl

@[simp] theorem State.modRx_cp (s : State) (g : Receivers → Receivers) : (s.modRx g).cp = s.cp := rfl
@[simp] theorem State.modRx_sc (s : State) (g : Receivers → Receivers) : (s.modRx g).sc = s.sc := rfl
@[simp] theorem State.modRx_install (s : State) (g : Receivers → Receivers) : (s.modRx g).install = s.install := rfl
@[simp] theorem State.modRx_safety (s : State) (g : Receivers → Receivers) : (s.modRx g).safety = s.safety := rfl
@[simp] theorem State.modRx_zr (s : State) (g : Receivers → Receivers) : (s.modRx g).zr = s.zr := rfl
@[simp] theorem State.modRx_ge (s : State) (g : Receivers → Receivers) : (s.modRx g).ge = s.ge := rfl
@[simp] theorem State.modRx_cu (s : State) (g : Receivers → Receivers) : (s.modRx g).cu = s.cu := rfl
@[simp] theorem State.modRx_patterns (s : State) (g : Receivers → Receivers) : (s.modRx g).patterns = s.patterns := rfl
@[simp] theorem State.modRx_chimes (s : State) (g : Receivers → Receivers) : (s.modRx g).chimes = s.chimes := rfl
@[simp] theorem State.modRx_rx (s : State) (g : Receivers → Receivers) : (s.modRx g).rx = g s.rx := rfl
@[simp] theorem State.modRx_slm (s : State) (g : Receivers → Receivers) : (s.modRx g).slm = s.slm := rfl
@[simp] theorem State.modRx_af (s : State) (g : Receivers → Receivers) : (s.modRx g).af = s.af := rfl
@[simp] theorem State.modRx_tw (s : State) (g : Receivers → Receivers) : (s.modRx g).tw = s.tw := rfl
@[simp] theorem State.modRx_clp (s : State) (g : Receivers → Receivers) : (s.modRx g).clp = s.clp := rfl
@[simp] theorem State.modRx_os (s : State) (g : Receivers → Receivers) : (s.modRx g).os = s.os := rfl
@[simp] theorem State.modRx_pins (s : State) (g : Receivers → Receivers) : (s.modRx g).pins = s.pins := rfl
@[simp] theorem State.modRx_pending (s : State) (g : Receivers → Receivers) : (s.modRx g).pending = s.pending := rfl

@[simp] theorem State.modSlm_cp (s : State) (g : StationManager → StationManager) : (s.modSlm g).cp = s.cp := rfl
@[simp] theorem State.modSlm_sc (s : State) (g : StationManager → StationManager) : (s.modSlm g).sc = s.sc := rfl
@[simp] theorem State.modSlm_install (s : State) (g : StationManager → StationManager) : (s.modSlm g).install = s.install := rfl
@[simp] theorem State.modSlm_safety (s : State) (g : StationManager → StationManager) : (s.modSlm g).safety = s.safety := rfl
@[simp] theorem State.modSlm_zr (s : State) (g : StationManager → StationManager) : (s.modSlm g).zr = s.zr := rfl
@[simp] theorem State.modSlm_ge (s : State) (g : StationManager → StationManager) : (s.modSlm g).ge = s.ge := rfl
@[simp] theorem State.modSlm_cu (s : State) (g : StationManager → StationManager) : (s.modSlm g).cu = s.cu := rfl
@[simp] theorem State.modSlm_patterns (s : State) (g : StationManager → StationManager) : (s.modSlm g).patterns = s.patterns := rfl
@[simp] theorem State.modSlm_chimes (s : State) (g : StationManager → StationManager) : (s.modSlm g).chimes = s.chimes := rfl
@[simp] theorem State.modSlm_rx (s : State) (g : StationManager → StationManager) : (s.modSlm g).rx = s.rx := rfl
@[simp] theorem State.modSlm_slm (s : State) (g : StationManager → StationManager) : (s.modSlm g).slm = g s.slm := rfl
@[simp] theorem State.modSlm_af (s : State) (g : StationManager → StationManager) : (s.modSlm g).af = s.af := rfl
@[simp] theorem State.modSlm_tw (s : State) (g : StationManager → StationManager) : (s.modSlm g).tw = s.tw := rfl
@[simp] theorem State.modSlm_clp (s : State) (g : StationManager → StationManager) : (s.modSlm g).clp = s.clp := rfl
@[simp] theorem State.modSlm_os (s : State) (g : StationManager → StationManager) : (s.modSlm g).os = s.os := rfl
@[simp] theorem State.modSlm_pins (s : State) (g : StationManager → StationManager) : (s.modSlm g).pins = s.pins := rfl
@[simp] theorem State.modSlm_pending (s : State) (g : StationManager → StationManager) : (s.modSlm g).pending = s.pending := rfl

@[simp] theorem State.modAf_cp (s : State) (g : Following → Following) : (s.modAf g).cp = s.cp := rfl
@[simp] theorem State.modAf_sc (s : State) (g : Following → Following) : (s.modAf g).sc = s.sc := rfl
@[simp] theorem State.modAf_install (s : State) (g : Following → Following) : (s.modAf g).install = s.install := rfl
@[simp] theorem State.modAf_safety (s : State) (g : Following → Following) : (s.modAf g).safety = s.safety := rfl
@[simp] theorem State.modAf_zr (s : State) (g : Following → Following) : (s.modAf g).zr = s.zr := rfl
@[simp] theorem State.modAf_ge (s : State) (g : Following → Following) : (s.modAf g).ge = s.ge := rfl
@[simp] theorem State.modAf_cu (s : State) (g : Following → Following) : (s.modAf g).cu = s.cu := rfl
@[simp] theorem State.modAf_patterns (s : State) (g : Following → Following) : (s.modAf g).patterns = s.patterns := rfl
@[simp] theorem State.modAf_chimes (s : State) (g : Following → Following) : (s.modAf g).chimes = s.chimes := rfl
@[simp] theorem State.modAf_rx (s : State) (g : Following → Following) : (s.modAf g).rx = s.rx := rfl
@[simp] theorem State.modAf_slm (s : State) (g : Following → Following) : (s.modAf g).slm = s.slm := rfl
@[simp] theorem State.modAf_af (s : State) (g : Following → Following) : (s.modAf g).af = g s.af := rfl
@[simp] theorem State.modAf_tw (s : State) (g : Following → Following) : (s.modAf g).tw = s.tw := rfl
@[simp] theorem State.modAf_clp (s : State) (g : Following → Following) : (s.modAf g).clp = s.clp := rfl
@[simp] theorem State.modAf_os (s : State) (g : Following → Following) : (s.modAf g).os = s.os := rfl
@[simp] theorem State.modAf_pins (s : State) (g : Following → Following) : (s.modAf g).pins = s.pins := rfl
@[simp] theorem State.modAf_pending (s : State) (g : Following → Following) : (s.modAf g).pending = s.pending := rfl

@[simp] theorem State.modTw_cp (s : State) (g : TrafficWatch → TrafficWatch) : (s.modTw g).cp = s.cp := rfl
@[simp] theorem State.modTw_sc (s : State) (g : TrafficWatch → TrafficWatch) : (s.modTw g).sc = s.sc := rfl
@[simp] theorem State.modTw_install (s : State) (g : TrafficWatch → TrafficWatch) : (s.modTw g).install = s.install := rfl
@[simp] theorem State.modTw_safety (s : State) (g : TrafficWatch → TrafficWatch) : (s.modTw g).safety = s.safety := rfl
@[simp] theorem State.modTw_zr (s : State) (g : TrafficWatch → TrafficWatch) : (s.modTw g).zr = s.zr := rfl
@[simp] theorem State.modTw_ge (s : State) (g : TrafficWatch → TrafficWatch) : (s.modTw g).ge = s.ge := rfl
@[simp] theorem State.modTw_cu (s : State) (g : TrafficWatch → TrafficWatch) : (s.modTw g).cu = s.cu := rfl
@[simp] theorem State.modTw_patterns (s : State) (g : TrafficWatch → TrafficWatch) : (s.modTw g).patterns = s.patterns := rfl
@[simp] theorem State.modTw_chimes (s : State) (g : TrafficWatch → TrafficWatch) : (s.modTw g).chimes = s.chimes := rfl
@[simp] theorem State.modTw_rx (s : State) (g : TrafficWatch → TrafficWatch) : (s.modTw g).rx = s.rx := rfl
@[simp] theorem State.modTw_slm (s : State) (g : TrafficWatch → TrafficWatch) : (s.modTw g).slm = s.slm := rfl
@[simp] theorem State.modTw_af (s : State) (g : TrafficWatch → TrafficWatch) : (s.modTw g).af = s.af := rfl
@[simp] theorem State.modTw_tw (s : State) (g : TrafficWatch → TrafficWatch) : (s.modTw g).tw = g s.tw := rfl
@[simp] theorem State.modTw_clp (s : State) (g : TrafficWatch → TrafficWatch) : (s.modTw g).clp = s.clp := rfl
@[simp] theorem State.modTw_os (s : State) (g : TrafficWatch → TrafficWatch) : (s.modTw g).os = s.os := rfl
@[simp] theorem State.modTw_pins (s : State) (g : TrafficWatch → TrafficWatch) : (s.modTw g).pins = s.pins := rfl
@[simp] theorem State.modTw_pending (s : State) (g : TrafficWatch → TrafficWatch) : (s.modTw g).pending = s.pending := rfl

@[simp] theorem State.modClp_cp (s : State) (g : CallContext → CallContext) : (s.modClp g).cp = s.cp := rfl
@[simp] theorem State.modClp_sc (s : State) (g : CallContext → CallContext) : (s.modClp g).sc = s.sc := rfl
@[simp] theorem State.modClp_install (s : State) (g : CallContext → CallContext) : (s.modClp g).install = s.install := rfl
@[simp] theorem State.modClp_safety (s : State) (g : CallContext → CallContext) : (s.modClp g).safety = s.safety := rfl
@[simp] theorem State.modClp_zr (s : State) (g : CallContext → CallContext) : (s.modClp g).zr = s.zr := rfl
@[simp] theorem State.modClp_ge (s : State) (g : CallContext → CallContext) : (s.modClp g).ge = s.ge := rfl
@[simp] theorem State.modClp_cu (s : State) (g : CallContext → CallContext) : (s.modClp g).cu = s.cu := rfl
@[simp] theorem State.modClp_patterns (s : State) (g : CallContext → CallContext) : (s.modClp g).patterns = s.patterns := rfl
@[simp] theorem State.modClp_chimes (s : State) (g : CallContext → CallContext) : (s.modClp g).chimes = s.chimes := rfl
@[simp] theorem State.modClp_rx (s : State) (g : CallContext → CallContext) : (s.modClp g).rx = s.rx := rfl
@[simp] theorem State.modClp_slm (s : State) (g : CallContext → CallContext) : (s.modClp g).slm = s.slm := rfl
@[simp] theorem State.modClp_af (s : State) (g : CallContext → CallContext) : (s.modClp g).af = s.af := rfl
@[simp] theorem State.modClp_tw (s : State) (g : CallContext → CallContext) : (s.modClp g).tw = s.tw := rfl
@[simp] theorem State.modClp_clp (s : State) (g : CallContext → CallContext) : (s.modClp g).clp = g s.clp := rfl
@[simp] theorem State.modClp_os (s : State) (g : CallContext → CallContext) : (s.modClp g).os = s.os := rfl
@[simp] theorem State.modClp_pins (s : State) (g : CallContext → CallContext) : (s.modClp g).pins = s.pins := rfl
@[simp] theorem State.modClp_pending (s : State) (g : CallContext → CallContext) : (s.modClp g).pending = s.pending := rfl

@[simp] theorem State.modOs_cp (s : State) (g : OutputStage → OutputStage) : (s.modOs g).cp = s.cp := rfl
@[simp] theorem State.modOs_sc (s : State) (g : OutputStage → OutputStage) : (s.modOs g).sc = s.sc := rfl
@[simp] theorem State.modOs_install (s : State) (g : OutputStage → OutputStage) : (s.modOs g).install = s.install := rfl
@[simp] theorem State.modOs_safety (s : State) (g : OutputStage → OutputStage) : (s.modOs g).safety = s.safety := rfl
@[simp] theorem State.modOs_zr (s : State) (g : OutputStage → OutputStage) : (s.modOs g).zr = s.zr := rfl
@[simp] theorem State.modOs_ge (s : State) (g : OutputStage → OutputStage) : (s.modOs g).ge = s.ge := rfl
@[simp] theorem State.modOs_cu (s : State) (g : OutputStage → OutputStage) : (s.modOs g).cu = s.cu := rfl
@[simp] theorem State.modOs_patterns (s : State) (g : OutputStage → OutputStage) : (s.modOs g).patterns = s.patterns := rfl
@[simp] theorem State.modOs_chimes (s : State) (g : OutputStage → OutputStage) : (s.modOs g).chimes = s.chimes := rfl
@[simp] theorem State.modOs_rx (s : State) (g : OutputStage → OutputStage) : (s.modOs g).rx = s.rx := rfl
@[simp] theorem State.modOs_slm (s : State) (g : OutputStage → OutputStage) : (s.modOs g).slm = s.slm := rfl
@[simp] theorem State.modOs_af (s : State) (g : OutputStage → OutputStage) : (s.modOs g).af = s.af := rfl
@[simp] theorem State.modOs_tw (s : State) (g : OutputStage → OutputStage) : (s.modOs g).tw = s.tw := rfl
@[simp] theorem State.modOs_clp (s : State) (g : OutputStage → OutputStage) : (s.modOs g).clp = s.clp := rfl
@[simp] theorem State.modOs_os (s : State) (g : OutputStage → OutputStage) : (s.modOs g).os = g s.os := rfl
@[simp] theorem State.modOs_pins (s : State) (g : OutputStage → OutputStage) : (s.modOs g).pins = s.pins := rfl
@[simp] theorem State.modOs_pending (s : State) (g : OutputStage → OutputStage) : (s.modOs g).pending = s.pending := rfl

@[simp] theorem State.modPins_cp (s : State) (g : Pins → Pins) : (s.modPins g).cp = s.cp := rfl
@[simp] theorem State.modPins_sc (s : State) (g : Pins → Pins) : (s.modPins g).sc = s.sc := rfl
@[simp] theorem State.modPins_install (s : State) (g : Pins → Pins) : (s.modPins g).install = s.install := rfl
@[simp] theorem State.modPins_safety (s : State) (g : Pins → Pins) : (s.modPins g).safety = s.safety := rfl
@[simp] theorem State.modPins_zr (s : State) (g : Pins → Pins) : (s.modPins g).zr = s.zr := rfl
@[simp] theorem State.modPins_ge (s : State) (g : Pins → Pins) : (s.modPins g).ge = s.ge := rfl
@[simp] theorem State.modPins_cu (s : State) (g : Pins → Pins) : (s.modPins g).cu = s.cu := rfl
@[simp] theorem State.modPins_patterns (s : State) (g : Pins → Pins) : (s.modPins g).patterns = s.patterns := rfl
@[simp] theorem State.modPins_chimes (s : State) (g : Pins → Pins) : (s.modPins g).chimes = s.chimes := rfl
@[simp] theorem State.modPins_rx (s : State) (g : Pins → Pins) : (s.modPins g).rx = s.rx := rfl
@[simp] theorem State.modPins_slm (s : State) (g : Pins → Pins) : (s.modPins g).slm = s.slm := rfl
@[simp] theorem State.modPins_af (s : State) (g : Pins → Pins) : (s.modPins g).af = s.af := rfl
@[simp] theorem State.modPins_tw (s : State) (g : Pins → Pins) : (s.modPins g).tw = s.tw := rfl
@[simp] theorem State.modPins_clp (s : State) (g : Pins → Pins) : (s.modPins g).clp = s.clp := rfl
@[simp] theorem State.modPins_os (s : State) (g : Pins → Pins) : (s.modPins g).os = s.os := rfl
@[simp] theorem State.modPins_pins (s : State) (g : Pins → Pins) : (s.modPins g).pins = g s.pins := rfl
@[simp] theorem State.modPins_pending (s : State) (g : Pins → Pins) : (s.modPins g).pending = s.pending := rfl

@[simp] theorem State.setPending_cp (s : State) (q : List Instr) : (s.setPending q).cp = s.cp := rfl
@[simp] theorem State.setPending_sc (s : State) (q : List Instr) : (s.setPending q).sc = s.sc := rfl
@[simp] theorem State.setPending_install (s : State) (q : List Instr) : (s.setPending q).install = s.install := rfl
@[simp] theorem State.setPending_safety (s : State) (q : List Instr) : (s.setPending q).safety = s.safety := rfl
@[simp] theorem State.setPending_zr (s : State) (q : List Instr) : (s.setPending q).zr = s.zr := rfl
@[simp] theorem State.setPending_ge (s : State) (q : List Instr) : (s.setPending q).ge = s.ge := rfl
@[simp] theorem State.setPending_cu (s : State) (q : List Instr) : (s.setPending q).cu = s.cu := rfl
@[simp] theorem State.setPending_patterns (s : State) (q : List Instr) : (s.setPending q).patterns = s.patterns := rfl
@[simp] theorem State.setPending_chimes (s : State) (q : List Instr) : (s.setPending q).chimes = s.chimes := rfl
@[simp] theorem State.setPending_rx (s : State) (q : List Instr) : (s.setPending q).rx = s.rx := rfl
@[simp] theorem State.setPending_slm (s : State) (q : List Instr) : (s.setPending q).slm = s.slm := rfl
@[simp] theorem State.setPending_af (s : State) (q : List Instr) : (s.setPending q).af = s.af := rfl
@[simp] theorem State.setPending_tw (s : State) (q : List Instr) : (s.setPending q).tw = s.tw := rfl
@[simp] theorem State.setPending_clp (s : State) (q : List Instr) : (s.setPending q).clp = s.clp := rfl
@[simp] theorem State.setPending_os (s : State) (q : List Instr) : (s.setPending q).os = s.os := rfl
@[simp] theorem State.setPending_pins (s : State) (q : List Instr) : (s.setPending q).pins = s.pins := rfl
@[simp] theorem State.setPending_pending (s : State) (q : List Instr) : (s.setPending q).pending = q := rfl

end Sys2Proof.Machine
end

