-- ==== Sys2Proof/Laws/Ops.lean ====
section
/-! SUPPORT. One lemma for each shared operation that says once what it can do, so that a proof cites it and does not unfold
the operation: the report queue, the precedence lists, what the channels send, the quantities, the canceller and the selection,
the amplifier channels, the station list, the receivers' orders, and the end of every command. -/

namespace Sys2Proof.Machine

/-! ### Reports -/

/-- Posting touches the Control Port alone. -/
theorem post_eq (k : ReportKind) (n : Nat) (d : Bytes) (s : State) : post k n d s = { s with cp := (post k n d s).cp } := rfl

@[simp] theorem post_reply (k : ReportKind) (n : Nat) (d : Bytes) (s : State) : (post k n d s).cp.reply = s.cp.reply := by
  simp only [post, State.modCp, ControlPort.reattn, ControlPort.enqueue]
  split <;> [rfl; (split <;> rfl)]

@[simp] theorem post_masked (k : ReportKind) (n : Nat) (d : Bytes) (s : State) :
    (post k n d s).cp.masked = s.cp.masked := by
  simp only [post, State.modCp, ControlPort.reattn, ControlPort.enqueue]
  split <;> [rfl; (split <;> rfl)]

@[simp] theorem post_watchdog (k : ReportKind) (n : Nat) (d : Bytes) (s : State) :
    (post k n d s).cp.watchdog = s.cp.watchdog := by
  simp only [post, State.modCp, ControlPort.reattn, ControlPort.enqueue]
  split <;> [rfl; (split <;> rfl)]

@[simp] theorem post_sc (k : ReportKind) (n : Nat) (d : Bytes) (s : State) : (post k n d s).sc = s.sc := rfl
@[simp] theorem post_install (k : ReportKind) (n : Nat) (d : Bytes) (s : State) : (post k n d s).install = s.install := rfl
@[simp] theorem post_safety (k : ReportKind) (n : Nat) (d : Bytes) (s : State) : (post k n d s).safety = s.safety := rfl
@[simp] theorem post_zr (k : ReportKind) (n : Nat) (d : Bytes) (s : State) : (post k n d s).zr = s.zr := rfl
@[simp] theorem post_ge (k : ReportKind) (n : Nat) (d : Bytes) (s : State) : (post k n d s).ge = s.ge := rfl
@[simp] theorem post_cu (k : ReportKind) (n : Nat) (d : Bytes) (s : State) : (post k n d s).cu = s.cu := rfl
@[simp] theorem post_patterns (k : ReportKind) (n : Nat) (d : Bytes) (s : State) :
    (post k n d s).patterns = s.patterns := rfl
@[simp] theorem post_chimes (k : ReportKind) (n : Nat) (d : Bytes) (s : State) : (post k n d s).chimes = s.chimes := rfl
@[simp] theorem post_rx (k : ReportKind) (n : Nat) (d : Bytes) (s : State) : (post k n d s).rx = s.rx := rfl
@[simp] theorem post_slm (k : ReportKind) (n : Nat) (d : Bytes) (s : State) : (post k n d s).slm = s.slm := rfl
@[simp] theorem post_af (k : ReportKind) (n : Nat) (d : Bytes) (s : State) : (post k n d s).af = s.af := rfl
@[simp] theorem post_tw (k : ReportKind) (n : Nat) (d : Bytes) (s : State) : (post k n d s).tw = s.tw := rfl
@[simp] theorem post_clp (k : ReportKind) (n : Nat) (d : Bytes) (s : State) : (post k n d s).clp = s.clp := rfl
@[simp] theorem post_os (k : ReportKind) (n : Nat) (d : Bytes) (s : State) : (post k n d s).os = s.os := rfl
@[simp] theorem post_pins (k : ReportKind) (n : Nat) (d : Bytes) (s : State) : (post k n d s).pins = s.pins := rfl
@[simp] theorem post_pending (k : ReportKind) (n : Nat) (d : Bytes) (s : State) : (post k n d s).pending = s.pending := rfl

/-- A queued report of another kind stays as it was. -/
theorem post_keeps_report (k : ReportKind) (n : Nat) (d : Bytes) (s : State) (r : Report) (h : r ∈ s.cp.reports)
    (hk : r.kind ≠ k) : r ∈ (post k n d s).cp.reports := by
  simp only [post, State.modCp, ControlPort.reattn, ControlPort.enqueue]
  split
  · simp only [List.mem_map]
    refine ⟨r, h, ?_⟩
    simp [Report.sameKey, Ne.symm hk]
  · split
    · simp [h]
    · exact h

/-- Posting adds at most one report. -/
theorem post_length_le (k : ReportKind) (n : Nat) (d : Bytes) (s : State) :
    (post k n d s).cp.reports.length ≤ s.cp.reports.length + 1 := by
  simp only [post, State.modCp, ControlPort.reattn, ControlPort.enqueue]
  split
  · simp
  · split
    · simp
    · simp

/-! ### Precedence lists -/

@[simp] theorem PerCabin.get_set {α : Type} (p : PerCabin α) (c d : Cabin) (a : α) :
    (p.set c a).get d = if d = c then a else p.get d := by
  cases c <;> cases d <;> rfl

@[simp] theorem PerHp.get_set {α : Type} (p : PerHp α) (h g : Hp) (a : α) :
    (p.set h a).get g = if g = h then a else p.get g := by
  cases h <;> cases g <;> rfl

@[simp] theorem PerMic.get_set {α : Type} (p : PerMic α) (m k : Mic) (a : α) :
    (p.set m a).get k = if k = m then a else p.get k := by
  cases m <;> cases k <;> rfl

/-- A list set is the list read, and every other zone's list reads as before. -/
theorem listOf_setList (z y : Zone) (l : List Entry) (s : State) :
    listOf (setList z l s) y = if y = z then l else listOf s y := by
  rcases z with c | h <;> rcases y with d | g
  · cases c <;> cases d <;> rfl
  · rfl
  · rfl
  · cases h <;> cases g <;> rfl

/-- Changing a list touches the Zone Router and the Control Port alone. -/
theorem changeList_eq (z : Zone) (l : List Entry) (s : State) :
    changeList z l s = { s with cp := (changeList z l s).cp, zr := (changeList z l s).zr } := by
  unfold changeList
  split <;> rfl

/-- The zone takes the list given, and every other zone keeps its own. -/
theorem listOf_changeList (z y : Zone) (l : List Entry) (s : State) :
    listOf (changeList z l s) y = if y = z then l else listOf s y := by
  unfold changeList
  split
  · rename_i h
    split <;> simp_all
  · exact listOf_setList z y l s

/-- Inserting an entry touches the Zone Router and the Control Port alone. -/
theorem insertEntry_eq (z : Zone) (e : Entry) (s : State) :
    insertEntry z e s = { s with cp := (insertEntry z e s).cp, zr := (insertEntry z e s).zr } := by
  unfold insertEntry
  split
  · exact changeList_eq _ _ _
  · rfl

/-- Removing a class touches the Zone Router and the Control Port alone. -/
theorem removeEntry_eq (z : Zone) (c : Class) (s : State) :
    removeEntry z c s = { s with cp := (removeEntry z c s).cp, zr := (removeEntry z c s).zr } := changeList_eq _ _ _

/-- A removed class is held no more by the zone; the lists of the other zones stay. -/
theorem listOf_removeEntry (z y : Zone) (c : Class) (s : State) :
    listOf (removeEntry z c s) y = if y = z then removeFrom c (listOf s z) else listOf s y := listOf_changeList _ _ _ _

/-- An insertion puts the entry in its zone's list where the zone may hold its class. -/
theorem listOf_insertEntry (z y : Zone) (e : Entry) (s : State) :
    listOf (insertEntry z e s) y =
      if y = z ∧ mayHold z e.cls = true then insertIn e (listOf s z) else listOf s y := by
  unfold insertEntry
  split
  · rename_i h
    simp [listOf_changeList, h]
  · rename_i h
    simp [h]

/-- Inserting the CHIME entries touches the Zone Router and the Control Port alone. -/
theorem insertChimes_eq (s : State) :
    insertChimes s = { s with cp := (insertChimes s).cp, zr := (insertChimes s).zr } := by
  unfold insertChimes
  generalize Cabin.all.filter (playsIn s) = l
  induction l generalizing s with
  | nil => rfl
  | cons z l ih =>
    rw [List.foldl_cons, ih, insertEntry_eq]

/-- Removing the CHIME entries touches the Zone Router and the Control Port alone. -/
theorem removeChimes_eq (s : State) :
    removeChimes s = { s with cp := (removeChimes s).cp, zr := (removeChimes s).zr } := by
  unfold removeChimes
  generalize Cabin.all.filter (fun z => !playsIn s z) = l
  induction l generalizing s with
  | nil => rfl
  | cons z l ih =>
    rw [List.foldl_cons, ih, removeEntry_eq]

/-! ### What the channels send -/

/-- A channel sends its signal, or nothing where it may not send. -/
theorem channelOutput_eq_some (s : State) (c : Chan) (x : Signal) :
    channelOutput s c = some x ↔ chanSends s c = true ∧ channelSignal s c = x := by
  unfold channelOutput
  split <;> simp [*]

/-- A channel sums the contributions of its paths and of both voices. -/
theorem mem_channelMix (s : State) (c : Chan) (x : Contribution) :
    x ∈ channelMix s c ↔
      x ∈ pathContributions s c ∨ x ∈ voiceContributions s c s.chimes.v1 ∨ x ∈ voiceContributions s c s.chimes.v2 := by
  simp only [channelMix, List.mem_append]

/-! ### Quantities -/

/-- Setting a slot touches the Condition Unit and the Control Port alone. -/
theorem setSlot_eq (i : Fin 16) (c : Option Condition) (s : State) :
    setSlot i c s =
      { s with cp := (setSlot i c s).cp, cu := { s.cu with slots := s.cu.slots.set i c } } := by
  unfold setSlot
  dsimp only
  split <;> rfl

/-- A receipt touches the Condition Unit and the Control Port alone. -/
theorem receipt_eq (q : Quantity) (v : Int) (s : State) :
    receipt q v s = { s with cp := (receipt q v s).cp, cu := (receipt q v s).cu } := by
  unfold receipt
  generalize hs : storeValue q (clampQuantity q v) s = t
  have ht : t = { s with cp := t.cp, cu := t.cu } := by subst hs; rfl
  clear hs
  generalize slotsInOrder = l
  induction l generalizing t with
  | nil => exact ht
  | cons i l ih =>
    simp only [List.foldl_cons]
    apply ih
    unfold evaluateSlot
    split
    · exact ht
    · split
      · rw [setSlot_eq]
        rw [ht]
      · exact ht

/-! ### The canceller and the selection -/

/-- Restarting the canceller touches the call context and the Control Port alone. -/
theorem restartCanceller_eq (s : State) :
    restartCanceller s =
      { s with cp := (restartCanceller s).cp
               clp := if s.clp.canceller = .bypass then s.clp else s.clp.recovering } := by
  unfold restartCanceller cancellerRunning
  by_cases h : s.clp.canceller = .bypass
  · simp [h]
  · simp [h, postAec, State.modClp, post, State.modCp]

/-- Remaking the selection leaves the call context with the selection of R146. -/
theorem remakeSelection_clp (b : Bool) (s : State) :
    (remakeSelection b s).clp = { s.clp with selection := selectionOf s } := by
  unfold remakeSelection
  dsimp only
  split <;> rfl

/-! ### Amplifier channels -/

/-- Changing an amplifier's record touches the Output Stage, the call context and the Control Port alone. -/
theorem changeAmp_eq (k : Amp) (f : AmpChannel → AmpChannel) (s : State) :
    changeAmp k f s =
      { s with cp := (changeAmp k f s).cp, clp := (changeAmp k f s).clp
               os := { s.os with amps := s.os.amps.set k ((s.os.amps[k]).kept (f s.os.amps[k])) } } := by
  unfold changeAmp
  dsimp only
  split
  · rw [restartCanceller_eq]
    rfl
  · rfl

/-! ### The station list -/

/-- Inserting a station touches the station list and the Control Port alone. -/
theorem insertListed_eq (e : ListEntry) (s : State) :
    insertListed e s =
      { s with cp := (insertListed e s).cp
               slm := { s.slm with entries := placeEntry e s.slm.entries, inserted := s.slm.inserted + 1 } } := rfl

/-- Removing a station touches the station list and the Control Port alone. -/
theorem removeListed_eq (st : Station) (s : State) :
    removeListed st s =
      { s with cp := (removeListed st s).cp
               slm := { s.slm with entries := s.slm.entries.filter (fun e => e.station != st) } } := rfl

/-! ### RX-B -/

/-- A receiver's change touches the receivers and the Control Port alone. -/
theorem changeReceiver_eq (x : Rx) (f : Receiver → Receiver) (s : State) :
    changeReceiver x f s = { s with cp := (changeReceiver x f s).cp, rx := (modReceiver x f s).rx } := by
  unfold changeReceiver
  dsimp only
  split <;> cases x <;> rfl

/-- Releasing RX-B touches the receivers, the station list's sweep and the Control Port alone. -/
theorem releaseB_eq (s : State) :
    releaseB s = { s with cp := (releaseB s).cp, rx := (releaseB s).rx, slm := (releaseB s).slm } := by
  unfold releaseB
  split
  · unfold visitPosition orderB
    rw [changeReceiver_eq]
    rfl
  · unfold idleB
    rw [changeReceiver_eq]
    rfl

/-! ### The end of every command -/

/-- A record that is applied touches the entries of the station list alone (R116). -/
theorem learnRecord_eq (x : Rx) (old new : DataRecord) (flags : Bool) (s : State) :
    learnRecord x old new flags s =
      { s with slm := { s.slm with entries := (learnRecord x old new flags s).slm.entries } } := by
  unfold learnRecord
  split <;> rfl

/-- A record that hands on nothing, by a payload that is no flags payload, teaches an entry nothing (R116). -/
theorem ListEntry.learned_unchanged (old new : DataRecord) (e : ListEntry) (hn : new.name = old.name)
    (ha : new.alternates = old.alternates) : e.learned old new false false = e := by
  simp [ListEntry.learned, hn, ha]

/-- Settling touches the paths and the gains of the chime paths alone. -/
theorem settle_eq (s : State) :
    settle s =
      { s with ge := { s.ge with paths := (settle s).ge.paths }
               chimes := { s.chimes with v1 := s.chimes.v1.map (revoiced s), v2 := s.chimes.v2.map (revoiced s) } } := rfl

@[simp] theorem settle_cp (s : State) : (settle s).cp = s.cp := rfl
@[simp] theorem settle_sc (s : State) : (settle s).sc = s.sc := rfl
@[simp] theorem settle_install (s : State) : (settle s).install = s.install := rfl
@[simp] theorem settle_safety (s : State) : (settle s).safety = s.safety := rfl
@[simp] theorem settle_zr (s : State) : (settle s).zr = s.zr := rfl
@[simp] theorem settle_voicing (s : State) : (settle s).ge.voicing = s.ge.voicing := rfl
@[simp] theorem settle_cu (s : State) : (settle s).cu = s.cu := rfl
@[simp] theorem settle_patterns (s : State) : (settle s).patterns = s.patterns := rfl
@[simp] theorem settle_queue (s : State) : (settle s).chimes.queue = s.chimes.queue := rfl
@[simp] theorem settle_rx (s : State) : (settle s).rx = s.rx := rfl
@[simp] theorem settle_slm (s : State) : (settle s).slm = s.slm := rfl
@[simp] theorem settle_af (s : State) : (settle s).af = s.af := rfl
@[simp] theorem settle_tw (s : State) : (settle s).tw = s.tw := rfl
@[simp] theorem settle_clp (s : State) : (settle s).clp = s.clp := rfl
@[simp] theorem settle_os (s : State) : (settle s).os = s.os := rfl
@[simp] theorem settle_pins (s : State) : (settle s).pins = s.pins := rfl
@[simp] theorem settle_pending (s : State) : (settle s).pending = s.pending := rfl

/-- A voice's new gains are no part of what it plays. -/
theorem ungained_revoiced (s : State) (v : Voice) : (revoiced s v).ungained = v.ungained := by
  simp [Voice.ungained, revoiced, Function.comp_def]

end Sys2Proof.Machine
end

