-- ==== Sys2Proof/Laws/Patterns.lean ====
section
/-! SUPPORT. Pattern memory, the part's one addressed buffer (R81): a slot written reads back, every other slot reads as
before, and every operation keeps the one form of the list. -/

namespace Sys2Proof.Machine

/-- The form of pattern memory: slot numbers strictly rising, each below 512 (R81). -/
abbrev Memory.wf (l : List (Nat × Segment)) : Prop :=
  l.Pairwise (fun a b => a.1 < b.1) ∧ ∀ m ∈ l, m.1 < Config.segmentSlots

theorem reset_memory_wf : Memory.wf State.reset.patterns.memory := by decide

theorem find_none_of_lt {l : List (Nat × Segment)} {n : Nat} (h : ∀ x ∈ l, x.1 ≠ n) :
    l.find? (fun x => x.1 == n) = none := by
  rw [List.find?_eq_none]
  intro x hx
  simpa using h x hx

/-- The slot written reads what was written. -/
theorem writeSlot_find (n : Nat) (g : Segment) (l : List (Nat × Segment)) :
    (writeSlot n g l).find? (fun x => x.1 == n) = some (n, g) := by
  unfold writeSlot
  rw [List.find?_append, find_none_of_lt]
  · simp
  · intro x hx
    have := List.mem_takeWhile_imp hx
    simp only [decide_eq_true_eq] at this
    omega

theorem find_filter_ne (m n : Nat) (l : List (Nat × Segment)) (h : m ≠ n) :
    (l.filter (fun x => x.1 != n)).find? (fun x => x.1 == m) = l.find? (fun x => x.1 == m) := by
  induction l with
  | nil => rfl
  | cons x l ih =>
    by_cases hx : x.1 = n
    · have : x.1 ≠ m := by omega
      simp [hx, ih, h.symm]
    · by_cases hm : x.1 = m
      · simp [hm, h]
      · simp [hx, hm, ih]

/-- Every other slot reads as before. -/
theorem writeSlot_find_other (m n : Nat) (g : Segment) (l : List (Nat × Segment)) (h : m ≠ n) :
    (writeSlot n g l).find? (fun x => x.1 == m) = l.find? (fun x => x.1 == m) := by
  unfold writeSlot
  conv => rhs; rw [← List.takeWhile_append_dropWhile (p := fun x : Nat × Segment => decide (x.1 < n)) (l := l)]
  rw [List.find?_append, List.find?_append, List.find?_cons_of_neg (by simpa using h.symm), find_filter_ne m n _ h]

theorem dropWhile_ge {l : List (Nat × Segment)} {n : Nat} (h : l.Pairwise (fun a b => a.1 < b.1)) :
    ∀ x ∈ l.dropWhile (fun x => decide (x.1 < n)), n ≤ x.1 := by
  induction l with
  | nil => simp
  | cons y l ih =>
    rw [List.pairwise_cons] at h
    by_cases hy : y.1 < n
    · simpa [List.dropWhile_cons, hy] using ih h.2
    · intro x hx
      simp only [List.dropWhile_cons, hy, decide_false, Bool.false_eq_true, if_false, List.mem_cons] at hx
      rcases hx with rfl | hx
      · omega
      · have := h.1 x hx
        omega

/-- Writing a slot below 512 keeps the form. -/
theorem writeSlot_wf (n : Nat) (g : Segment) (l : List (Nat × Segment)) (hn : n < Config.segmentSlots)
    (h : Memory.wf l) : Memory.wf (writeSlot n g l) := by
  obtain ⟨hp, hb⟩ := h
  have htake : ∀ x ∈ l.takeWhile (fun x => decide (x.1 < n)), x.1 < n := fun x hx => by
    simpa using List.mem_takeWhile_imp hx
  have hdrop : ∀ x ∈ (l.dropWhile (fun x => decide (x.1 < n))).filter (fun x => x.1 != n), n < x.1 := fun x hx => by
    simp only [List.mem_filter, bne_iff_ne, ne_eq] at hx
    have := dropWhile_ge hp x hx.1
    omega
  refine ⟨?_, ?_⟩
  · unfold writeSlot
    rw [List.pairwise_append, List.pairwise_cons]
    refine ⟨hp.sublist (List.takeWhile_sublist _), ⟨fun x hx => hdrop x hx, ?_⟩, ?_⟩
    · exact (hp.sublist (List.dropWhile_sublist _)).sublist List.filter_sublist
    · intro a ha b hb'
      have h1 := htake a ha
      simp only [List.mem_cons] at hb'
      rcases hb' with rfl | hb'
      · exact h1
      · exact Nat.lt_trans h1 (hdrop b hb')
  · intro m hm
    unfold writeSlot at hm
    simp only [List.mem_append, List.mem_cons, List.mem_filter] at hm
    rcases hm with hm | rfl | hm
    · exact hb m (List.takeWhile_sublist _ |>.subset hm)
    · exact hn
    · exact hb m (List.dropWhile_sublist _ |>.subset hm.1)

/-- Where a cursor stands after a run of segments: the slot behind the last one written, or END. -/
theorem writeSegments_cursor_below (gs : List Segment) (n : Nat) (l : List (Nat × Segment)) (hn : n < Config.segmentSlots)
    (m : Nat) : (writeSegments gs (.slot n) l).2.1 = .slot m → m < Config.segmentSlots := by
  induction gs generalizing n l with
  | nil =>
    intro h
    simp only [writeSegments, Cursor.slot.injEq] at h
    omega
  | cons g gs ih =>
    intro h
    simp only [writeSegments, cursorAfter] at h
    split at h
    · exact ih _ _ (by assumption) h
    · cases gs <;> simp [writeSegments] at h

/-- A run of segments written at a slot below 512 keeps the form. -/
theorem writeSegments_wf (gs : List Segment) (n : Nat) (l : List (Nat × Segment)) (hn : n < Config.segmentSlots)
    (h : Memory.wf l) : Memory.wf (writeSegments gs (.slot n) l).2.2 := by
  induction gs generalizing n l with
  | nil => exact h
  | cons g gs ih =>
    simp only [writeSegments, cursorAfter]
    split
    · exact ih _ _ (by assumption) (writeSlot_wf n g l hn h)
    · cases gs <;> exact writeSlot_wf n g l hn h

end Sys2Proof.Machine
end

