-- ==== Sys2Proof/Laws/PerInstr.lean ====
section
/-! SUPPORT. One lemma per command: the request kind and body a command carries, sent in a frame, name that command. -/

open Sys2Proof

/-- A command is the one that its own request kind and body name; a command that is no request carries none (R2, R164). -/
def Sys2Proof.Laws.RequestFrame.Statement (i : Sys2Proof.Instr) : Prop :=
  ∀ k body, i.request = some (k, body) → Sys2Proof.Instr.ofRequest k body = i

theorem Sys2Proof.Laws.RequestFrame.powerOnReset :
    Sys2Proof.Laws.RequestFrame.Statement .powerOnReset := by
  rintro _ _ ⟨⟩

theorem Sys2Proof.Laws.RequestFrame.initialisationComplete :
    Sys2Proof.Laws.RequestFrame.Statement .initialisationComplete := by
  rintro _ _ ⟨⟩

theorem Sys2Proof.Laws.RequestFrame.frameError (received : Bytes) :
    Sys2Proof.Laws.RequestFrame.Statement (.frameError received) := by
  rintro _ _ ⟨⟩

theorem Sys2Proof.Laws.RequestFrame.unknownKind (kind : Byte) :
    Sys2Proof.Laws.RequestFrame.Statement (.unknownKind kind) := by
  rintro _ _ ⟨⟩

theorem Sys2Proof.Laws.RequestFrame.poll (body : Bytes) :
    Sys2Proof.Laws.RequestFrame.Statement (.poll body) := by
  rintro _ _ ⟨⟩
  rfl

theorem Sys2Proof.Laws.RequestFrame.fetchReports (body : Bytes) :
    Sys2Proof.Laws.RequestFrame.Statement (.fetchReports body) := by
  rintro _ _ ⟨⟩
  rfl

theorem Sys2Proof.Laws.RequestFrame.setReportMask (body : Bytes) :
    Sys2Proof.Laws.RequestFrame.Statement (.setReportMask body) := by
  rintro _ _ ⟨⟩
  rfl

theorem Sys2Proof.Laws.RequestFrame.getPartState (body : Bytes) :
    Sys2Proof.Laws.RequestFrame.Statement (.getPartState body) := by
  rintro _ _ ⟨⟩
  rfl

theorem Sys2Proof.Laws.RequestFrame.setInstall (body : Bytes) :
    Sys2Proof.Laws.RequestFrame.Statement (.setInstall body) := by
  rintro _ _ ⟨⟩
  rfl

theorem Sys2Proof.Laws.RequestFrame.getInstall (body : Bytes) :
    Sys2Proof.Laws.RequestFrame.Statement (.getInstall body) := by
  rintro _ _ ⟨⟩
  rfl

theorem Sys2Proof.Laws.RequestFrame.openSafetyEdit (body : Bytes) :
    Sys2Proof.Laws.RequestFrame.Statement (.openSafetyEdit body) := by
  rintro _ _ ⟨⟩
  rfl

theorem Sys2Proof.Laws.RequestFrame.setSafety (body : Bytes) :
    Sys2Proof.Laws.RequestFrame.Statement (.setSafety body) := by
  rintro _ _ ⟨⟩
  rfl

theorem Sys2Proof.Laws.RequestFrame.lockSafety (body : Bytes) :
    Sys2Proof.Laws.RequestFrame.Statement (.lockSafety body) := by
  rintro _ _ ⟨⟩
  rfl

theorem Sys2Proof.Laws.RequestFrame.startAudio (body : Bytes) :
    Sys2Proof.Laws.RequestFrame.Statement (.startAudio body) := by
  rintro _ _ ⟨⟩
  rfl

theorem Sys2Proof.Laws.RequestFrame.standby (body : Bytes) :
    Sys2Proof.Laws.RequestFrame.Statement (.standby body) := by
  rintro _ _ ⟨⟩
  rfl

theorem Sys2Proof.Laws.RequestFrame.wake (body : Bytes) :
    Sys2Proof.Laws.RequestFrame.Statement (.wake body) := by
  rintro _ _ ⟨⟩
  rfl

theorem Sys2Proof.Laws.RequestFrame.restart (body : Bytes) :
    Sys2Proof.Laws.RequestFrame.Statement (.restart body) := by
  rintro _ _ ⟨⟩
  rfl

theorem Sys2Proof.Laws.RequestFrame.selectSource (body : Bytes) :
    Sys2Proof.Laws.RequestFrame.Statement (.selectSource body) := by
  rintro _ _ ⟨⟩
  rfl

theorem Sys2Proof.Laws.RequestFrame.setVolume (body : Bytes) :
    Sys2Proof.Laws.RequestFrame.Statement (.setVolume body) := by
  rintro _ _ ⟨⟩
  rfl

theorem Sys2Proof.Laws.RequestFrame.setMute (body : Bytes) :
    Sys2Proof.Laws.RequestFrame.Statement (.setMute body) := by
  rintro _ _ ⟨⟩
  rfl

theorem Sys2Proof.Laws.RequestFrame.setBalanceFader (body : Bytes) :
    Sys2Proof.Laws.RequestFrame.Statement (.setBalanceFader body) := by
  rintro _ _ ⟨⟩
  rfl

theorem Sys2Proof.Laws.RequestFrame.setSourceTrim (body : Bytes) :
    Sys2Proof.Laws.RequestFrame.Statement (.setSourceTrim body) := by
  rintro _ _ ⟨⟩
  rfl

theorem Sys2Proof.Laws.RequestFrame.setClassDuck (body : Bytes) :
    Sys2Proof.Laws.RequestFrame.Statement (.setClassDuck body) := by
  rintro _ _ ⟨⟩
  rfl

theorem Sys2Proof.Laws.RequestFrame.setSpeedLift (body : Bytes) :
    Sys2Proof.Laws.RequestFrame.Statement (.setSpeedLift body) := by
  rintro _ _ ⟨⟩
  rfl

theorem Sys2Proof.Laws.RequestFrame.setRearQuiet (body : Bytes) :
    Sys2Proof.Laws.RequestFrame.Statement (.setRearQuiet body) := by
  rintro _ _ ⟨⟩
  rfl

theorem Sys2Proof.Laws.RequestFrame.getZone (body : Bytes) :
    Sys2Proof.Laws.RequestFrame.Statement (.getZone body) := by
  rintro _ _ ⟨⟩
  rfl

theorem Sys2Proof.Laws.RequestFrame.promptStart (body : Bytes) :
    Sys2Proof.Laws.RequestFrame.Statement (.promptStart body) := by
  rintro _ _ ⟨⟩
  rfl

theorem Sys2Proof.Laws.RequestFrame.promptEnd (body : Bytes) :
    Sys2Proof.Laws.RequestFrame.Statement (.promptEnd body) := by
  rintro _ _ ⟨⟩
  rfl

theorem Sys2Proof.Laws.RequestFrame.setVoicing (body : Bytes) :
    Sys2Proof.Laws.RequestFrame.Statement (.setVoicing body) := by
  rintro _ _ ⟨⟩
  rfl

theorem Sys2Proof.Laws.RequestFrame.vehicleState (body : Bytes) :
    Sys2Proof.Laws.RequestFrame.Statement (.vehicleState body) := by
  rintro _ _ ⟨⟩
  rfl

theorem Sys2Proof.Laws.RequestFrame.setCondition (body : Bytes) :
    Sys2Proof.Laws.RequestFrame.Statement (.setCondition body) := by
  rintro _ _ ⟨⟩
  rfl

theorem Sys2Proof.Laws.RequestFrame.patternLoad (body : Bytes) :
    Sys2Proof.Laws.RequestFrame.Statement (.patternLoad body) := by
  rintro _ _ ⟨⟩
  rfl

theorem Sys2Proof.Laws.RequestFrame.patternSegment (body : Bytes) :
    Sys2Proof.Laws.RequestFrame.Statement (.patternSegment body) := by
  rintro _ _ ⟨⟩
  rfl

theorem Sys2Proof.Laws.RequestFrame.definePattern (body : Bytes) :
    Sys2Proof.Laws.RequestFrame.Statement (.definePattern body) := by
  rintro _ _ ⟨⟩
  rfl

theorem Sys2Proof.Laws.RequestFrame.chimeRequest (body : Bytes) :
    Sys2Proof.Laws.RequestFrame.Statement (.chimeRequest body) := by
  rintro _ _ ⟨⟩
  rfl

theorem Sys2Proof.Laws.RequestFrame.chimeCancel (body : Bytes) :
    Sys2Proof.Laws.RequestFrame.Statement (.chimeCancel body) := by
  rintro _ _ ⟨⟩
  rfl

theorem Sys2Proof.Laws.RequestFrame.tune (body : Bytes) :
    Sys2Proof.Laws.RequestFrame.Statement (.tune body) := by
  rintro _ _ ⟨⟩
  rfl

theorem Sys2Proof.Laws.RequestFrame.step (body : Bytes) :
    Sys2Proof.Laws.RequestFrame.Statement (.step body) := by
  rintro _ _ ⟨⟩
  rfl

theorem Sys2Proof.Laws.RequestFrame.seek (body : Bytes) :
    Sys2Proof.Laws.RequestFrame.Statement (.seek body) := by
  rintro _ _ ⟨⟩
  rfl

theorem Sys2Proof.Laws.RequestFrame.setReception (body : Bytes) :
    Sys2Proof.Laws.RequestFrame.Statement (.setReception body) := by
  rintro _ _ ⟨⟩
  rfl

theorem Sys2Proof.Laws.RequestFrame.getStation (body : Bytes) :
    Sys2Proof.Laws.RequestFrame.Statement (.getStation body) := by
  rintro _ _ ⟨⟩
  rfl

theorem Sys2Proof.Laws.RequestFrame.scanNow (body : Bytes) :
    Sys2Proof.Laws.RequestFrame.Statement (.scanNow body) := by
  rintro _ _ ⟨⟩
  rfl

theorem Sys2Proof.Laws.RequestFrame.setScan (body : Bytes) :
    Sys2Proof.Laws.RequestFrame.Statement (.setScan body) := by
  rintro _ _ ⟨⟩
  rfl

theorem Sys2Proof.Laws.RequestFrame.setFollow (body : Bytes) :
    Sys2Proof.Laws.RequestFrame.Statement (.setFollow body) := by
  rintro _ _ ⟨⟩
  rfl

theorem Sys2Proof.Laws.RequestFrame.setTrafficWatch (body : Bytes) :
    Sys2Proof.Laws.RequestFrame.Statement (.setTrafficWatch body) := by
  rintro _ _ ⟨⟩
  rfl

theorem Sys2Proof.Laws.RequestFrame.trafficSkip (body : Bytes) :
    Sys2Proof.Laws.RequestFrame.Statement (.trafficSkip body) := by
  rintro _ _ ⟨⟩
  rfl

theorem Sys2Proof.Laws.RequestFrame.rearTune (body : Bytes) :
    Sys2Proof.Laws.RequestFrame.Statement (.rearTune body) := by
  rintro _ _ ⟨⟩
  rfl

theorem Sys2Proof.Laws.RequestFrame.setRearCeiling (body : Bytes) :
    Sys2Proof.Laws.RequestFrame.Statement (.setRearCeiling body) := by
  rintro _ _ ⟨⟩
  rfl

theorem Sys2Proof.Laws.RequestFrame.callState (body : Bytes) :
    Sys2Proof.Laws.RequestFrame.Statement (.callState body) := by
  rintro _ _ ⟨⟩
  rfl

theorem Sys2Proof.Laws.RequestFrame.callRoute (body : Bytes) :
    Sys2Proof.Laws.RequestFrame.Statement (.callRoute body) := by
  rintro _ _ ⟨⟩
  rfl

theorem Sys2Proof.Laws.RequestFrame.setUplinkMute (body : Bytes) :
    Sys2Proof.Laws.RequestFrame.Statement (.setUplinkMute body) := by
  rintro _ _ ⟨⟩
  rfl

theorem Sys2Proof.Laws.RequestFrame.setMicPolicy (body : Bytes) :
    Sys2Proof.Laws.RequestFrame.Statement (.setMicPolicy body) := by
  rintro _ _ ⟨⟩
  rfl

theorem Sys2Proof.Laws.RequestFrame.loadTest (body : Bytes) :
    Sys2Proof.Laws.RequestFrame.Statement (.loadTest body) := by
  rintro _ _ ⟨⟩
  rfl

theorem Sys2Proof.Laws.RequestFrame.setProtection (body : Bytes) :
    Sys2Proof.Laws.RequestFrame.Statement (.setProtection body) := by
  rintro _ _ ⟨⟩
  rfl

theorem Sys2Proof.Laws.RequestFrame.setMonitor (body : Bytes) :
    Sys2Proof.Laws.RequestFrame.Statement (.setMonitor body) := by
  rintro _ _ ⟨⟩
  rfl

theorem Sys2Proof.Laws.RequestFrame.retryChannel (body : Bytes) :
    Sys2Proof.Laws.RequestFrame.Statement (.retryChannel body) := by
  rintro _ _ ⟨⟩
  rfl

theorem Sys2Proof.Laws.RequestFrame.clearFault (body : Bytes) :
    Sys2Proof.Laws.RequestFrame.Statement (.clearFault body) := by
  rintro _ _ ⟨⟩
  rfl

theorem Sys2Proof.Laws.RequestFrame.getFaults (body : Bytes) :
    Sys2Proof.Laws.RequestFrame.Statement (.getFaults body) := by
  rintro _ _ ⟨⟩
  rfl

theorem Sys2Proof.Laws.RequestFrame.watchdogExpiry :
    Sys2Proof.Laws.RequestFrame.Statement .watchdogExpiry := by
  rintro _ _ ⟨⟩

theorem Sys2Proof.Laws.RequestFrame.clockLoss :
    Sys2Proof.Laws.RequestFrame.Statement .clockLoss := by
  rintro _ _ ⟨⟩

theorem Sys2Proof.Laws.RequestFrame.clockReturn :
    Sys2Proof.Laws.RequestFrame.Statement .clockReturn := by
  rintro _ _ ⟨⟩

theorem Sys2Proof.Laws.RequestFrame.rampStep :
    Sys2Proof.Laws.RequestFrame.Statement .rampStep := by
  rintro _ _ ⟨⟩

theorem Sys2Proof.Laws.RequestFrame.voicingBlockBoundary :
    Sys2Proof.Laws.RequestFrame.Statement .voicingBlockBoundary := by
  rintro _ _ ⟨⟩

theorem Sys2Proof.Laws.RequestFrame.holdTimerRunout (slot : Fin 16) :
    Sys2Proof.Laws.RequestFrame.Statement (.holdTimerRunout slot) := by
  rintro _ _ ⟨⟩

theorem Sys2Proof.Laws.RequestFrame.voicePhaseEnd (v : VoiceId) :
    Sys2Proof.Laws.RequestFrame.Statement (.voicePhaseEnd v) := by
  rintro _ _ ⟨⟩

theorem Sys2Proof.Laws.RequestFrame.tuneSettleEnd (rx : Rx) (m : Measurement) :
    Sys2Proof.Laws.RequestFrame.Statement (.tuneSettleEnd rx m) := by
  rintro _ _ ⟨⟩

theorem Sys2Proof.Laws.RequestFrame.qualityMeasurement (rx : Rx) (m : Measurement) :
    Sys2Proof.Laws.RequestFrame.Statement (.qualityMeasurement rx m) := by
  rintro _ _ ⟨⟩

theorem Sys2Proof.Laws.RequestFrame.seekStepEnd (m : Measurement) :
    Sys2Proof.Laws.RequestFrame.Statement (.seekStepEnd m) := by
  rintro _ _ ⟨⟩

theorem Sys2Proof.Laws.RequestFrame.rxBSettleEnd (m : Measurement) :
    Sys2Proof.Laws.RequestFrame.Statement (.rxBSettleEnd m) := by
  rintro _ _ ⟨⟩

theorem Sys2Proof.Laws.RequestFrame.dwellEnd :
    Sys2Proof.Laws.RequestFrame.Statement .dwellEnd := by
  rintro _ _ ⟨⟩

theorem Sys2Proof.Laws.RequestFrame.dataGroup (rx : Rx) (code : Nat) (payload : Payload) :
    Sys2Proof.Laws.RequestFrame.Statement (.dataGroup rx code payload) := by
  rintro _ _ ⟨⟩

theorem Sys2Proof.Laws.RequestFrame.trafficTimerRunout (rx : Rx) :
    Sys2Proof.Laws.RequestFrame.Statement (.trafficTimerRunout rx) := by
  rintro _ _ ⟨⟩

theorem Sys2Proof.Laws.RequestFrame.lowTimerRunout :
    Sys2Proof.Laws.RequestFrame.Statement .lowTimerRunout := by
  rintro _ _ ⟨⟩

theorem Sys2Proof.Laws.RequestFrame.checkTimeout :
    Sys2Proof.Laws.RequestFrame.Statement .checkTimeout := by
  rintro _ _ ⟨⟩

theorem Sys2Proof.Laws.RequestFrame.switchSettleEnd (m : Measurement) :
    Sys2Proof.Laws.RequestFrame.Statement (.switchSettleEnd m) := by
  rintro _ _ ⟨⟩

theorem Sys2Proof.Laws.RequestFrame.blindCheckDecision (m : Measurement) :
    Sys2Proof.Laws.RequestFrame.Statement (.blindCheckDecision m) := by
  rintro _ _ ⟨⟩

theorem Sys2Proof.Laws.RequestFrame.afReturnSettleEnd (m : Measurement) :
    Sys2Proof.Laws.RequestFrame.Statement (.afReturnSettleEnd m) := by
  rintro _ _ ⟨⟩

theorem Sys2Proof.Laws.RequestFrame.verifyTimeout :
    Sys2Proof.Laws.RequestFrame.Statement .verifyTimeout := by
  rintro _ _ ⟨⟩

theorem Sys2Proof.Laws.RequestFrame.backoffRunout :
    Sys2Proof.Laws.RequestFrame.Statement .backoffRunout := by
  rintro _ _ ⟨⟩

theorem Sys2Proof.Laws.RequestFrame.carrierJudgement :
    Sys2Proof.Laws.RequestFrame.Statement .carrierJudgement := by
  rintro _ _ ⟨⟩

theorem Sys2Proof.Laws.RequestFrame.bridgeTimerRunout :
    Sys2Proof.Laws.RequestFrame.Statement .bridgeTimerRunout := by
  rintro _ _ ⟨⟩

theorem Sys2Proof.Laws.RequestFrame.jackStateChange (h : Hp) (inserted : Bool) :
    Sys2Proof.Laws.RequestFrame.Statement (.jackStateChange h inserted) := by
  rintro _ _ ⟨⟩

theorem Sys2Proof.Laws.RequestFrame.monitorSample (sample : Sample) :
    Sys2Proof.Laws.RequestFrame.Statement (.monitorSample sample) := by
  rintro _ _ ⟨⟩

theorem Sys2Proof.Laws.RequestFrame.erleEstimate (erle : Nat) (downlink : Int) :
    Sys2Proof.Laws.RequestFrame.Statement (.erleEstimate erle downlink) := by
  rintro _ _ ⟨⟩

theorem Sys2Proof.Laws.RequestFrame.convergenceTimerRunout :
    Sys2Proof.Laws.RequestFrame.Statement .convergenceTimerRunout := by
  rintro _ _ ⟨⟩

theorem Sys2Proof.Laws.RequestFrame.divergenceTimerRunout :
    Sys2Proof.Laws.RequestFrame.Statement .divergenceTimerRunout := by
  rintro _ _ ⟨⟩

theorem Sys2Proof.Laws.RequestFrame.noiseEstimate (levelFL levelFR : Int) :
    Sys2Proof.Laws.RequestFrame.Statement (.noiseEstimate levelFL levelFR) := by
  rintro _ _ ⟨⟩

theorem Sys2Proof.Laws.RequestFrame.limitEngage (k : Amp) :
    Sys2Proof.Laws.RequestFrame.Statement (.limitEngage k) := by
  rintro _ _ ⟨⟩

theorem Sys2Proof.Laws.RequestFrame.limitRelease (k : Amp) :
    Sys2Proof.Laws.RequestFrame.Statement (.limitRelease k) := by
  rintro _ _ ⟨⟩

theorem Sys2Proof.Laws.RequestFrame.softStartEnd (k : Amp) :
    Sys2Proof.Laws.RequestFrame.Statement (.softStartEnd k) := by
  rintro _ _ ⟨⟩

theorem Sys2Proof.Laws.RequestFrame.tripTimerRunout (k : Amp) :
    Sys2Proof.Laws.RequestFrame.Statement (.tripTimerRunout k) := by
  rintro _ _ ⟨⟩

theorem Sys2Proof.Laws.RequestFrame.retryTimerRunout (k : Amp) :
    Sys2Proof.Laws.RequestFrame.Statement (.retryTimerRunout k) := by
  rintro _ _ ⟨⟩

theorem Sys2Proof.Laws.RequestFrame.loadTestCheckEnd (registered : Bool) :
    Sys2Proof.Laws.RequestFrame.Statement (.loadTestCheckEnd registered) := by
  rintro _ _ ⟨⟩

theorem Sys2Proof.Laws.RequestFrame.openTimerRunout (k : Amp) :
    Sys2Proof.Laws.RequestFrame.Statement (.openTimerRunout k) := by
  rintro _ _ ⟨⟩
end

