-- ==== Sys2Proof/Laws/Port.lean ====
section
/-! SUPPORT. What a frame's arrival can do, said once (R2, R11, R12, R84), and the three answers of a request. -/

namespace Sys2Proof.Machine

/-- The reply touches the Control Port alone. -/
theorem setReply_eq (k : Byte) (st : Status) (b : Bytes) (s : State) :
    setReply k st b s = { s with cp := { s.cp with reply := some { kind := k, status := st, body := b } } } := rfl

/-- Lifting a quiet flag touches the Zone Router and the Control Port alone. -/
theorem setQuiet_eq (z : Zone) (q : Bool) (s : State) :
    setQuiet z q s = { s with cp := (setQuiet z q s).cp, zr := (setQuiet z q s).zr } := by
  unfold setQuiet
  split <;> rfl

theorem liftQuiet_eq (s : State) :
    liftQuiet s = { s with cp := (liftQuiet s).cp, zr := (liftQuiet s).zr } := by
  unfold liftQuiet
  generalize Zone.all = l
  have key : ∀ (l : List Zone) (t : State), t = { s with cp := t.cp, zr := t.zr } →
      l.foldl (fun s z => setQuiet z false s) t =
        { s with cp := (l.foldl (fun s z => setQuiet z false s) t).cp
                 zr := (l.foldl (fun s z => setQuiet z false s) t).zr } := by
    intro l
    induction l with
    | nil => exact fun t ht => ht
    | cons z l ih =>
      intro t ht
      simp only [List.foldl_cons]
      apply ih
      rw [setQuiet_eq, ht]
  exact key l s rfl

/-- A good frame touches the Control Port, the operating state and the quiet flags alone. -/
theorem goodFrame_eq (s : State) :
    goodFrame s = { s with cp := (goodFrame s).cp, sc := (goodFrame s).sc, zr := (goodFrame s).zr } := by
  unfold goodFrame
  split
  · rfl
  · rfl
  · unfold linkRestored
    split
    · rw [liftQuiet_eq]
      rfl
    · rfl

/-- Outside FAILSAFE a frame's arrival sets the watchdog and ends load mode, and nothing else. -/
theorem arrival_of_not_failsafe (k : Byte) (s : State) (h : s.sc.opState ≠ .failsafe) :
    arrival k s =
      { s with cp := { s.cp with watchdog := (arrival k s).cp.watchdog }
               patterns := { s.patterns with
                 load := if k = Kind.patternSegment.code then s.patterns.load else none } } := by
  unfold arrival goodFrame
  split <;> split <;> simp [endLoad, setWatchdog, linkRestored, h, State.modCp, State.modPatterns]

/-- The state check of R16 sees the operating state that the good frame has left. -/
theorem arrival_opState (k : Byte) (s : State) : (arrival k s).sc = (goodFrame s).sc := by
  unfold arrival
  split <;> rfl

/-- A request whose length is not allowed answers BAD_LENGTH. -/
theorem request_badLength (k : Kind) (body : Bytes) (act : State → Answer) (s : State)
    (h : lengthAllowed k body = false) : request k body act s = (atRequest k s).refusing k .badLength := by
  simp [request, answerTo, h, refuse, State.refusing, State.replying, atRequest, setReply, State.modCp]

/-- A request that the operating state does not accept answers WRONG_STATE. -/
theorem request_wrongState (k : Kind) (body : Bytes) (act : State → Answer) (s : State)
    (h : lengthAllowed k body = true) (h' : accepted k (atRequest k s).sc.opState = false) :
    request k body act s = (atRequest k s).refusing k .wrongState := by
  have h'' : accepted k (arrival k.code s).sc.opState = false := h'
  simp [request, answerTo, h, h'', refuse, State.refusing, State.replying, atRequest, setReply, State.modCp]

/-- A request that passes both checks takes its owner's answer. -/
theorem request_acts (k : Kind) (body : Bytes) (act : State → Answer) (s : State)
    (h : lengthAllowed k body = true) (h' : Ready k s) :
    request k body act s =
      settle ((act (atRequest k s)).state.replying k (act (atRequest k s)).status (act (atRequest k s)).body) := by
  have h'' : accepted k (arrival k.code s).sc.opState = true := h'
  simp [request, answerTo, h, h'', State.replying, atRequest, setReply, State.modCp]

end Sys2Proof.Machine
end

