-- ==== Sys2Proof/Tests/Slice0.lean ====
section
/-! SUPPORT. Tests of the model. Expected values come from the manual's tables and worked examples (the section stands
before each group); a `witness_` theorem shows concrete states and operands that meet the hypotheses of the statement it is
named for, clause by clause. -/

namespace Sys2Proof.Tests

open Sys2Proof.Machine

set_option maxRecDepth 20000

/-! ### Small states -/

/-- The state a command leaves. -/
def after (i : Instr) (s : State) : State :=
  match exec i s with
  | .next t => t
  | _ => s

/-- The status and the body of the pending reply. -/
def answer (s : State) : Option (Status × Bytes) := s.cp.reply.map (fun r => (r.status, r.body))

/-- The status of the pending reply. -/
def status (s : State) : Option Status := s.cp.reply.map Reply.status

/-- Whether a report of a kind waits. -/
def told (s : State) (k : ReportKind) : Bool := s.cp.reports.any (fun r => r.kind == k)

/-- The data of the first waiting report of a kind. -/
def dataOf (s : State) (k : ReportKind) : Option Bytes := (s.cp.reports.find? (fun r => r.kind == k)).map Report.data

/-- Right after power-on, in another operating state. -/
def inState (o : OpState) : State := { State.reset with sc := { State.reset.sc with opState := o } }

def cfg : State := inState .config

/-- CONFIG with the edit window open. -/
def edit : State := { cfg with safety := { cfg.safety with windowOpen := true } }

def role (c : Cabin) (p : Position) : Option Role := some (.zone c p)

/-- AMP1 and AMP2 serve FRONT, AMP6 and AMP7 serve REAR, AMP9 serves LOAD, DOUT1 serves FRONT; everything is fitted. -/
def fitted : Install :=
  { Install.reset with
    ampRole := #v[role .front .left, role .front .right, none, none, none, role .rear .left, role .rear .right, none,
      role .load .sub, none]
    doutRole := #v[role .front .centre, none, none, none, none, none]
    hpFitted := PerHp.all (some true), micFitted := PerMic.all (some true) }

def amp (st : AmpState) : AmpChannel := { AmpChannel.reset with state := st }

/-- A part in RUN, locked, with its channels ON, its jacks plugged, RX-A LOCKED on FM 210 with Qs 58, and the sweep on
FM 0. -/
def run : State :=
  { State.reset with
    cp := { ControlPort.reset with watchdog := .counting 1000 }
    sc := { opState := .run, resetCause := .powerOn, failsafeMs := 0 }
    install := fitted
    safety := { Safety.reset with locked := true }
    zr := { ZoneRouter.reset with hps := PerHp.all { HpZone.reset with jack := true } }
    rx := { Receivers.reset with
      a := { Receiver.reset with state := .locked, station := ⟨.fm, 210⟩, qs := some 58 }
      b := { Receiver.reset with state := .scanning, settle := some 20 }
      lastTuned := ⟨.fm, 210⟩ }
    slm := { StationManager.reset with holder := .scan }
    os := { OutputStage.reset with
      amps := #v[amp .on, amp .on, amp .unused, amp .unused, amp .unused, amp .on, amp .on, amp .unused, amp .on,
        amp .unused]
      douts := #v[.on, .unused, .unused, .unused, .unused, .unused], hps := PerHp.all .on } }

/-- The part in CONFIG with its installation written and locked. -/
def ready : State :=
  { cfg with
    install := fitted, safety := { Safety.reset with locked := true }
    os := { OutputStage.reset with
      amps := #v[amp .off, amp .off, amp .unused, amp .unused, amp .unused, amp .off, amp .off, amp .unused, amp .off,
        amp .unused]
      douts := #v[.off, .unused, .unused, .unused, .unused, .unused] } }

/-- A state whose link watchdog has expired. -/
def failsafe : State :=
  { run with sc := { run.sc with opState := .failsafe, failsafeMs := 2300 }, cp := { run.cp with watchdog := .expired } }

def standby : State :=
  { run with sc := { run.sc with opState := .standby }, cp := { run.cp with watchdog := .stopped } }

/-- RX-A changed. -/
def withA (f : Receiver → Receiver) (s : State) : State := { s with rx := { s.rx with a := f s.rx.a } }

/-- RX-B changed. -/
def withB (f : Receiver → Receiver) (s : State) : State := { s with rx := { s.rx with b := f s.rx.b } }

/-- The station list manager changed. -/
def withSlm (f : StationManager → StationManager) (s : State) : State := { s with slm := f s.slm }

/-- Alternate following changed. -/
def withAf (f : Following → Following) (s : State) : State := { s with af := f s.af }

/-- The traffic watch changed. -/
def withTw (f : TrafficWatch → TrafficWatch) (s : State) : State := { s with tw := f s.tw }

/-- The call context changed. -/
def withCall (f : CallContext → CallContext) (s : State) : State := { s with clp := f s.clp }

/-- AMP1 changed. -/
def withAmp1 (f : AmpChannel → AmpChannel) (s : State) : State :=
  { s with os := { s.os with amps := s.os.amps.set 0 (f s.os.amps[0]) } }

/-- HPL changed. -/
def withHpl (f : HpZone → HpZone) (s : State) : State :=
  { s with zr := { s.zr with hps := { s.zr.hps with hpl := f s.zr.hps.hpl } } }

/-- A measurement without interference. -/
def level (l : Nat) : Measurement := { level := l, multipath := 0, adjacent := 0 }

/-! ### Which commands can reach the part (R2, R102, section 5.2, R150) -/

theorem test_wf_good_frame_is_no_frame_error : (Instr.frameError (requestFrame 0x01#8 [])).wellFormed = false := by decide
theorem test_wf_frame_error_of_65_bytes : (Instr.frameError (List.replicate 65 0#8)).wellFormed = false := by decide
theorem test_wf_known_kind_is_not_unknown : (Instr.unknownKind 0x01#8).wellFormed = false := by decide
theorem test_wf_level_91 : (Instr.tuneSettleEnd .a (level 91)).wellFormed = false := by decide
theorem test_wf_multipath_101 : (Instr.qualityMeasurement .b ⟨0, 101, 0⟩).wellFormed = false := by decide
theorem test_wf_adjacent_101 : (Instr.seekStepEnd ⟨0, 0, 101⟩).wellFormed = false := by decide
theorem test_wf_settle_b : (Instr.rxBSettleEnd (level 91)).wellFormed = false := by decide
theorem test_wf_switch : (Instr.switchSettleEnd (level 91)).wellFormed = false := by decide
theorem test_wf_blind : (Instr.blindCheckDecision (level 91)).wellFormed = false := by decide
theorem test_wf_return : (Instr.afReturnSettleEnd (level 91)).wellFormed = false := by decide
theorem test_wf_code_of_17_bits : (Instr.dataGroup .a 65536 (.flags true true)).wellFormed = false := by decide
theorem test_wf_alternate_of_17_bits : (Instr.dataGroup .a 1 (.alternates 65536 0)).wellFormed = false := by decide
theorem test_wf_temperature_176 : (Instr.monitorSample (.temperature .b1 176)).wellFormed = false := by decide
theorem test_wf_supply_251 : (Instr.monitorSample (.supply 251)).wellFormed = false := by decide
theorem test_wf_erle_41 : (Instr.erleEstimate 41 0).wellFormed = false := by decide
theorem test_wf_body_of_61_bytes : (Instr.poll (List.replicate 61 0#8)).wellFormed = false := by decide
theorem test_wf_poll : (Instr.poll []).wellFormed = true := by decide

/-! ### Frames (sections 1.1 and 12.2) -/

/-- R165: the check byte over 63 bytes of 0x00 is 0x1A. -/
theorem test_check_byte : checkByte (List.replicate 63 0#8) = 0x1A#8 := by decide

/-- Section 1.4: a transfer of 0xFF throughout is turned away, and the reply echoes its kind byte. -/
theorem test_idle_bytes :
    (after (receive (List.replicate 64 0xFF#8)) run).cp.reply = some ⟨0xFF#8, .frameError, []⟩ := by decide
theorem test_short_transfer : receive [0xA5#8, 0x01#8] = .frameError [0xA5#8, 0x01#8] := by decide
theorem test_kind_0x37 : receive (requestFrame 0x37#8 []) = .unknownKind 0x37#8 := by decide
theorem test_unknown_kind : status (after (.unknownKind 0#8) run) = some .unknownKind := by decide
theorem test_get_faults_frame : receive (requestFrame 0x36#8 []) = .getFaults [] := by decide

/-! ### The Control Port (chapter 1) -/

theorem test_poll : answer (after (.poll []) (post .tuneDone 0 [] run)) = some (.ok, [1#8, 0#8]) := by decide
theorem test_fetch : (after (.fetchReports []) (post .tuneDone 0 [] run)).cp.attnLow = false := by decide
theorem test_mask : (after (.setReportMask [0#8, 8#8, 0#8, 0#8, 0#8]) run).cp.masked = [.tuneDone] := by decide
theorem test_part_state :
    (answer (after (.getPartState []) run)).map (fun a => a.2.take 6) =
      some [0x0c#8, 0x16#8, 1#8, 0#8, 2#8, 1#8] := by decide
theorem test_expiry : (after .watchdogExpiry run).sc.opState = .failsafe := by decide

/-- R20: 2.3 s in FAILSAFE are reported as 23. -/
theorem test_link_restored : (dataOf (after (.poll []) failsafe) .failsafeLeft).map (·.take 2) = some [0#8, 23#8] := by decide

/-! ### First bring-up (section 2.8) -/

theorem test_power_on : (after .powerOnReset run).sc.opState = .boot := by decide
theorem test_initialised : told (after .initialisationComplete State.reset) .partReady = true := by decide
theorem test_install_role : (after (.setInstall [2#8, 0#8, 1#8]) cfg).install.ampRole[1] = role .front .right := by decide
theorem test_bridge_conflict :
    status (after (.setInstall [17#8, 0#8, 1#8]) (after (.setInstall [2#8, 0#8, 1#8]) cfg)) = some .conflict := by decide
theorem test_get_install : (answer (after (.getInstall []) cfg)).map (fun a => a.2.length) = some 52 := by decide
theorem test_not_locked : status (after (.startAudio []) { ready with safety := Safety.reset }) = some .notLocked := by decide
theorem test_open_edit : (after (.openSafetyEdit []) cfg).safety.windowOpen = true := by decide

/-- 1234 ms is applied as 1200. -/
theorem test_set_safety : (after (.setSafety [0#8, 4#8, 0xd2#8]) edit).safety.config.watchdogMs = 1200 := by decide
theorem test_lock : (after (.lockSafety []) edit).safety.locked = true := by decide
theorem test_start_audio : (after (.startAudio []) ready).sc.opState = .run := by decide
theorem test_start_audio_amp : (after (.startAudio []) ready).os.amps[0].state = .starting := by decide
theorem test_wake : (after (.wake []) standby).os.amps[0].state = .off := by decide
theorem test_restart : (after (.restart []) run).sc = ⟨.boot, .restart, 0⟩ := by decide

/-! ### Zones and sources (chapters 3 and 9) -/

theorem test_select_source : (after (.selectSource [1#8, 2#8]) run).zr.cabin.base = some .meda := by decide
theorem test_volume : (after (.setVolume [0#8, 5#8, 41#8]) run).zr.cabin.volBase = 40 := by decide
theorem test_volume_at_ceiling : (after (.setVolume [3#8, 5#8, 40#8]) run).zr.hps.hpl.volBase = 30 := by decide
theorem test_mute : (after (.setMute [2#8, 1#8]) run).zr.zones.load.mute = true := by decide
theorem test_balance : (after (.setBalanceFader [0x80#8, 21#8]) run).zr.cabin.balance = -20 := by decide
theorem test_trim : (after (.setSourceTrim [2#8, 25#8]) run).zr.trims.meda = 24 := by decide
theorem test_duck : (after (.setClassDuck [3#8, 250#8]) run).zr.ducks.prompt = .num 240 := by decide
theorem test_speed_lift : (after (.setSpeedLift [9#8]) run).zr.cabin.speedLift = 4 := by decide
theorem test_rear_quiet : (after (.setRearQuiet [1#8, 255#8]) run).zr.cabin.rearQuiet = some .full := by decide
theorem test_get_zone : status (after (.getZone [4#8]) run) = some .ok := by decide
theorem test_prompt_start :
    (listOf (after (.promptStart [1#8]) run) (.cabin .front)).map Entry.cls = [.prompt, .base] := by decide
theorem test_prompt_end :
    answer (after (.promptEnd [1#8]) (after (.promptStart [3#8]) run)) = some (.ok, [2#8]) := by decide
theorem test_clock_loss : (after .clockLoss run).zr.clockLost = true := by decide
theorem test_clock_return : told (after .clockReturn (after .clockLoss run)) .clockRestored = true := by decide
theorem test_rear_tune : (after (.rearTune [3#8, 1#8, 0#8, 0#8, 100#8]) run).slm.holder = .rear ⟨.fm, 100⟩ := by decide

/-- R132: the station RX-A is on is heard through FGT. -/
theorem test_rear_tune_fgt : (after (.rearTune [3#8, 1#8, 0#8, 0#8, 210#8]) run).zr.hps.hpl.base = some .fgt := by decide
theorem test_ceiling : (after (.setRearCeiling [3#8, 10#8]) run).zr.hps.hpl.volBase = 10 := by decide
theorem test_jack : (after (.jackStateChange .hpl false) run).zr.hps.hpl.jack = false := by decide

/-! ### Gains (chapter 4) -/

/-- The voicing trim of section 4.7. -/
def trimmed : ChannelVoicing := { ChannelVoicing.reset with trim := -4 }

/-- The settings of section 4.7. -/
def composing : State :=
  { run with
    zr := { run.zr with
      cabin := { run.zr.cabin with base := some .meda, volBase := 30, balance := 4 }
      trims := { run.zr.trims with meda := 8 }
      zones := { run.zr.zones with front := { run.zr.zones.front with
        list := [⟨.prompt, some .prompt, false⟩, ⟨.base, some .meda, false⟩] } } }
    cu := { run.cu with values := run.cu.values.set 0 (some 100) }
    ge := { run.ge with voicing := (run.ge.voicing.set 0 trimmed).set 1 trimmed } }

theorem test_composed_left : pathTarget composing (.cabin .front) .base (some .meda) (.amp 0) = .num (-108) := by decide
theorem test_composed_right : pathTarget composing (.cabin .front) .base (some .meda) (.amp 1) = .num (-84) := by decide
theorem test_composed_prompt :
    pathTarget composing (.cabin .front) .prompt (some .prompt) (.amp 0) = .num (-140) := by decide

/-- Section 4.8. -/
theorem test_chime_gain : chimeGain composing (-40) (.amp 0) = -16 := by decide

/-- Section 4.8: the last row, lowered to the ceiling. -/
theorem test_chime_ceiling :
    chimeGain { composing with cu := { run.cu with values := run.cu.values.set 0 (some 250) } } 0 (.amp 0) = 0 := by decide

/-- Section 4.7: the seventh step of the fall stops at the target. -/
theorem test_ramp_down : rampStep (.num (-108)) (.num (-104)) = .num (-108) := by decide

/-- Section 4.10: a path leaves MUTE at -240. -/
theorem test_ramp_from_mute : rampStep (.num (-140)) .mute = .num (-240) := by decide
theorem test_ramp_command :
    ((after .rampStep (settle composing)).ge.paths.find? (fun p => p.cls == .prompt)).map Path.audible =
      some (.num (-240)) := by decide
theorem test_voicing :
    (after (.setVoicing ([1#8, 9#8, 1#8] ++ List.replicate 25 0#8)) cfg).ge.voicing[0].record.trim = 0 := by decide
theorem test_boundary : (after .voicingBlockBoundary run).ge.voicing[0].written = false := by
  simp [after, exec, execVoicingBlockBoundary, run, State.reset, GainEngine.reset, settle, State.modGe, State.modChimes,
    ChannelVoicing.boundary, ChannelVoicing.reset]

/-! ### Vehicle state and conditions (chapter 5) -/

theorem test_vehicle : heldValue (after (.vehicleState [1#8, 45#8, 0#8, 1#8, 2#8]) run) .speed = some 300 := by decide

/-- Section 5.6, slot 1: SUPPLY BELOW 105, hold 2000 ms. -/
def sagging : State :=
  after (.setCondition [1#8, 1#8, 8#8, 1#8, 0#8, 105#8, 0x07#8, 0xd0#8, 7#8, 13#8, 2#8, 24#8])
    { run with cu := { run.cu with values := run.cu.values.set 8 (some 138) } }

theorem test_condition_written : (sagging.cu.slots[1].map Condition.state) = some (some false) := by decide
theorem test_condition_pending :
    ((after (.monitorSample (.supply 102)) sagging).cu.slots[1].bind Condition.change) = some ⟨true, 2000⟩ := by decide
theorem test_condition_holds :
    ((after (.holdTimerRunout 1) (after (.monitorSample (.supply 102)) sagging)).cu.slots[1].map Condition.state) =
      some (some true) := by decide

/-! ### Signal sounds (chapter 6) -/

def segmentBody : Bytes := [3#8, 232#8, 0#8, 0xff#8, 0xd8#8, 0#8, 150#8, 0#8, 0#8, 50#8]

theorem test_pattern_load : (after (.patternLoad [1#8, 255#8]) edit).patterns.load = some (.slot 511) := by decide
theorem test_pattern_segment :
    (after (.patternSegment segmentBody) (after (.patternLoad [1#8, 255#8]) edit)).patterns.memory =
      [(511, ⟨1000, .sine, -40, 150, .left, 50⟩)] := by decide
theorem test_safety_lengths :
    [1, 2, 3, 4, 6, 7].map (fun n => lengthAllowed .setSafety (12#8 :: List.replicate (n - 1) 0#8)) =
        [false, true, true, true, true, false] ∧
      lengthAllowed .setSafety [3#8, 1#8] = false ∧ lengthAllowed .setSafety [3#8, 1#8, 1#8] = true := by decide
theorem test_bad_pattern :
    answer (after (.definePattern [7#8, 1#8, 0#8, 5#8, 0#8, 0#8, 0#8, 0#8, 4#8]) edit) =
      some (.badPattern, [0#8, 5#8]) := by decide

def oneTone : Segment := ⟨1000, .sine, -40, 150, .both, 0⟩

/-- The part of section 6.8: P12 of priority 2 and P10 of priority 6, one segment each. -/
def sounding : State :=
  { run with patterns :=
    { memory := [(0, oneTone)], load := none
      table := ((Vector.replicate 32 none).set 12 (some ⟨0, 1, .count 1, 0, 2⟩)).set 10 (some ⟨0, 1, .count 1, 0, 6⟩) } }

theorem test_chime_request : answer (after (.chimeRequest [10#8, 1#8]) sounding) = some (.ok, [10#8, 0#8, 1#8]) := by decide
theorem test_chime_placed :
    ((after (.chimeRequest [12#8, 1#8]) (after (.chimeRequest [10#8, 1#8]) sounding)).chimes.queue.map
      (fun e => (e.pattern.val, e.voice))) = [(12, some .v2), (10, some .v1)] := by decide
theorem test_chime_cancel :
    told (after (.chimeCancel [10#8]) (after (.chimeRequest [10#8, 1#8]) sounding)) .chimeEnded = true := by decide
theorem test_voice_phase :
    (after (.voicePhaseEnd .v1) (after (.chimeRequest [10#8, 1#8]) sounding)).chimes.v1 = none := by decide

/-- sounding with P3 of priority 1 and AMP6 as the fallback. -/
def ranked : State :=
  { sounding with
    patterns := { sounding.patterns with table := sounding.patterns.table.set 3 (some ⟨0, 1, .count 1, 0, 1⟩) }
    safety := { sounding.safety with config := { sounding.safety.config with fallback := [.amp 5] } } }

/-- P12 plays on V1 and P10 on V2. -/
def bothPlay : State := after (.chimeRequest [10#8, 1#8]) (after (.chimeRequest [12#8, 1#8]) ranked)

/-- R91: P3 preempts P10, the lower-ranked. -/
theorem test_preemption :
    (after (.chimeRequest [3#8, 2#8]) bothPlay).chimes.queue.map (fun e => (e.pattern.val, e.voice)) =
      [(3, some .v2), (12, some .v1), (10, none)] := by decide

/-- R94, R95: LOAD has SUB channels alone, and FRONT's centre channel is a candidate for BOTH. -/
theorem test_reroute :
    ((after (.chimeRequest [12#8, 4#8]) ranked).chimes.v1.map (fun v => v.paths.map (fun p => (p.zone, p.chan)))) =
      some [(.load, .amp 5)] ∧
    dataOf (after (.chimeRequest [12#8, 4#8]) ranked) .chimeRerouted = some [2#8, 1#8, 6#8, 0#8, 0#8, 0#8, 0#8, 0#8, 0#8, 0#8] := by
  decide
theorem test_candidates :
    ((after (.chimeRequest [12#8, 1#8]) ranked).chimes.v1.map (fun v => v.paths.map ChimePath.chan)) =
      some [.amp 0, .amp 1, .dout 0] := by decide

/-- R90, R91: a chime that outranks neither voice waits. -/
theorem test_waits :
    (after (.chimeRequest [10#8, 1#8]) (after (.chimeRequest [12#8, 1#8]) (after (.chimeRequest [3#8, 1#8]) ranked))
      ).chimes.queue.map (fun e => (e.pattern.val, e.voice)) = [(3, some .v1), (12, some .v2), (10, none)] := by decide

/-! ### Receivers (chapter 7) -/

/-- R102: the two worked values. -/
theorem test_quality_fm : quality .fm ⟨40, 20, 12⟩ = 47 := by decide
theorem test_quality_am : quality .am ⟨55, 0, 30⟩ = 63 := by decide

/-- R103: from 47, measurements of 20 give 40, 35, 31, 28 and 26. -/
theorem test_smoothed : [40, 35, 31, 28, 26] = [47, 40, 35, 31, 28].map (fun q => smoothed q 20) := by decide
theorem test_measurement : (after (.qualityMeasurement .a (level 20)) run).rx.a.qs = some 48 := by decide

/-- Section 1.4, transfer 1, and its TUNE_DONE. -/
theorem test_tune : (after (.tune [0#8, 0#8, 210#8]) run).rx.a.settle = some 20 := by decide
theorem test_tune_done :
    told (after (.tuneSettleEnd .a (level 40)) (after (.tune [0#8, 0#8, 210#8]) run)) .tuneDone = true := by decide
theorem test_step : (after (.step [0x80#8]) run).rx.a.station = ⟨.fm, 146⟩ := by decide
theorem test_seek : (after (.seek [0#8]) run).rx.a.station = ⟨.fm, 211⟩ := by decide

/-- Section 7.8: below the threshold the seek moves on; a TUNE then ends it with SEEK_ABORTED. -/
theorem test_seek_moves : (after (.seekStepEnd (level 16)) (after (.seek [0#8]) run)).rx.a.station = ⟨.fm, 212⟩ := by decide
theorem test_seek_aborted :
    dataOf (after (.tune [0#8, 1#8, 44#8]) (after (.seek [0#8]) run)) .seekAborted =
      some [0#8, 0#8, 211#8, 0x21#8, 0#8, 0#8, 0#8, 0#8, 0#8, 0#8] := by decide
theorem test_reception : (after (.setReception [101#8]) run).rx.threshold = 100 := by decide

/-- Section 7.9 with RX-A on FM 162. -/
def onRecord (r : DataRecord) : State :=
  withA (fun a => { a with station := ⟨.fm, 162⟩, record := r }) { run with rx := { run.rx with lastTuned := ⟨.fm, 162⟩ } }

theorem test_group_proposes :
    (after (.dataGroup .a 0x4E21 (.name 0 0x43#8 0x49#8)) (onRecord DataRecord.empty)).rx.a.record =
      { DataRecord.empty with candidate := some 0x4E21 } := by decide
theorem test_group_confirms :
    (after (.dataGroup .a 0x4E21 (.alternates 162 208))
      (onRecord { DataRecord.empty with candidate := some 0x4E21 })).rx.a.record.alternates = [208] := by decide
theorem test_traffic_timer :
    (after (.trafficTimerRunout .a) (onRecord { DataRecord.empty with
      code := some 0x4E21, trafficOn := true, timer := some 2000 })).rx.a.record.trafficOn = false := by decide

/-- R116: an entry without a code learns RX-A's at a change that is handed on, and at no other group. -/
def entryCode (i : Instr) : Option Nat :=
  (listEntry (after i (withSlm (fun m => { m with entries := [freshEntry ⟨.fm, 162⟩ 60] })
    (onRecord { DataRecord.empty with
      code := some 7, trafficOn := true, timer := some 0
      segments := #v[some (65#8, 66#8), none, none, none] }))) ⟨.fm, 162⟩).bind ListEntry.code

theorem test_same_group_teaches_nothing :
    (entryCode (.dataGroup .a 7 (.name 0 65#8 66#8)), entryCode (.dataGroup .a 7 (.name 1 65#8 66#8))) = (none, none) := by
  decide
theorem test_handed_change_teaches :
    (entryCode (.dataGroup .a 7 (.alternates 5 9)), entryCode (.dataGroup .a 7 (.flags true true)),
      entryCode (.trafficTimerRunout .a)) = (some 7, some 7, some 7) := by decide

/-! ### The station list, following and traffic (chapter 8) -/

def listed (i q : Nat) : ListEntry := { freshEntry ⟨.fm, i⟩ q with code := some 1 }

theorem test_get_station :
    (answer (after (.getStation [0#8, 0#8, 0#8, 0#8]) (withSlm (fun m => { m with entries := [listed 5 60] }) run))).map
      (fun a => a.2.take 5) = some [0#8, 0#8, 0#8, 5#8, 60#8] := by decide
theorem test_quick_measure : (after (.rxBSettleEnd (level 60)) run).slm.dwell = some 400 := by decide
theorem test_weak_index : (after (.rxBSettleEnd (level 10)) run).slm.position = ⟨.fm, 1⟩ := by decide
theorem test_dwell_end :
    told (after .dwellEnd (withSlm (fun m => { m with dwell := some 0, position := ⟨.fm, 410⟩ }) run)) .scanDone =
      true := by decide

/-- R117, R120: an entry not seen leaves with STATION_LIST_CHANGED before SCAN_DONE. -/
theorem test_removed_before_done :
    ((after .dwellEnd (withSlm (fun m => { m with
        dwell := some 0, position := ⟨.fm, 410⟩, entries := [{ listed 5 60 with age := 2, seen := false }] })
      run)).cp.reports.map Report.kind) = [.stationListChanged, .scanDone] := by decide
theorem test_scan_now :
    (after (.scanNow []) (withSlm (fun m => { m with position := ⟨.fm, 77⟩ }) run)).slm.position = ⟨.fm, 0⟩ := by decide
theorem test_set_scan : (after (.setScan [0#8, 1#8, 40#8]) run).slm.holder = .none := by decide

/-- RX-A LOCKED on FM 3 with code 1 and the alternates 5 and 9, of which 9 is listed. -/
def fading : State :=
  withSlm (fun m => { m with entries := [listed 9 40] })
    (withA (fun a => { a with
        station := ⟨.fm, 3⟩, qs := some 20, record := { DataRecord.empty with code := some 1, alternates := [5, 9] } })
      { run with rx := { run.rx with lastTuned := ⟨.fm, 3⟩ } })

def low : State := withAf (fun f => { f with state := .low, timer := some 0 }) fading

/-- A check of FM 9 on RX-B is in flight, and FM 5 is left. -/
def checking : State :=
  withSlm (fun m => { m with holder := .check })
    (withB (fun b => { b with state := .checking, station := ⟨.fm, 9⟩, settle := some 20 })
      (withAf (fun f => { f with
        state := .attempt, timer := some 150, oldIndex := some 3, code := some 1, current := some 9
        candidates := [5], tried := 1 }) fading))

/-- RX-A settles on FM 9 for a purpose. -/
def moving (p : TunePurpose) : State :=
  withAf (fun f => { f with
      state := .attempt, oldIndex := some 3, code := some 1, current := some 9, candidates := [5], tried := 1
      passed := some 50 })
    (withA (fun a => { a with state := .tuning, station := ⟨.fm, 9⟩, settle := some 20, record := DataRecord.empty })
      { fading with rx := { fading.rx with purpose := p } })

def verifying : State :=
  withAf (fun f => { f with
      state := .verify, timer := some 1000, oldIndex := some 3, code := some 1, current := some 9, candidates := [5]
      tried := 1, passed := some 50 })
    (withA (fun a => { a with station := ⟨.fm, 9⟩, record := { DataRecord.empty with candidate := some 1 } }) fading)

theorem test_low_begins : (after (.qualityMeasurement .a (level 10)) fading).af.state = .low := by decide
theorem test_attempt_begins : (after .lowTimerRunout low).slm.holder = .check := by decide
theorem test_listed_first : (after .lowTimerRunout low).af.current = some 9 := by decide
theorem test_check_timeout : (after .checkTimeout checking).af.current = some 5 := by decide
theorem test_switched : told (after (.switchSettleEnd (level 60)) (moving .switch)) .afSwitched = true := by decide
theorem test_blind_passes : (after (.blindCheckDecision (level 60)) (moving .blind)).af.state = .verify := by decide
theorem test_blind_fails : (after (.blindCheckDecision (level 20)) (moving .blind)).rx.a.station = ⟨.fm, 3⟩ := by decide
theorem test_return : (after (.afReturnSettleEnd (level 20)) (moving .back)).af.current = some 5 := by decide
theorem test_verify_timeout : told (after .verifyTimeout verifying) .afReverted = true := by decide
theorem test_verified : told (after (.dataGroup .a 1 (.flags false false)) verifying) .afSwitched = true := by decide
theorem test_backoff :
    (after .backoffRunout (withAf (fun f => { f with state := .backoff, timer := some 0 }) run)).af.state = .idle := by
  decide
theorem test_set_follow : (after (.setFollow [0#8]) run).af.follow = false := by decide

/-- An announcement sounds in FRONT. -/
def announcing : State :=
  { withTw (fun w => { w with
      on := true, bridge := some 0
      announcement := some { zones := ⟨true, false, false⟩, sounding := ⟨true, false, false⟩, deferred := CabinSet.none } })
      run with
    zr := { run.zr with zones := { run.zr.zones with front := { run.zr.zones.front with
      list := [⟨.traffic, some .fgt, false⟩, ⟨.base, none, false⟩] } } }
    cp := { run.cp with reports := [] } }

theorem test_traffic_watch : (after (.setTrafficWatch [1#8, 4#8]) run).tw.zones = ⟨false, false, true⟩ := by decide
theorem test_traffic_skip : (dataOf (after (.trafficSkip []) announcing) .trafficEnded).map (·.take 1) = some [2#8] := by decide
theorem test_bridge_timer : (listOf (after .bridgeTimerRunout announcing) (.cabin .front)).length = 1 := by decide
theorem test_no_carrier :
    told (after .carrierJudgement (withTw (fun w => { w with on := true, codeHeld := some 2000 }) fading))
      .trafficNoCarrier = true := by decide

/-! ### Calls (section 10.8) -/

def callHpl : State := withCall (fun c => { c with route := .hp .hpl, state := .active }) run

def callCabin : State :=
  withCall (fun c => { c with state := .active, canceller := .converging, erle := some 0, restarts := 1 }) run

theorem test_standby : status (after (.standby []) callCabin) = some .wrongState := by decide
theorem test_call_route : (after (.callRoute [1#8]) run).clp.selection = ⟨⟨false, false, true, false⟩, .route⟩ := by decide
theorem test_call_state : (listOf (after (.callState [1#8]) run) (.cabin .rear)).map Entry.cls = [.call, .base] := by decide
theorem test_bad_transition : status (after (.callState [3#8]) run) = some .badTransition := by decide
theorem test_mic_fault :
    (after (.monitorSample (.micBias .rl false)) callHpl).clp.selection = ⟨⟨false, false, false, true⟩, .route⟩ := by decide
theorem test_jack_fallback : (after (.jackStateChange .hpl false) callHpl).clp.restarts = 1 := by decide
theorem test_erle : (after (.erleEstimate 18 (-30)) callCabin).clp.convergence = some 500 := by decide
theorem test_attenuated : (after (.erleEstimate 18 (-40)) callCabin).clp.attenuated = false := by decide
theorem test_converged :
    (after .convergenceTimerRunout (withCall (fun c => { c with convergence := some 0 }) callCabin)).clp.canceller =
      .converged := by decide
theorem test_diverged :
    (after .divergenceTimerRunout
      (withCall (fun c => { c with canceller := .converged, divergence := some 0 }) callCabin)).clp.restarts = 2 := by decide
theorem test_call_volume : (after (.setVolume [0#8, 2#8, 26#8]) callCabin).clp.restarts = 2 := by decide
theorem test_mic_policy : (after (.setMicPolicy [0#8]) run).clp.selection.mics = ⟨true, false, false, false⟩ := by decide

/-- R148: SET_MIC_POLICY posts no report, though FL is FAULTY. -/
theorem test_mic_policy_posts_nothing :
    (after (.setMicPolicy [0#8]) (withCall (fun c => { c with faulty := { c.faulty with fl := true } }) run)).cp.reports =
      [] := by decide
theorem test_uplink_mute : (after (.setUplinkMute [1#8]) run).clp.uplinkMute = true := by decide
theorem test_noise : heldValue (after (.noiseEstimate 60 65) run) .cabinNoise = some 62 := by decide

/-! ### The Output Stage (section 11.10 and chapter 11) -/

def bank2At (l : Nat) (f : Bool) (s : State) : State := { s with os := { s.os with bank2 := ⟨l, f⟩ } }

theorem test_level_1 : (after (.monitorSample (.temperature .b2 141)) run).os.bank2 = ⟨1, false⟩ := by decide
theorem test_shutdown : (after (.monitorSample (.temperature .b2 171)) (bank2At 3 false run)).os.amps[5].state = .faultWait := by
  decide
theorem test_level_falls : (after (.monitorSample (.temperature .b2 155)) (bank2At 3 true run)).os.bank2 = ⟨2, true⟩ := by decide
theorem test_cooled :
    (after (.monitorSample (.temperature .b2 135))
      (after (.monitorSample (.temperature .b2 171)) (bank2At 1 false run))).os.bank2.shutdown = false := by decide
theorem test_supply_low : (after (.monitorSample (.supply 89)) run).os.supply = .undervoltage := by decide
theorem test_open_timer :
    (after (.monitorSample (.ampCurrent 0 true (-19))) run).os.amps[0].openTimer = some 2000 := by decide
theorem test_hp_short : (after (.monitorSample (.hpCurrent .hpl true)) run).os.hps.hpl = .heldOff := by decide
theorem test_load_test : (after (.loadTest [0#8, 3#8]) ready).os.amps[0].state = .diag := by decide
theorem test_check_registers :
    ((after (.loadTestCheckEnd true) (after (.loadTest [0#8, 3#8]) ready)).os.loadTest.map LoadTest.found) =
      some (some .shortBat) := by decide
theorem test_protection : (after (.setProtection [1#8, 65#8, 0#8, 3#8]) run).os.protection = ⟨.latchOff, 64, .latched, .ms4⟩ := by
  decide
theorem test_monitor_refuses_supply : status (after (.setMonitor [0#8, 0x10#8, 0#8]) run) = some .outOfRange := by decide
theorem test_monitor : (after (.setMonitor [0#8, 0x20#8, 1#8]) run).os.excluded = [.amp 0, .mic .fl] := by decide
theorem test_get_faults : (answer (after (.getFaults []) run)).map (fun a => a.2.length) = some 53 := by decide
theorem test_retry_wrong_state : status (after (.retryChannel [1#8]) run) = some .wrongState := by decide
theorem test_retry :
    (after (.retryChannel [1#8]) (withAmp1 (fun _ => amp .faultLatched) run)).os.amps[0].state = .starting := by decide
theorem test_clear_fault :
    (after (.clearFault [17#8]) { run with os := { run.os with hps := ⟨.heldOff, .on⟩ } }).os.hps.hpl = .on := by decide
theorem test_limit_engage : (after (.limitEngage 0) run).os.amps[0].trip = some 8 := by decide
theorem test_limit_release :
    (after (.limitRelease 0) (withAmp1 (fun _ => { amp .limiting with trip := some 3 }) run)).os.amps[0].state = .on := by decide
theorem test_soft_start :
    (after (.softStartEnd 0) (withAmp1 (fun _ => { amp .starting with soft := some 0 }) run)).os.amps[0].state = .on := by decide

/-- R153, R164: a channel that never ran has no outage time, and one that was out for 1234 ms has 123 units. -/
theorem test_recovered :
    [none, some 1234].map (fun o => dataOf (after (.softStartEnd 0)
      (withAmp1 (fun _ => { amp .starting with soft := some 0, restartMark := true, outage := o }) run)) .channelRecovered) =
      [some (List.replicate 10 0#8), some [1#8, 0#8, 123#8, 0#8, 0#8, 0#8, 0#8, 0#8, 0#8, 0#8]] := by decide
theorem test_trip :
    (after (.tripTimerRunout 0) (withAmp1 (fun _ => { amp .limiting with trip := some 0 }) run)).os.amps[0].retry =
      some 1000 := by decide
theorem test_retry_timer :
    (after (.retryTimerRunout 0) (withAmp1 (fun _ => { amp .faultWait with retry := some 0 }) run)).os.amps[0].restartMark =
      true := by decide
theorem test_open_suspect :
    dataOf (after (.openTimerRunout 0) (withAmp1 (fun _ => { amp .on with openTimer := some 0 }) run)) .onOpenSuspect =
      some (List.replicate 10 0#8) := by decide

/-! ### The queue of commands -/

theorem test_step_runs_the_front : Machine.step { run with pending := [.rampStep] } = exec .rampStep run := rfl
theorem test_no_word_spells_a_command : (State.reset.withFetchWord 8 1).pending = [] := by decide

/-! ### Concrete cases that meet the hypotheses of the statements -/

/-- A report waits with ATTN low. -/
def waiting : State := post .tuneDone 0 [] run

def inBoot : State := inState .boot

/-- The state in which a request of a kind is acted on. -/
def opAt (k : Kind) (s : State) : OpState := (atRequest k s).sc.opState

theorem witness_StepTakesTheFrontCommand :
    ({ run with pending := [.rampStep, .dwellEnd] } : State).pending = .rampStep :: [.dwellEnd] ∧ run.pending = [] :=
  ⟨rfl, rfl⟩

theorem witness_SentFramesAreReadBack :
    (Instr.tune [0#8, 0#8, 210#8]).wellFormed = true ∧
      (Instr.tune [0#8, 0#8, 210#8]).frame = some (requestFrame 0x21#8 [0#8, 0#8, 210#8]) ∧
      (Instr.frameError [0xA5#8]).frame.isSome = true ∧ (Instr.rampStep).frame = none := by decide

theorem witness_FramesAreTurnedAway :
    1#8 ≠ (requestFrame 0x0a#8 []).getD 63 0#8 ∧ 1#8 ≠ (requestFrame 0x0a#8 []).getD 0 0#8 ∧
      (Instr.wake [1#8]).request = some (.wake, [1#8]) ∧ lengthAllowed .wake [1#8] = false ∧
      lengthAllowed .wake [] = true ∧ opAt .wake run = .run ∧ opAt .wake cfg = .config ∧
      opAt .wake inBoot = .boot ∧ opAt .tune standby = .standby ∧ opAt .startAudio run = .run := by decide

theorem witness_GoodFrameRestoresTheLink :
    cfg.cp.watchdog = .stopped ∧ run.cp.watchdog ≠ .stopped ∧ run.cp.watchdog ≠ .expired ∧
      failsafe.cp.watchdog = .expired ∧ failsafe.sc.opState = .failsafe ∧ failsafe.cp.reports.length < 24 := by decide

theorem witness_PollCountsReports : opAt .poll waiting ≠ .failsafe ∧ opAt .poll failsafe = .run := by decide

theorem witness_ReportsFetchedAndMasked :
    opAt .fetchReports waiting ≠ .failsafe ∧ opAt .setReportMask inBoot = .boot ∧
      (ReportKind.all.filter (fun r => ([0#8, 8#8, 0#8, 0#8, 0x10#8].getD (r.code / 8) 0#8).getLsbD (r.code % 8))).length = 2 ∧
      (1#8).getLsbD 0 = true ∧ (0x20#8).getLsbD 5 = true ∧ (0x1e#8).getLsbD 0 = false := by decide

/-- Twenty-four reports wait. -/
def full : State := { run with cp := { run.cp with reports := List.replicate 24 ⟨.afSwitched, 0, reportData []⟩ } }

theorem witness_QueueTakesAReport :
    ReportKind.zoneState.isChange = true ∧
      ((post .zoneState 1 [] run).cp.reports.any (fun r => r.kind == .zoneState && r.subject == 1)) = true ∧
      ReportKind.tuneDone.isChange = false ∧ waiting.cp.reports.length < 24 ∧ ¬full.cp.reports.length < 24 := by decide

theorem witness_ReportQueueStaysInOrder : QueueOk waiting ∧ ∃ t, Machine.step waiting = .next t := ⟨by decide, _, rfl⟩

theorem witness_PowerOnResetThenConfig : inBoot.sc.opState = .boot ∧ cfg.sc.opState ≠ .boot := by decide

theorem witness_RestartKeepsWhatItNames :
    opAt .restart cfg = .config ∧ opAt .restart run = .run ∧ opAt .restart standby = .standby := by decide

/-- A load test of AMP1 runs. -/
def testing : State := after (.loadTest [0#8, 1#8]) ready

/-- ready with a REAR_LISTEN tune of AM 7 kept, AMP2 open, AMP6 short, and bank 2 shut down. -/
def kept : State :=
  { ready with
    slm := { StationManager.reset with holder := .rear ⟨.am, 7⟩ }
    os := { ready.os with
      amps := (ready.os.amps.set 1 { amp .off with result := .openLoad }).set 5 { amp .off with result := .shortedLoad }
      bank2 := ⟨1, true⟩ } }

theorem witness_StartAudioStartsTheBlocks :
    opAt .startAudio cfg = .config ∧ rolesWritten cfg.install = 0 ∧
      opAt .startAudio { ready with safety := Safety.reset } = .config ∧ rolesWritten fitted = 6 ∧
      (atRequest .startAudio testing).os.loadTest.isSome = true ∧ (atRequest .startAudio testing).safety.locked = true ∧
      (atRequest .startAudio ready).os.loadTest = none ∧ (atRequest .startAudio ready).slm.holder = .none ∧
      (atRequest .startAudio ready).slm.scanning = true ∧ (atRequest .startAudio ready).tw.announcement = none := by decide

theorem witness_StartAudioStartsTheBlocks_channels :
    opAt .startAudio kept = .config ∧ (atRequest .startAudio kept).os.loadTest = none ∧
      rearStation (atRequest .startAudio kept) = some ⟨.am, 7⟩ ∧
      (atRequest .startAudio kept).os.amps[0].result = .untested ∧ gateOpen (atRequest .startAudio kept) 0 = true ∧
      (atRequest .startAudio kept).os.amps[1].result = .openLoad ∧
      (atRequest .startAudio kept).os.amps[5].result = .shortedLoad ∧
      (atRequest .startAudio kept).os.amps[6].state = .off ∧ gateOpen (atRequest .startAudio kept) 6 = false ∧
      (atRequest .startAudio kept).os.amps[2].state ≠ .off := by decide

theorem witness_StartAudioStartsTheBlocks_scanOff :
    (atRequest .startAudio (withSlm (fun m => { m with scanning := false }) ready)).slm.scanning = false ∧
      (atRequest .startAudio (withSlm (fun m => { m with scanning := false }) ready)).slm.holder = .none := by decide

theorem witness_StandbyAndWake :
    opAt .standby callCabin = .run ∧ (atRequest .standby callCabin).clp.state ≠ .idle ∧
      opAt .standby testing = .config ∧ (atRequest .standby testing).clp.state = .idle ∧
      (atRequest .standby testing).os.loadTest.isSome = true ∧
      opAt .standby run = .run ∧ (atRequest .standby run).clp.state = .idle ∧
      (atRequest .standby run).os.loadTest = none ∧ (atRequest .standby run).os.douts[0] = .on ∧
      (atRequest .standby run).clp.canceller = .bypass ∧
      opAt .wake standby = .standby ∧ (atRequest .wake standby).clp.canceller = .bypass ∧
      (atRequest .wake standby).os.amps[0].state.running = true := by decide

/-- The clock is lost in CONFIG. -/
def unclocked : State := { cfg with zr := { cfg.zr with clockLost := true } }

/-- AMP1 and AMP2 are BRIDGED and nothing else is written. -/
def bridged : State :=
  { cfg with install := { Install.reset with bridge := #v[some true, none, none, none, none], variant := some 3 } }

theorem witness_InstallFieldsAreStored :
    opAt .setInstall cfg = .config ∧ (atRequest .setInstall cfg).install.variant = none ∧
      (atRequest .setInstall cfg).install.ampRole[9] = none ∧ isBridgedEven (atRequest .setInstall cfg).install 9 = false ∧
      (atRequest .setInstall cfg).install.doutRole[5] = none ∧ (atRequest .setInstall cfg).install.bridge[4] = none ∧
      (atRequest .setInstall ready).install.bridge[0] = none ∧
      (atRequest .setInstall ready).install.ampRole[evenOf 0] = role .front .right ∧
      (atRequest .setInstall cfg).install.hpFitted.hpl = none ∧ (atRequest .setInstall cfg).install.micFitted.rr = none ∧
      (atRequest .setInstall cfg).install.clockRole = none ∧ (atRequest .setInstall cfg).zr.clockLost = false ∧
      (atRequest .setInstall unclocked).zr.clockLost = true := by decide

theorem witness_InstallFieldsAreStored_refusals :
    29 ≤ (29#8).toNat ∧ readInstallField 28#8 = some .clockRole ∧ readInstallValue .clockRole 0#8 2#8 = none ∧
      readInstallField 0#8 = some .variant ∧ (readInstallValue .variant 0#8 9#8).isSome = true ∧
      installSet (atRequest .setInstall bridged).install .variant = true ∧
      readInstallField 2#8 = some (.ampRole 1) ∧ (readInstallValue (.ampRole 1) 0#8 1#8).isSome = true ∧
      (atRequest .setInstall bridged).install.ampRole[1] = none ∧
      isBridgedEven (atRequest .setInstall bridged).install 1 = true := by decide

theorem witness_InstallationIsWrittenOnce :
    ({ cfg with pending := [.setInstall [2#8, 0#8, 1#8]] } : State).pending.head? ≠ some .powerOnReset ∧
      ∃ t, Machine.step { cfg with pending := [.setInstall [2#8, 0#8, 1#8]] } = .next t := ⟨by decide, _, rfl⟩

theorem witness_SafetyWindowAndLock :
    (Instr.patternLoad [0#8, 0#8]).request = some (.patternLoad, [0#8, 0#8]) ∧
      lengthAllowed .patternLoad [0#8, 0#8] = true ∧ opAt .patternLoad run = .run ∧
      (atRequest .patternLoad run).safety.locked = true ∧ (atRequest .openSafetyEdit run).safety.locked = true ∧
      opAt .patternLoad cfg = .config ∧ (atRequest .patternLoad cfg).safety.locked = false ∧
      (atRequest .patternLoad cfg).safety.windowOpen = false ∧ (atRequest .openSafetyEdit cfg).safety.locked = false ∧
      opAt .lockSafety edit = .config ∧ (atRequest .lockSafety edit).safety.locked = false ∧
      (atRequest .lockSafety edit).safety.windowOpen = true := by decide

theorem witness_SafetyFieldsAreStored :
    opAt .setSafety edit = .config ∧ (atRequest .setSafety edit).safety.locked = false ∧
      (atRequest .setSafety edit).safety.windowOpen = true ∧
      ([Chan.amp 0, .amp 9, .dout 0, .dout 5].all (fun c => Chan.roled.contains c)) = true ∧
      [Chan.amp 0, .amp 9, .dout 0, .dout 5].Nodup ∧ ¬[Chan.amp 0, .amp 0].Nodup ∧ [1#8, 2#8].length ≤ 4 ∧
      4 < (5#8).toNat ∧ [1#8, 2#8].length ≠ (1#8).toNat ∧ (∃ c ∈ [1#8, 17#8], c = 0#8 ∨ 17 ≤ c.toNat) := by decide

theorem witness_LockHolds :
    run.safety.locked = true ∧ run.pending.head? ≠ some .powerOnReset ∧
      ∃ t, Machine.step run = .next t := ⟨by decide, by decide, _, rfl⟩

theorem witness_LockHolds_boot :
    (after (.restart []) run).safety.locked = true ∧ (after (.restart []) run).sc.opState = .boot ∧
      (after (.restart []) run).cp.reports = [] := by decide

theorem witness_ExpiryEntersFailsafe :
    run.cp.watchdog = .counting 1000 ∧ run.sc.opState = .run ∧ run.cp.reports.length < 24 ∧
      ({ cfg with cp := run.cp } : State).cp.watchdog = .counting 1000 ∧ cfg.sc.opState ≠ .run := by decide

/-- sounding with the fail-safe chime P10 for FRONT. -/
def alarmed : State :=
  { sounding with safety := { sounding.safety with config := { sounding.safety.config with
    chime := some 10, chimeZones := ⟨true, false, false⟩ } } }

/-- alarmed with P10 CONTINUOUS and V1 in the gap before its next repeat. -/
def alarmedGap : State :=
  let s := { alarmed with patterns := { alarmed.patterns with
    table := alarmed.patterns.table.set 10 (some ⟨0, 1, .continuous, 30, 6⟩) } }
  after (.voicePhaseEnd .v1) (after (.chimeRequest [10#8, 2#8]) s)

theorem witness_ExpiryEntersFailsafe_chime :
    run.safety.config.chime = none ∧ alarmed.safety.config.chime = some 10 ∧ ChimesOk alarmed ∧ ChimesOk alarmedGap ∧
      alarmed.patterns.table[(10 : PatternId)] = some ⟨0, 1, .count 1, 0, 6⟩ ∧
      (alarmed.safety.config.chimeZones.toList.any (isServed alarmed.install)) = true ∧ entryFor alarmed 10 = none ∧
      alarmed.chimes.queue.length < 8 ∧
      ((entryFor (after (.chimeRequest [10#8, 2#8]) alarmed) 10).map ChimeEntry.remaining) = some (.count 1) ∧
      ((entryFor alarmedGap 10).map ChimeEntry.remaining) = some .continuous ∧
      (((entryFor alarmedGap 10).bind ChimeEntry.voice).bind (voiceOf alarmedGap)).map Voice.phase = some .repeatGap := by
  decide

/-! Zones and sources. -/

/-- HPL has BGT on FM 100. -/
def rearOnB : State := after (.rearTune [3#8, 1#8, 0#8, 0#8, 100#8]) run

theorem witness_SourceIsSelected :
    opAt .selectSource cfg = .config ∧ hpIsFitted (atRequest .selectSource cfg) .hpl = false ∧
      opAt .selectSource run = .run ∧ hpIsFitted (atRequest .selectSource run) .hpr = true ∧
      hasBgt (atRequest .selectSource run) .hpl = false ∧ hasBgt (atRequest .selectSource run) .hpr = false ∧
      hasBgt (atRequest .selectSource rearOnB) .hpl = true ∧
      hasBgt (atRequest .selectSource rearOnB) (Hp.other .hpl) = false ∧
      hpIsFitted (atRequest .selectSource rearOnB) .hpl = true := by decide

theorem witness_VolumeAndMuteAreSet :
    opAt .setVolume cfg = .config ∧ hpIsFitted (atRequest .setVolume cfg) .hpl = false ∧
      opAt .setVolume callCabin = .run ∧ hpIsFitted (atRequest .setVolume callCabin) .hpl = true ∧
      26 ≠ (atRequest .setVolume callCabin).zr.cabin.volCall ∧
      (atRequest .setVolume callCabin).clp.canceller ≠ .bypass ∧
      zoneUnfitted (atRequest .setMute cfg) (.hp .hpr) = true ∧ zoneUnfitted (atRequest .setMute run) (.hp .hpr) = false ∧
      muteOf (atRequest .setMute run) (.hp .hpr) = false := by decide

theorem witness_LevelSettingsAreStored :
    opAt .setBalanceFader cfg = .config ∧ opAt .setBalanceFader run = .run ∧ 254#8 ≠ 255#8 ∧ 6 ≤ (6#8).toNat ∧
      Source.prompt ≠ .chime := by decide

theorem witness_RecordsAreReadUnchanged :
    opAt .getInstall cfg = .config ∧ opAt .getZone run = .run ∧ opAt .getPartState inBoot ≠ .failsafe ∧
      opAt .getStation fading = .run ∧
      (atRequest .getStation fading).slm.entries[0]? = some (listed 9 40) ∧
      listEntry (atRequest .getStation fading) ⟨.fm, 9⟩ = some (listed 9 40) ∧
      (atRequest .getStation fading).slm.entries.findIdx? (fun y => y.station == ⟨.fm, 9⟩) = some 0 ∧
      (⟨.fm, 410⟩ : Station).inGrid = true ∧ listEntry (atRequest .getStation fading) ⟨.fm, 410⟩ = none ∧
      (atRequest .getStation fading).slm.entries.length ≤ (1#8).toNat := by decide

theorem witness_PromptsComeAndGo :
    opAt .promptStart run = .run ∧ 7#8 ≠ 0#8 ∧ (7#8).toNat < 8 ∧ 8 ≤ (8#8).toNat ∧
      (atRequest .promptStart run).cp.reports.length + 3 ≤ 24 ∧
      insertIn promptEntry (listOf (atRequest .promptStart run) (.cabin .load)) ≠
        listOf (atRequest .promptStart run) (.cabin .load) := by decide

theorem witness_PrecedenceListsStayInOrder :
    ListsOk composing ∧ ∃ t, Machine.step composing = .next t := ⟨by decide, _, rfl⟩

/-- The clock has been lost in RUN for 2 s of a call. -/
def clockless : State := { callCabin with zr := { callCabin.zr with clockLost := true, lostMs := 2000 } }

/-- The part is the LEADER. -/
def leading : State := { run with install := { fitted with clockRole := some .leader } }

theorem witness_SerialOutputFollowsTheClock :
    run.sc.opState ≠ .boot ∧ run.install.clockRole ≠ some .leader ∧ run.zr.clockLost = false ∧
      clockless.zr.clockLost = true ∧ clockless.cp.reports.length < 24 ∧ leading.install.clockRole = some .leader ∧
      run.os.douts[0] = .on ∧ run.os.douts[5] ≠ .on ∧ chanSends run (.amp 0) = true ∧ chanSends run (.amp 2) = false := by
  decide

/-- V1 sounds P10 in FRONT. -/
def chiming : State := after (.chimeRequest [10#8, 1#8]) sounding

theorem witness_SerialOutputFollowsTheClock_sends :
    (chiming.chimes.v1.map (fun x => (x.phase, x.paths.any (fun p => p.chan == .dout 0)))) = some (.tone, true) ∧
      ((after .rampStep (settle composing)).ge.paths.any
        (fun p => p.chan == .dout 0 && p.src == some .prompt && p.audible == .num (-240))) = true := by decide

/-! Gains. -/

theorem witness_TargetIsTheLimitedSum :
    composing.sc.opState = .run ∧ volumeStep composing (.cabin .front) .base ≠ 0 ∧
      muteOf composing (.cabin .front) = false ∧
      duckOf composing (listOf composing (.cabin .front)) .base ≠ some .full ∧
      muteGate composing (.cabin .front) .meda = false ∧ isPresent composing .meda = true ∧
      rearQuietOn composing (.cabin .front) .base ≠ some .full ∧ quietOf composing (.cabin .front) = false := by decide

/-- The three ranges of the sum, at their bounds, by the reception and the trims of the channels. -/
def sumWith (v : Nat) (t d : Int) : Gain :=
  pathTarget { composing with
    zr := { composing.zr with
      cabin := { composing.zr.cabin with base := some .meda, volBase := v, balance := 0 }
      ducks := { composing.zr.ducks with prompt := .num 0 }, trims := { composing.zr.trims with meda := t } }
    cu := ConditionUnit.reset
    ge := { composing.ge with voicing := Vector.replicate 18 { ChannelVoicing.reset with trim := d } } }
    (.cabin .front) .base (some .meda) (.amp 0)

theorem witness_TargetIsTheLimitedSum_bounds :
    sumWith 40 24 0 = .num 24 ∧ sumWith 40 25 0 = .num 24 ∧ sumWith 40 (-400) 0 = .num (-400) ∧
      sumWith 40 (-400) (-1) = .mute := by decide

theorem witness_TargetIsTheLimitedSum_causes :
    cfg.sc.opState = .config ∧ volumeStep { run with zr := { run.zr with cabin := { run.zr.cabin with volBase := 0 } } }
        (.cabin .front) .base = 0 ∧
      muteOf (after (.setMute [0#8, 1#8]) run) (.cabin .front) = true ∧
      isPresent (withA (fun a => { a with state := .tuning }) run) .fgt = false ∧
      ((after (.jackStateChange .hpl false) run).zr.hps.get .hpl).jack = false ∧
      run.safety.config.chimeFloor ≤ run.safety.config.chimeCeiling := by decide

/-- composing with FRONT muted and quiet. -/
def hushed : State :=
  { composing with
    zr := { composing.zr with zones := { composing.zr.zones with
      front := { composing.zr.zones.front with mute := true, quiet := true } } } }

theorem witness_TargetIsTheLimitedSum_spared :
    muteOf hushed (.cabin .front) = true ∧ quietOf hushed (.cabin .front) = true ∧ isPresent hushed .call = true ∧
      volumeStep hushed (.cabin .front) .call ≠ 0 ∧ duckOf hushed (listOf hushed (.cabin .front)) .call ≠ some .full ∧
      muteGate hushed (.cabin .front) .call = false ∧ rearQuietOn hushed (.cabin .front) .call ≠ some .full := by decide

theorem witness_PathsFollowTheLists :
    (⟨.prompt, some .prompt, false⟩ : Entry) ∈ listOf composing (.cabin .front) ∧
      serves composing.install (.cabin .front) (.amp 1) = true := by decide

/-- composing with its paths made. -/
def composed : State := settle composing

theorem witness_GainsAreAlwaysCurrent :
    GainsCurrent composed ∧ composed.ge.paths ≠ [] ∧ ∃ t, Machine.step composed = .next t :=
  ⟨by decide, by decide, _, rfl⟩

theorem witness_RampsMoveByTheTable :
    run.sc.opState ≠ .standby ∧ standby.sc.opState = .standby ∧ standby.clp.canceller = .bypass ∧
      (-235 : Int) - 6 ≤ -240 ∧ (-240 : Int) < -233 - 6 := by decide

theorem witness_VoicingIsWrittenAndFaded :
    opAt .setVoicing cfg = .config ∧ (List.replicate 25 3#8).length = 25 ∧ chanUnfitted (atRequest .setVoicing cfg) (.hp .hpr) = true ∧
      chanUnfitted (atRequest .setVoicing cfg) (.amp 0) = false ∧ readBands (List.replicate 25 4#8) = none ∧
      (readBands (List.replicate 25 3#8)).isSome = true ∧ run.ge.voicing[0].written = false := by decide

/-! Conditions. -/

theorem witness_VehicleStateIsEvaluated :
    opAt .vehicleState run = .run ∧ (1#8).toNat < 2 ∧ (3#8).toNat < 4 ∧ 4 ≤ (4#8).toNat ∧
      (sagging.cu.slots[1].map (fun r => (r.quantity, r.state, r.hold))) = some (.supply, some false, 2000) ∧
      sagging.cu.slots[0] = none := by decide

theorem witness_ConditionsAreWrittenAndTimed :
    opAt .setCondition run = .run ∧ (31#8).toNat < 32 ∧ (63#8).toNat < 64 ∧
      heldValue (atRequest .setCondition sagging) .supply = some 138 ∧
      (conditionStateCode (atRequest .setCondition sagging).cu.slots[1] ≠
        conditionStateCode (atRequest .setCondition run).cu.slots[1]) ∧
      ((after (.monitorSample (.supply 102)) sagging).cu.slots[1].bind Condition.change) = some ⟨true, 2000⟩ ∧
      (sagging.cu.slots[1].bind Condition.change) = none ∧ (atRequest .setCondition sagging).cu.slots[1] ≠ none ∧
      (atRequest .setCondition sagging).cu.slots[2] = none ∧ (atRequest .setCondition sagging).cp.reports.length < 24 := by
  decide

/-! Signal sounds. -/

/-- Load mode with the cursor at a place. -/
def loading (c : Cursor) : State := { edit with patterns := { edit.patterns with load := some c } }

theorem witness_SegmentsAreLoadedAtTheCursor :
    opAt .patternLoad edit = .config ∧ (atRequest .patternLoad edit).safety.locked = false ∧
      (atRequest .patternLoad edit).safety.windowOpen = true ∧ nat16 1#8 255#8 < 512 ∧ 512 ≤ nat16 2#8 0#8 ∧
      segmentBody.length = 10 ∧ (atRequest .patternSegment edit).patterns.load = none ∧
      (atRequest .patternSegment (loading (.slot 511))).patterns.load = some (.slot 511) ∧
      (atRequest .patternSegment (loading .atEnd)).patterns.load = some .atEnd ∧
      (readSegments 1 segmentBody).isSome = true ∧
      readSegments 1 [3#8, 232#8, 9#8, 0xff#8, 0xd8#8, 0#8, 150#8, 0#8, 0#8, 50#8] = none := by decide

/-- The last slot alone is loaded. -/
def lastSlot : State := { edit with patterns := { edit.patterns with memory := [(511, oneTone)] } }

theorem witness_PatternIsDefined :
    opAt .definePattern lastSlot = .config ∧ nat16 1#8 255#8 < 512 ∧ 512 < nat16 1#8 255#8 + ((1#8).toNat % 32 + 1) ∧
      nat16 1#8 255#8 + ((0#8).toNat % 32 + 1) ≤ 512 ∧ slotLoaded (atRequest .definePattern lastSlot) 511 = true ∧
      slotLoaded (atRequest .definePattern lastSlot) 510 = false ∧ (15#8).toNat < 16 ∧ 16 ≤ (16#8).toNat := by decide

/-- P12 plays alone. -/
def playing : State := after (.chimeRequest [12#8, 1#8]) sounding

/-- Eight entries of patterns 12 to 19 wait, of priority 2 but for the last, of priority 6. -/
def crowded : State :=
  { sounding with
    patterns := { sounding.patterns with
      table := ((Vector.replicate 32 (some ⟨0, 1, .count 1, 0, 2⟩)).set 10 (some ⟨0, 1, .count 1, 0, 1⟩)).set 19
        (some ⟨0, 1, .count 1, 0, 6⟩) }
    chimes := { sounding.chimes with
      queue := [12, 13, 14, 15, 16, 17, 18, 19].map (fun p =>
        { pattern := p, zones := ⟨true, false, false⟩, remaining := .count 1, voice := none, arrival := p.val
          rerouted := false, cutShort := false, reached := 0, played := false })
      nextArrival := 20 } }

theorem witness_ChimesAreQueuedAndCancelled :
    opAt .chimeRequest playing = .run ∧ ChimesOk (atRequest .chimeRequest playing) ∧
      (atRequest .chimeRequest playing).patterns.table[0] = none ∧
      (atRequest .chimeRequest playing).patterns.table[12] ≠ none ∧
      isServed (atRequest .chimeRequest { playing with install := Install.reset }).install .load = false ∧
      isServed (atRequest .chimeRequest playing).install .load = true ∧
      (entryFor (atRequest .chimeRequest playing) 12).isSome = true ∧ entryFor (atRequest .chimeRequest playing) 10 = none ∧
      (atRequest .chimeRequest playing).chimes.queue.length < 8 := by decide

theorem witness_ChimesAreQueuedAndCancelled_full :
    opAt .chimeRequest crowded = .run ∧ ChimesOk (atRequest .chimeRequest crowded) ∧
      8 ≤ (atRequest .chimeRequest crowded).chimes.queue.length ∧
      (lastQueued (atRequest .chimeRequest crowded)).map ChimeEntry.pattern = some 19 ∧
      priorityOf (atRequest .chimeRequest crowded) 19 = 6 ∧ entryFor (atRequest .chimeRequest crowded) 10 = none ∧
      priorityOf (atRequest .chimeRequest crowded) 10 = 1 := by decide

theorem witness_ChimesAreQueuedAndCancelled_refused :
    opAt .chimeRequest { crowded with patterns := { crowded.patterns with
        table := crowded.patterns.table.set 10 (some ⟨0, 1, .count 1, 0, 6⟩) } } = .run ∧
      priorityOf { crowded with patterns := { crowded.patterns with
        table := crowded.patterns.table.set 10 (some ⟨0, 1, .count 1, 0, 6⟩) } } 10 = 6 := by decide

/-- P3 plays on V1 and P12 on V2. -/
def ranksBelow : State := after (.chimeRequest [12#8, 1#8]) (after (.chimeRequest [3#8, 1#8]) ranked)

theorem witness_ChimesAreQueuedAndCancelled_idle :
    opAt .chimeRequest ranked = .run ∧ ChimesOk (atRequest .chimeRequest ranked) ∧ 0 < (4#8).toNat ∧ (4#8).toNat < 8 ∧
      (atRequest .chimeRequest ranked).patterns.table[(12 : PatternId)] = some ⟨0, 1, .count 1, 0, 2⟩ ∧
      ((CabinSet.toList ⟨false, false, true⟩).any (isServed (atRequest .chimeRequest ranked).install)) = true ∧
      entryFor (atRequest .chimeRequest ranked) 12 = none ∧ firstQueued (atRequest .chimeRequest ranked) = none ∧
      (atRequest .chimeRequest ranked).chimes.v1 = none ∧
      (atRequest .chimeRequest playing).chimes.v1 ≠ none ∧ (atRequest .chimeRequest playing).chimes.v2 = none ∧
      firstQueued (atRequest .chimeRequest playing) = none := by decide

theorem witness_ChimesAreQueuedAndCancelled_fallback :
    CallsForFallback (atRequest .chimeRequest ranked) .both .load ∧ liveFallback (atRequest .chimeRequest ranked) ≠ [] ∧
      CandidateChannel (atRequest .chimeRequest ranked) .both .front (.dout 0) ∧
      ¬CandidateChannel (atRequest .chimeRequest ranked) .left .front (.amp 1) :=
  ⟨⟨by decide, by decide⟩, by decide, by decide, by decide⟩

/-- Whether V1 plays an entry, V2 plays a lower-ranked one of the priority given, none waits, and a pattern of the priority
given has no entry. -/
def rankCase (s : State) (low : Nat) (id : PatternId) (new : Nat) : Bool :=
  match voiceOf s .v2, voiceOf s .v1 with
  | some x, some y =>
    decide (RanksLower s x y) && priorityOf s x.pattern == low && (firstQueued s).isNone && (entryFor s id).isNone &&
      priorityOf s id == new && decide (ChimesOk s)
  | _, _ => false

theorem witness_ChimesAreQueuedAndCancelled_ranked :
    rankCase (atRequest .chimeRequest bothPlay) 6 3 1 = true ∧ rankCase (atRequest .chimeRequest ranksBelow) 2 10 6 = true ∧
      (atRequest .chimeRequest bothPlay).chimes.queue.length < 8 := by decide

/-- The full queue, of which P12 plays on V1 and P13 on V2. -/
def crowdedPlay : State :=
  { crowded with chimes := { crowded.chimes with
      queue := crowded.chimes.queue.map (fun e =>
        { e with voice := if e.pattern = 12 then some .v1 else if e.pattern = 13 then some .v2 else none })
      v1 := some ⟨12, 1, 1, .tone, 5, 0, 0, []⟩, v2 := some ⟨13, 1, 1, .tone, 5, 1, 0, []⟩ } }

theorem witness_ChimesAreQueuedAndCancelled_crowdedPlay :
    8 ≤ (atRequest .chimeRequest crowdedPlay).chimes.queue.length ∧ ChimesOk (atRequest .chimeRequest crowdedPlay) ∧
      ChimeOrderOk (atRequest .chimeRequest crowdedPlay) ∧
      (firstQueued (atRequest .chimeRequest crowdedPlay)).map ChimeEntry.pattern = some 14 ∧
      priorityOf (atRequest .chimeRequest crowdedPlay) 14 = 2 ∧ priorityOf (atRequest .chimeRequest crowdedPlay) 13 = 2 ∧
      priorityOf (atRequest .chimeRequest crowdedPlay) 10 = 1 ∧ entryFor (atRequest .chimeRequest crowdedPlay) 10 = none ∧
      opAt .chimeRequest crowdedPlay = .run := by decide

/-- P10 waits behind P3 and P12. -/
def oneWaits : State := after (.chimeRequest [10#8, 1#8]) ranksBelow

theorem witness_ChimesAreQueuedAndCancelled_next :
    ((entryFor (atRequest .chimeCancel oneWaits) 12).bind ChimeEntry.voice) = some .v2 ∧
      (atRequest .chimeCancel oneWaits).chimes.v1 ≠ none ∧
      ((firstQueued (atRequest .chimeCancel oneWaits)).map ChimeEntry.pattern) = some 10 ∧
      ChimeOrderOk (atRequest .chimeCancel oneWaits) ∧ ChimesOk (atRequest .chimeCancel oneWaits) ∧
      opAt .chimeCancel oneWaits = .run ∧ firstQueued (atRequest .chimeCancel bothPlay) = none ∧
      ((entryFor (atRequest .chimeCancel bothPlay) 12).bind ChimeEntry.voice) = some .v1 := by decide

/-- P12 plays a segment with a gap of its own, the first of two with a repeat gap, and has repeats to come. -/
def patterned (count gap : Nat) (repeats : Repeats) : State :=
  { playing with
    patterns := { playing.patterns with
      memory := [(0, { oneTone with gapAfter := gap }), (1, oneTone)]
      table := playing.patterns.table.set 12 (some ⟨0, count, repeats, 100, 2⟩) }
    chimes := { playing.chimes with queue := playing.chimes.queue.map (fun e => { e with remaining := repeats }) } }

/-- The phase of the voice that plays P12, set. -/
def inPhase (p : Phase) (s : State) : State :=
  { s with chimes := { s.chimes with v1 := s.chimes.v1.map (fun x => { x with phase := p }) } }

/-- Whether V1 plays a segment in a phase, with the gap behind it, the pattern's count, and the entry's repeats given. -/
def voiceCase (s : State) (seg : Nat) (p : Phase) (gap count : Nat) (r : Repeats) : Bool :=
  match voiceOf s .v1, entryOn s .v1 with
  | some x, some e =>
    x.seg == seg && x.phase == p && (presentSegment s x).gapAfter == gap && (patternAt s x.pattern).count == count &&
      e.remaining == r
  | _, _ => false

theorem witness_VoicePlaysItsPattern :
    ChimesOk (patterned 2 50 (.count 3)) ∧ voiceOf run .v1 = none ∧
      voiceCase (patterned 2 50 (.count 3)) 1 .tone 50 2 (.count 3) = true ∧
      voiceCase (patterned 2 0 (.count 3)) 1 .tone 0 2 (.count 3) = true := by decide

theorem witness_VoicePlaysItsPattern_last :
    voiceCase (inPhase .gap (patterned 1 50 .continuous)) 1 .gap 50 1 .continuous = true ∧
      voiceCase (patterned 1 0 (.count 2)) 1 .tone 0 1 (.count 2) = true ∧
      voiceCase (patterned 1 0 (.count 1)) 1 .tone 0 1 (.count 1) = true ∧
      voiceCase (inPhase .repeatGap (patterned 1 0 (.count 2))) 1 .repeatGap 0 1 (.count 2) = true := by decide

theorem witness_VoicePlaysItsPattern_next :
    ChimesOk oneWaits ∧ ChimeOrderOk oneWaits ∧ voiceCase oneWaits 1 .tone (presentSegment oneWaits
        { pattern := 3, rep := 1, seg := 1, phase := .tone, remaining := 0, start := 0, level := 0, paths := [] }).gapAfter
        1 (.count 1) = true ∧
      (firstQueued oneWaits).map ChimeEntry.pattern = some 10 ∧ firstQueued playing = none := by decide

theorem witness_ChimeQueueStaysInOrder :
    ChimesOk playing ∧ ChimeOrderOk playing ∧ StatesOk playing ∧ playing.chimes.queue ≠ [] ∧
      ∃ t, Machine.step playing = .next t := ⟨by decide, by decide, by decide, by decide, _, rfl⟩

theorem witness_EntriesFollowVoicesAndCalls :
    EntriesFollow playing ∧ ListsOk playing ∧ holdsClass (listOf playing (.cabin .front)) .chime = true ∧
      ∃ t, Machine.step playing = .next t := ⟨by decide, by decide, by decide, _, rfl⟩

/-! Receivers, the list, following and traffic. -/

/-- A seek upward from FM 210 stands on an index, settling. -/
def seekingAt (i : Nat) : State :=
  withA (fun a => { a with state := .seeking, settle := some 20, station := ⟨.fm, i⟩ })
    { run with rx := { run.rx with seek := some ⟨210, true⟩ } }

theorem witness_ReceiverIsTuned :
    opAt .tune run = .run ∧ (⟨.am, 0⟩ : Station).inGrid = true ∧ topIndex .fm < nat16 255#8 255#8 ∧
      (atRequest .tune (seekingAt 211)).rx.a.state = .seeking ∧ (atRequest .tune (seekingAt 211)).cp.reports.length < 23 ∧
      (atRequest .tune (seekingAt 211)).slm.holder ≠ .check ∧ (atRequest .tune checking).rx.b.state = .checking ∧
      (atRequest .tune announcing).tw.announcement ≠ none ∧ (atRequest .tune checking).slm.holder = .check := by decide

theorem witness_QualityIsMeasured :
    run.rx.a.state = .locked ∧ run.af.state = .idle ∧ (after (.tune [0#8, 0#8, 9#8]) run).rx.a.state = .tuning ∧
      (after (.tune [0#8, 0#8, 9#8]) run).rx.a.settle.isSome = true ∧
      (after (.tune [0#8, 0#8, 9#8]) run).rx.purpose = .retune ∧ rearOnB.rx.b.state = .tuning ∧
      rearOnB.rx.b.settle.isSome = true ∧ rearStation rearOnB = some rearOnB.rx.b.station ∧
      run.slm.entries.length < 40 ∧ run.cp.reports.length < 7 ∧ low.af.state = .low ∧
      30 ≤ (3 * low.rx.a.qs.getD 0 + quality .fm (level 90)) / 4 ∧ run.rx.b.state ≠ .locked := by decide

/-- A full list of FM 100 to FM 139 in which FM 107 and FM 120 are the weakest, and FM 120 is RX-A's current station. -/
def crowd : List ListEntry := (List.range 40).map (fun i => listed (100 + i) (if i = 7 ∨ i = 20 then 5 else 50))

/-- run with the full list, RX-A measured on FM 120 or settling on FM 9 and the sweep measuring FM 30. -/
def fullList (tuning : Bool) : State :=
  withSlm (fun m => { m with entries := crowd, position := ⟨.fm, 30⟩ })
    (withA (fun a => if tuning then { a with station := ⟨.fm, 9⟩, state := .tuning, settle := some 0 }
        else { a with station := ⟨.fm, 120⟩ })
      (withB (fun b => { b with station := ⟨.fm, 30⟩ }) { run with rx := { run.rx with lastTuned := ⟨.fm, 120⟩ } }))

theorem witness_QualityIsMeasured_crowded :
    (fullList true).rx.a.state = .tuning ∧ (fullList true).rx.a.settle.isSome = true ∧
      (fullList true).rx.purpose = .retune ∧ (fullList true).af.state ≠ .verify ∧
      listEntry (fullList true) (fullList true).rx.a.station = none ∧ 40 ≤ (fullList true).slm.entries.length ∧
      Ascending (fullList true).slm.entries ∧ (fullList false).rx.a.state = .locked ∧
      (fullList false).rx.a.station = (fullList false).rx.lastTuned ∧
      listEntry (fullList false) (fullList false).rx.lastTuned ≠ none ∧ run.rx.a.station = run.rx.lastTuned ∧
      listEntry run run.rx.lastTuned = none ∧ (moving .switch).rx.a.station ≠ (moving .switch).rx.lastTuned := by decide

/-- R117: RX-A's settle on FM 9 takes the place of FM 120, whose pin it has left; the sweep's FM 30 takes that of FM 107, since
FM 120 is pinned. -/
theorem test_displacement :
    listEntry (after (.tuneSettleEnd .a (level 10)) (fullList true)) ⟨.fm, 120⟩ = none ∧
      (listEntry (after (.tuneSettleEnd .a (level 10)) (fullList true)) ⟨.fm, 107⟩).isSome = true ∧
      listEntry (after (.rxBSettleEnd (level 90)) (fullList false)) ⟨.fm, 107⟩ = none ∧
      (listEntry (after (.rxBSettleEnd (level 90)) (fullList false)) ⟨.fm, 120⟩).isSome = true := by decide

theorem witness_SeekStepsToAStation :
    opAt .seek run = .run ∧ (seekingAt 211).rx.seek = some ⟨210, true⟩ ∧ (seekingAt 211).rx.a.state = .seeking ∧
      (seekingAt 211).rx.a.settle ≠ none ∧ (seekingAt 211).rx.a.station.index ≠ 210 ∧
      quality .fm (level 0) < (seekingAt 211).rx.threshold ∧ (seekingAt 211).rx.threshold ≤ quality .fm (level 90) ∧
      (seekingAt 210).rx.a.station.index = 210 ∧ run.rx.seek = none ∧ run.cp.reports.length < 7 := by decide

/-- RX-A with a confirmed code and the traffic-on flag. -/
def coded (on : Bool) (s : State) : State :=
  withA (fun a => { a with record := { DataRecord.empty with code := some 7, trafficOn := on, timer := some 0 } }) s

theorem witness_DataGroupsFillTheRecord :
    run.rx.a.station.band = .fm ∧ run.rx.a.settle = none ∧ run.rx.a.state = .locked ∧ run.rx.a.record.code = none ∧
      run.rx.a.record.candidate ≠ some 7 ∧ run.rx.a.record.timer = none ∧ (coded true run).rx.a.record.code = some 7 ∧
      (coded true run).rx.a.record.trafficOn = true ∧ (coded true run).rx.a.record.timer ≠ none ∧
      (coded true run).af.state ≠ .verify ∧ rearOnB.slm.holder ≠ .check ∧ rearOnB.slm.holder ≠ .scan ∧
      run.rx.b.settle ≠ none ∧ (coded false announcing).tw.on = true ∧ (coded false announcing).rx.a.record.trafficOn = false ∧
      (coded false announcing).af.state ≠ .verify := by decide

/-- RX-A's listed station with a code proposed, and with a code and a name segment held. -/
def learning (code candidate : Option Nat) : State :=
  withSlm (fun m => { m with entries := [freshEntry ⟨.fm, 162⟩ 60] }) (onRecord { DataRecord.empty with
    code := code, candidate := candidate, timer := some 0, segments := #v[some (65#8, 66#8), none, none, none] })

theorem witness_DataGroupsFillTheRecord_listed :
    (learning none (some 7)).rx.a.station = (learning none (some 7)).rx.lastTuned ∧
      (learning none (some 7)).rx.a.record.code = none ∧ (learning none (some 7)).rx.a.record.candidate = some 7 ∧
      (listEntry (after (.dataGroup .a 7 (.name 0 65#8 66#8)) (learning none (some 7))) ⟨.fm, 162⟩).map ListEntry.code =
        some (some 7) ∧
      (learning (some 7) none).rx.a.record.code = some 7 ∧
      (learning (some 7) none).rx.a.record.segments[(0 : Fin 4)] = some (65#8, 66#8) ∧
      (learning (some 7) none).rx.a.record.trafficOn = false ∧ (learning (some 7) none).rx.a.record.timer ≠ none := by
  decide

/-- RX-B has measured the sweep's position. -/
def dwelling (st : Station) : State :=
  withSlm (fun m => { m with dwell := some 0, position := st }) (withB (fun b => { b with settle := none }) run)

theorem witness_SweepVisitsTheBands :
    run.rx.b.settle ≠ none ∧ run.rx.b.state = .scanning ∧ run.slm.holder = .scan ∧
      quality .fm (level 0) < run.slm.quickThreshold ∧ run.slm.quickThreshold ≤ quality .fm (level 90) ∧
      run.slm.position.band = .fm ∧ ((listEntry run run.slm.position).bind ListEntry.code) = none ∧
      (dwelling ⟨.fm, 410⟩).slm.dwell ≠ none ∧ (dwelling ⟨.fm, 410⟩).rx.b.settle = none ∧
      topIndex .fm ≤ (dwelling ⟨.fm, 410⟩).slm.position.index ∧ (dwelling ⟨.am, 0⟩).slm.position.band = .am ∧
      run.slm.dwell = none ∧ (dwelling ⟨.fm, 409⟩).slm.position.index < topIndex .fm := by decide

/-- run with the sweep's position listed without a code. -/
def codeless : State := withSlm (fun m => { m with entries := [freshEntry ⟨.fm, 0⟩ 50] }) run

theorem witness_SweepVisitsTheBands_listed :
    codeless.slm.position.band = .fm ∧
      ((listEntry codeless codeless.slm.position).any (fun e => e.code == none)) = true ∧
      ((listEntry run run.slm.position).any (fun e => e.code == none)) = false ∧
      quality .fm (level 10) < codeless.slm.quickThreshold ∧ opAt .setScan run = .run ∧
      (atRequest .setScan run).slm.holder = .scan ∧ (atRequest .setScan run).slm.position.band = .fm ∧
      (atRequest .setScan run).slm.scanning = true := by decide

/-- The full list with a sweep whose threshold is 0. -/
def sweeping : State := withSlm (fun m => { m with quickThreshold := 0 }) (fullList false)

theorem witness_SweepVisitsTheBands_crowded :
    sweeping.rx.b.settle ≠ none ∧ sweeping.rx.b.state = .scanning ∧ sweeping.slm.holder = .scan ∧
      listEntry sweeping sweeping.slm.position = none ∧ 40 ≤ sweeping.slm.entries.length ∧
      Ascending sweeping.slm.entries ∧ sweeping.slm.quickThreshold ≤ quality .fm (level 12) ∧
      quality .fm (level 12) < 5 ∧ 5 < quality .fm (level 90) ∧ isPinned sweeping (listed 120 5) = true ∧
      (listEntry codeless codeless.slm.position).map ListEntry.code = some none ∧
      codeless.slm.quickThreshold ≤ quality .fm (level 90) ∧ Ascending (dwelling ⟨.fm, 410⟩).slm.entries ∧
      (dwelling ⟨.fm, 410⟩).slm.amScanning = false := by decide

/-- R120: at a sweep's end an unseen entry of age 2 goes, and so does not the pinned one. -/
theorem test_ageing :
    ((after .dwellEnd (withSlm (fun m => { m with
        entries := [{ listed 3 60 with age := 2, seen := false }, { listed 5 60 with age := 1, seen := false },
          { listed 210 60 with age := 3, seen := false }] }) (dwelling ⟨.fm, 410⟩))).slm.entries.map
      (fun e => (e.station.index, e.age))) = [(5, 2), (210, 3)] := by decide

theorem witness_SweepVisitsTheBands_settings :
    opAt .scanNow run = .run ∧ (atRequest .scanNow run).slm.scanning = true ∧ (atRequest .scanNow run).slm.holder = .scan ∧
      (atRequest .scanNow (withSlm (fun m => { m with scanning := false, holder := .none }) run)).slm.scanning = false ∧
      (atRequest .setScan (withSlm (fun m => { m with scanning := false, holder := .none }) run)).slm.holder = .none ∧
      (atRequest .setScan (withSlm (fun m => { m with amScanning := true }) (dwelling ⟨.am, 3⟩))).slm.amScanning = true ∧
      (atRequest .setScan (dwelling ⟨.am, 3⟩)).slm.position.band = .am ∧ 2 ≤ (2#8).toNat := by decide

/-- REAR_LISTEN holds RX-B while a low timer has run out. -/
def lowWithRear : State :=
  withAf (fun f => { f with state := .low, timer := some 0 })
    (withA (fun a => { a with record := { DataRecord.empty with code := some 1, alternates := [5] } }) rearOnB)

theorem witness_FollowingTriesItsCandidates :
    low.af.state = .low ∧ low.af.timer ≠ none ∧ candidateList low low.rx.a.record.alternates = [9, 5] ∧
      (rearStation low).isSome = false ∧ lowWithRear.af.state = .low ∧ (rearStation lowWithRear).isSome = true ∧
      checking.af.state = .attempt ∧ checking.slm.holder = .check ∧ checking.af.timer ≠ none ∧
      checking.rx.b.state = .checking ∧ checking.rx.b.settle ≠ none ∧ checking.af.candidates = [5] ∧
      (withAf (fun f => { f with candidates := [] }) checking).af.candidates = [] ∧
      quality .fm (level 24) < checking.rx.a.qs.getD 0 + 10 ∧ checking.rx.a.qs.getD 0 + 10 ≤ quality .fm (level 25) ∧
      run.af.state ≠ .backoff := by decide

theorem witness_FollowingTriesItsCandidates_off :
    opAt .setFollow run = .run ∧ (atRequest .setFollow run).af.state = .idle ∧
      (atRequest .setFollow verifying).af.state = .verify ∧ (atRequest .setFollow verifying).cp.reports.length < 24 ∧
      (atRequest .setFollow checking).af.state = .attempt ∧ (atRequest .setFollow checking).rx.a.state ≠ .tuning ∧
      (atRequest .setFollow (moving .blind)).rx.a.state = .tuning ∧
      (atRequest .setFollow (moving .blind)).rx.purpose = .blind := by decide

theorem witness_FollowingSwitchesOrReturns :
    (moving .switch).rx.a.state = .tuning ∧ (moving .switch).rx.a.settle ≠ none ∧ (moving .switch).rx.purpose = .switch ∧
      (moving .blind).rx.purpose = .blind ∧ quality .fm (level 0) < (moving .blind).rx.a.qs.getD 0 + 10 ∧
      (moving .blind).rx.a.qs.getD 0 + 10 ≤ quality .fm (level 90) ∧ (moving .back).rx.purpose = .back ∧
      (moving .back).af.state = .attempt ∧ (moving .back).cp.reports.length < 7 ∧
      (withAf (fun f => { f with state := .idle }) (moving .back)).af.state ≠ .attempt ∧
      verifying.af.state = .verify ∧ verifying.rx.a.state = .locked ∧ verifying.rx.a.settle = none ∧
      verifying.rx.a.record.code = none ∧ verifying.rx.a.record.candidate = some 1 ∧ verifying.af.code = some 1 ∧
      (withAf (fun f => { f with code := some 2 }) verifying).af.code ≠ some 1 ∧ run.rx.a.state ≠ .tuning := by decide

/-- The return of an attempt whose station list is full. -/
def movingFull : State := withSlm (fun m => { m with entries := (fullList false).slm.entries }) (moving .back)

theorem witness_FollowingSwitchesOrReturns_full :
    movingFull.rx.a.state = .tuning ∧ movingFull.rx.a.settle ≠ none ∧ movingFull.rx.purpose = .back ∧
      movingFull.af.state = .attempt ∧ movingFull.cp.reports.length < 7 ∧ 40 ≤ movingFull.slm.entries.length := by decide

/-- RX-B hears a code proposed on the candidate of a check. -/
def hearing : State :=
  withB (fun b => { b with settle := none, record := { DataRecord.empty with candidate := some 1 } }) checking

/-- A dwell hears a code proposed, and a quarter of the name is missing. -/
def dwellNaming : State :=
  withB (fun b => { b with record := { DataRecord.empty with
    candidate := some 1, segments := #v[none, some (65#8, 65#8), some (65#8, 65#8), some (65#8, 65#8)] } })
    (dwelling ⟨.fm, 5⟩)

theorem witness_FollowingSwitchesOrReturns_onB :
    hearing.rx.b.state = .checking ∧ hearing.slm.holder = .check ∧ hearing.af.state = .attempt ∧
      hearing.rx.b.settle = none ∧ hearing.rx.b.station.band = .fm ∧ hearing.rx.b.record.code = none ∧
      hearing.rx.b.record.candidate = some 1 ∧ hearing.af.code = some 1 ∧
      (withAf (fun f => { f with code := some 2 }) hearing).af.code ≠ some 1 ∧
      dwellNaming.rx.b.state = .scanning ∧ dwellNaming.slm.holder = .scan ∧ dwellNaming.slm.dwell ≠ none ∧
      dwellNaming.rx.b.settle = none ∧ dwellNaming.rx.b.station.band = .fm ∧ dwellNaming.rx.b.record.code = none ∧
      dwellNaming.rx.b.record.candidate = some 1 ∧
      (after (.dataGroup .b 1 (.name 0 65#8 65#8)) dwellNaming).slm.position = ⟨.fm, 6⟩ ∧
      ((after (.dataGroup .b 1 (.name 1 65#8 65#8)) dwellNaming).rx.b.record.name) = none := by decide

/-- RX-A hears a traffic announcement begin. -/
def flagged : State := coded true run

theorem witness_TrafficIsWatched :
    opAt .setTrafficWatch run = .run ∧ 0 < (7#8).toNat ∧ (7#8).toNat < 8 ∧ (atRequest .setTrafficWatch run).tw.on = false ∧
      (atRequest .setTrafficWatch run).rx.a.record.trafficOn = false ∧
      (atRequest .setTrafficWatch flagged).rx.a.record.trafficOn = true ∧
      (atRequest .setTrafficWatch flagged).tw.announcement = none ∧ (atRequest .setTrafficWatch announcing).tw.on = true ∧
      (atRequest .setTrafficWatch announcing).tw.announcement ≠ none ∧ opAt .trafficSkip announcing = .run ∧
      announcing.tw.bridge ≠ none ∧ run.tw.bridge = none ∧ run.tw.codeHeld = none ∧ announcing.cp.reports.length < 21 := by
  decide

/-- A code held for two seconds without the carrier flag, under the watch. -/
def noCarrier : State := withTw (fun w => { w with on := true, codeHeld := some 2000 }) (coded false run)

theorem witness_TrafficIsWatched_carrier :
    noCarrier.tw.codeHeld ≠ none ∧ noCarrier.rx.a.record.code = some 7 ∧ noCarrier.tw.on = true ∧
      noCarrier.rx.a.record.carrier = false ∧ noCarrier.tw.note ≠ some ⟨noCarrier.rx.a.station, 7⟩ ∧
      (withTw (fun w => { w with on := false }) noCarrier).tw.on = false ∧
      (withTw (fun w => { w with note := some ⟨⟨.fm, 210⟩, 7⟩ }) noCarrier).tw.note =
        some ⟨noCarrier.rx.a.station, 7⟩ := by decide

/-- HPR has BGT with HPL. -/
def rearOnBoth : State := after (.rearTune [4#8, 1#8, 0#8, 0#8, 100#8]) rearOnB

theorem witness_RearZonesAreTuned :
    opAt .rearTune run = .run ∧ (atRequest .rearTune fading).slm.entries[0]? = some (listed 9 40) ∧
      (⟨.fm, 410⟩ : Station).inGrid = true ∧ hpIsFitted (atRequest .rearTune run) .hpl = true ∧
      hpIsFitted (atRequest .rearTune (inState .run)) .hpl = false ∧ opAt .rearTune (inState .run) = .run ∧
      (atRequest .rearTune run).rx.lastTuned = ⟨.fm, 210⟩ ∧ hasBgt (atRequest .rearTune rearOnB) .hpl = true ∧
      hasBgt (atRequest .rearTune rearOnB) .hpr = false ∧ rearStation (atRequest .rearTune rearOnB) = some ⟨.fm, 100⟩ ∧
      hasBgt (atRequest .rearTune rearOnBoth) .hpr = true ∧ (atRequest .rearTune checking).slm.holder = .check ∧
      opAt .setRearCeiling cfg = .config ∧ hpIsFitted (atRequest .setRearCeiling cfg) .hpr = false := by decide

theorem witness_RearZonesAreTuned_grid :
    opAt .rearTune run = .run ∧ 2 ≤ (2#8).toNat ∧ 410 < nat16 1#8 155#8 ∧ ¬410 < nat16 1#8 154#8 ∧ 119 < nat16 0#8 120#8 ∧
      ¬119 < nat16 0#8 119#8 ∧ (⟨.am, 119⟩ : Station).inGrid = true ∧ (⟨.am, 120⟩ : Station).inGrid = false := by decide

/-! Calls. -/

/-- A call on HPL over an announcement that is held back in FRONT and LOAD. -/
def holdingBack : State :=
  withTw (fun w => { w with
    announcement := some { zones := ⟨true, false, false⟩, sounding := ⟨false, false, false⟩, deferred := ⟨true, false, false⟩ } })
    callCabin

theorem witness_CallStateIsFollowed_lists :
    ListsOk (atRequest .callState run) ∧ ListsOk (atRequest .callState announcing) ∧
      ListsOk (atRequest .callState holdingBack) ∧ ListsOk (atRequest .callState callCabin) := by decide

theorem witness_CallStateIsFollowed :
    opAt .callState run = .run ∧ (atRequest .callState run).clp.state = .idle ∧
      (atRequest .callState run).clp.route = .cabin ∧
      (atRequest .callState (withCall (fun c => { c with route := .hp .hpr }) run)).clp.route ≠ .cabin ∧
      (atRequest .callState announcing).tw.announcement ≠ none ∧
      holdsClass (listOf (atRequest .callState announcing) (.cabin .front)) .traffic = true ∧
      (atRequest .callState callCabin).clp.state = .active ∧ (atRequest .callState holdingBack).clp.state ≠ .idle ∧
      ((atRequest .callState holdingBack).tw.announcement.map (fun a => a.deferred.front)) = some true ∧
      .cabin .front ∈ routeZones .cabin := by decide

theorem witness_CallRouteIsMoved :
    opAt .callRoute run = .run ∧ hpIsFitted (atRequest .callRoute (inState .run)) .hpl = false ∧
      hpIsFitted (atRequest .callRoute run) .hpl = true ∧ ((atRequest .callRoute run).zr.hps.get .hpl).jack = true ∧
      (atRequest .callRoute run).os.hps.get .hpl ≠ .heldOff ∧ micUsable (atRequest .callRoute run) .rl = true ∧
      ((atRequest .callRoute (after (.jackStateChange .hpl false) run)).zr.hps.get .hpl).jack = false ∧
      micUsable (atRequest .callRoute (withCall (fun c => { c with faulty := PerMic.all true }) run)) .rr = false ∧
      (atRequest .callRoute callHpl).clp.route = .hp .hpl ∧ (atRequest .callRoute callHpl).clp.state ≠ .idle ∧
      (atRequest .callRoute callCabin).clp.route = .cabin ∧ (atRequest .callRoute run).clp.state = .idle := by decide

theorem witness_CallRouteIsMoved_jacks :
    inBoot.sc.opState = .boot ∧ hpIsFitted cfg .hpl = false ∧ (run.zr.hps.get .hpl).jack = true ∧
      run.sc.opState ≠ .boot ∧ hpIsFitted run .hpl = true ∧ run.clp.route ≠ .hp .hpl ∧ callHpl.clp.route = .hp .hpl ∧
      callHpl.clp.state ≠ .idle ∧ callHpl.cp.reports.length < 16 := by decide

theorem witness_UplinkIsSelected :
    opAt .setUplinkMute run = .run ∧ opAt .setMicPolicy run = .run ∧ (selectionOf run).basis = .route ∧
      run.clp.route = .cabin ∧ (selectionOf cfg).basis = .none ∧ callHpl.clp.route = .hp .hpl ∧
      (selectionOf callHpl).basis = .route ∧
      (selectionOf (withCall (fun c => { c with route := .hp .hpr }) run)).basis = .route ∧
      (selectionOf (withCall (fun c => { c with faulty := { c.faulty with fl := true, fr := true } }) run)).basis = .fallback := by decide

/-- R146: with MIC_FL alone faulty the pair's other microphone keeps the basis ROUTE. -/
theorem test_selection_route :
    selectionOf (withCall (fun c => { c with faulty := { c.faulty with fl := true } }) run) =
      ⟨⟨false, true, false, false⟩, .route⟩ := by decide

theorem witness_CancellerFollowsItsEstimates :
    run.clp.canceller = .bypass ∧ callCabin.clp.canceller = .converging ∧ callCabin.clp.convergence = none ∧
      (withCall (fun c => { c with convergence := some 0 }) callCabin).clp.convergence ≠ none ∧
      (withCall (fun c => { c with canceller := .converged, divergence := some 0 }) callCabin).clp.divergence ≠ none ∧
      isPlaying run = true ∧ micUsable run .fl = true ∧ isPlaying cfg = false ∧ callCabin.cp.reports.length < 23 := by decide

/-! The Output Stage. -/

/-- A load test of AMP1 and AMP2 after a number of AMP1's checks. -/
def testedAfter (n : Nat) : State :=
  { testing with os := { testing.os with loadTest := testing.os.loadTest.map (fun t => { t with checks := n, waiting := [1] }) } }

theorem witness_LoadTestRunsItsChecks :
    opAt .loadTest ready = .config ∧ (atRequest .loadTest ready).os.loadTest = none ∧ 1024 ≤ nat16 4#8 0#8 ∧
      nat16 3#8 255#8 < 1024 ∧ isBridgedEven (atRequest .loadTest bridged).install 1 = true ∧
      (Amp.all.filter (fun k => (nat16 0#8 3#8).testBit k.val)).head? = some 0 ∧
      isBridgedEven (atRequest .loadTest ready).install 1 = false ∧ (atRequest .loadTest testing).os.loadTest ≠ none ∧
      ((testedAfter 2).os.loadTest.map LoadTest.checks) = some 2 ∧
      ((testedAfter 3).os.loadTest.map (fun t => (t.checks, t.current, t.waiting))) = some (3, 0, [1]) ∧
      (testing.os.loadTest.map LoadTest.waiting) = some [] ∧ run.os.loadTest = none := by decide

theorem witness_FaultsAreHeldAndCleared :
    opAt .setProtection cfg = .config ∧ (atRequest .getFaults run).os.protection.holding = .latched ∧
      (atRequest .retryChannel run).os.amps[0].state ≠ .faultLatched ∧
      (atRequest .retryChannel (withAmp1 (fun _ => amp .faultLatched) run)).os.amps[0].state = .faultLatched ∧
      gateOpen (atRequest .retryChannel (withAmp1 (fun _ => amp .faultLatched) run)) 0 = true ∧
      gateOpen (atRequest .retryChannel { run with os := { run.os with supply := .overvoltage } }) 0 = false ∧
      11 ≤ (11#8).toNat := by decide

theorem witness_DriversAndItemsAreReleased :
    opAt .clearFault cfg = .config ∧ hpIsFitted (atRequest .clearFault cfg) .hpl = false ∧ opAt .clearFault run = .run ∧
      hpIsFitted (atRequest .clearFault run) .hpr = true ∧ (atRequest .clearFault run).os.hps.hpl ≠ .heldOff ∧
      (atRequest .clearFault { run with os := { run.os with hps := ⟨.heldOff, .on⟩ } }).os.hps.get .hpl = .heldOff ∧
      (16 : Nat) < 17 ∧ 19 ≤ (19#8).toNat ∧ 524288 ≤ (8#8).toNat * 65536 + nat16 0#8 0#8 ∧
      (0x400 : Nat).testBit 10 = true ∧ (0x1000 : Nat).testBit 12 = true ∧ (0x2001 : Nat).testBit 10 = false ∧
      (0x2001 : Nat).testBit 0 = true := by decide

theorem witness_SamplesReachTheirBlocks :
    isSampled run (.bank .b1) = true ∧ isSampled run .supply = true ∧ isSampled run (.mic .rr) = true ∧
      isSampled run (.hp .hpr) = true ∧ isSampled run (.amp 0) = true ∧ isSampled cfg (.mic .fl) = false ∧
      inBoot.sc.opState = .boot ∧ (after (.setMonitor [0#8, 0#8, 1#8]) run).os.excluded = [.amp 0] ∧
      .b1 ∈ gateBanks run.install 0 ∧ run.os.amps[0].state.running = true ∧ run.sc.opState ≠ .standby ∧
      (bank2At 3 true run).os.bank2.shutdown = true ∧ run.clp.faulty.get .fl = false := by decide

/-- R138: no short is found in STANDBY on a driver that is still ON. -/
theorem test_no_short_in_standby :
    isSampled standby (.hp .hpl) = true ∧
      (after (.monitorSample (.hpCurrent .hpl true)) standby).os.hps.hpl = .on ∧
      run.sc.opState = .run ∧ failsafe.sc.opState = .failsafe := by decide

/-- AMP5 and AMP6 BRIDGED over both banks and shut down by bank 1. -/
def spanned : State :=
  after (.monitorSample (.temperature .b1 171))
    { run with
      install := { fitted with bridge := #v[none, none, some true, none, none] }
      os := { run.os with amps := run.os.amps.set 4 (amp .on), bank1 := ⟨3, false⟩, bank2 := ⟨3, true⟩ } }

theorem witness_SamplesReachTheirBlocks_bank :
    spanned.os.amps[4].thermalBank = some .b1 ∧ FaultKind.thermalShutdown ∈ spanned.os.amps[4].causes ∧
      spanned.os.bank2.shutdown = true ∧ isSampled spanned (.bank .b2) = true := by decide

/-- R161: AMP5's thermal cause stays as the other bank's flag clears, and ends with the flag of the bank that shut it down. -/
theorem test_bank_cause :
    FaultKind.thermalShutdown ∈ (after (.monitorSample (.temperature .b2 80)) spanned).os.amps[4].causes ∧
      FaultKind.thermalShutdown ∉ (after (.monitorSample (.temperature .b1 80)) spanned).os.amps[4].causes := by decide

/-- AMP6 waits for bank 2 and for the supply. -/
def gated : State :=
  { run with os := { run.os with
    amps := run.os.amps.set 5 { amp .faultWait with startPending := true }, bank2 := ⟨3, true⟩, supply := .overvoltage } }

theorem witness_SamplesReachTheirBlocks_gates :
    gated.os.amps[5].startPending = true ∧ gated.os.supply = .overvoltage ∧ gated.os.bank2.shutdown = true ∧
      isSampled gated (.bank .b2) = true ∧ isSampled gated .supply = true ∧
      gateOpen { gated with os := { gated.os with bank2 := ⟨2, false⟩, supply := .normal } } 5 = true := by decide

/-- AMP1 in a state with its timers. -/
def amp1In (st : AmpState) (f : AmpChannel → AmpChannel) : State := withAmp1 (fun _ => f (amp st)) run

theorem witness_AmplifiersProtectThemselves :
    run.os.amps[0].state = .on ∧ run.os.amps[9].state = .unused ∧ run.os.amps[0].trip = none ∧
      (amp1In .starting (fun a => { a with soft := some 0, restartMark := true })).os.amps[0].soft ≠ none ∧
      (amp1In .starting (fun a => { a with soft := some 0, trip := some 0 })).os.amps[0].trip ≠ none ∧
      (amp1In .limiting (fun a => { a with trip := some 0 })).os.amps[0].state = .limiting ∧
      (amp1In .faultWait (fun a => { a with retry := some 0 })).os.amps[0].retry ≠ none ∧
      gateOpen (amp1In .faultWait (fun a => { a with retry := some 0 })) 0 = true ∧
      (amp1In .on (fun a => { a with openTimer := some 0 })).os.amps[0].openTimer ≠ none ∧
      run.sc.opState ≠ .standby ∧ run.cp.reports.length < 23 := by decide

theorem witness_OperatingStatesStayLegal : StatesOk run ∧ ChannelsOk run ∧ ∃ t, Machine.step run = .next t :=
  ⟨by decide, by decide, _, rfl⟩

theorem witness_SettingsStayInRange :
    SettingsOk composing ∧ SafetyOk edit ∧ PatternsOk sounding ∧ sounding.patterns.memory ≠ [] ∧
      ∃ t, Machine.step composing = .next t := ⟨by decide, by decide, by decide, by decide, _, rfl⟩

theorem witness_ReceptionAndCallsStayInOrder :
    ReceptionOk fading ∧ HolderOk rearOnB ∧ HolderOk checking ∧ CallOk (after (.callState [1#8]) run) ∧
      ∃ t, Machine.step fading = .next t := ⟨by decide, by decide, by decide, by decide, _, rfl⟩

end Sys2Proof.Tests
end

section
/-! SUPPORT. Frames of the shared operations, for every later proof. `Posted` says that the Control Port has only taken
reports; `Within` says that a change of state has only posted reports and touched the blocks that it names. Each operation
of the model has one lemma here, made from those of the operations that it calls. -/

-- One declaration at a time: together they would start more threads than the check's memory limit has stacks for.
set_option Elab.async false

namespace Sys2Proof.Machine

/-! ### The Control Port under posts -/

/-- The Control Port has taken some reports, each with ATTN re-evaluated, and is otherwise as it was (R7, R10). -/
inductive Posted (c : ControlPort) : ControlPort → Prop where
  | refl : Posted c c
  | report {d : ControlPort} (r : Report) (h : Posted c d) : Posted c (d.enqueue r).reattn

theorem Posted.trans {c d e : ControlPort} (h : Posted c d) (h' : Posted d e) : Posted c e := by
  induction h' with
  | refl => exact h
  | report r _ ih => exact ih.report r

theorem ControlPort.enqueue_masked (r : Report) (c : ControlPort) : (c.enqueue r).masked = c.masked := by
  unfold ControlPort.enqueue
  split <;> [rfl; (split <;> rfl)]

/-- Taking a report changes the queue and the lost flag alone. -/
theorem ControlPort.enqueue_eq (r : Report) (c : ControlPort) :
    c.enqueue r = { c with reports := (c.enqueue r).reports, lost := (c.enqueue r).lost } := by
  unfold ControlPort.enqueue
  split <;> [rfl; (split <;> rfl)]

/-- Posts change the queue, the lost flag and ATTN alone. -/
theorem Posted.eq_with {c d : ControlPort} (h : Posted c d) :
    d = { c with reports := d.reports, lost := d.lost, attnLow := d.attnLow } := by
  induction h with
  | refl => rfl
  | report r _ ih =>
    rw [ControlPort.reattn, ControlPort.enqueue_eq, ih]

theorem Posted.reply_eq {c d : ControlPort} (h : Posted c d) : d.reply = c.reply := by rw [h.eq_with]
theorem Posted.masked_eq {c d : ControlPort} (h : Posted c d) : d.masked = c.masked := by rw [h.eq_with]
theorem Posted.watchdog_eq {c d : ControlPort} (h : Posted c d) : d.watchdog = c.watchdog := by rw [h.eq_with]

/-- A queued event report stays in the queue as it is: only a change report's data are replaced (R7). -/
theorem ControlPort.mem_enqueue_of_event {r q : Report} {c : ControlPort} (hq : q ∈ c.reports)
    (he : q.kind.isChange = false) : q ∈ (c.enqueue r).reports := by
  unfold ControlPort.enqueue
  split
  · rename_i h
    refine List.mem_map.2 ⟨q, hq, ?_⟩
    have hne : r.sameKey q = false := by
      simp only [Bool.and_eq_true] at h
      simp only [Report.sameKey, Bool.and_eq_false_imp, beq_iff_eq]
      rintro hk
      simp [hk, he] at h
    simp [hne]
  · split
    · simp [hq]
    · exact hq

/-- Through any posts a queued event report stays. -/
theorem Posted.mem_of_event {c d : ControlPort} (h : Posted c d) {q : Report} (hq : q ∈ c.reports)
    (he : q.kind.isChange = false) : q ∈ d.reports := by
  induction h with
  | refl => exact hq
  | report r _ ih => exact ControlPort.mem_enqueue_of_event ih he

/-! ### Frames -/

theorem Block.same_refl (b : Block) (s : State) : b.same s s := by
  cases b <;> simp [Block.same]

theorem Block.same_trans {b : Block} {s t u : State} (h : b.same s t) (h' : b.same t u) : b.same s u := by
  cases b <;> simp_all [Block.same]

/-- From one state to another the named blocks alone have changed, the Control Port by posts only. -/
structure Within (bs : List Block) (s t : State) : Prop where
  same : keepsBut (.cp :: bs) s t
  posted : Posted s.cp t.cp

theorem Within.refl {bs : List Block} {s : State} : Within bs s s := ⟨fun b _ => b.same_refl s, .refl⟩

theorem Within.mono {as bs : List Block} {s t : State} (h : Within as s t) (hs : as ⊆ bs := by decide) :
    Within bs s t :=
  ⟨fun b hb => h.same b (fun hm => hb (List.cons_subset_cons _ hs hm)), h.posted⟩

theorem Within.trans {as bs : List Block} {s t u : State} (h : Within as s t) (h' : Within bs t u) :
    Within (as ++ bs) s u :=
  ⟨fun b hb => Block.same_trans (h.same b (by simp_all)) (h'.same b (by simp_all)), h.posted.trans h'.posted⟩

theorem Within.ite {bs : List Block} {s a b : State} {c : Prop} [Decidable c] (ha : Within bs s a) (hb : Within bs s b) :
    Within bs s (if c then a else b) := by
  split <;> assumption

/-- A run of changes within the same blocks stays within them. -/
theorem Within.foldl {α : Type} {bs : List Block} {f : State → α → State} (h : ∀ s a, Within bs s (f s a)) (l : List α)
    (s : State) : Within bs s (l.foldl f s) := by
  induction l generalizing s with
  | nil => exact .refl
  | cons a l ih => exact ((h s a).trans (ih _)).mono (by simp)

section
variable {bs : List Block} {s t : State} (h : Within bs s t)
include h

theorem Within.sc_eq (hb : .sc ∉ bs := by decide) : t.sc = s.sc := h.same .sc (by simpa using hb)
theorem Within.install_eq (hb : .install ∉ bs := by decide) : t.install = s.install := h.same .install (by simpa using hb)
theorem Within.safety_eq (hb : .safety ∉ bs := by decide) : t.safety = s.safety := h.same .safety (by simpa using hb)
theorem Within.zr_eq (hb : .zr ∉ bs := by decide) : t.zr = s.zr := h.same .zr (by simpa using hb)
theorem Within.patterns_eq (hb : .patterns ∉ bs := by decide) : t.patterns = s.patterns :=
  h.same .patterns (by simpa using hb)
theorem Within.os_eq (hb : .os ∉ bs := by decide) : t.os = s.os := h.same .os (by simpa using hb)

end

/-! ### One change of one block -/

/-- A change that leaves every block but one the same, the Control Port among those that it leaves. -/
theorem Within.block {b : Block} {s t : State} (hcp : t.cp = s.cp) (h : ∀ c : Block, c ≠ b → c.same s t) :
    Within [b] s t :=
  ⟨fun c hc => h c (by simp_all), hcp ▸ .refl⟩

theorem modSc_within (g : Controller → Controller) (s : State) : Within [.sc] s (s.modSc g) :=
  .block rfl (fun c hc => by cases c <;> simp [Block.same] at hc ⊢)
theorem modInstall_within (g : Install → Install) (s : State) : Within [.install] s (s.modInstall g) :=
  .block rfl (fun c hc => by cases c <;> simp [Block.same] at hc ⊢)
theorem modSafety_within (g : Safety → Safety) (s : State) : Within [.safety] s (s.modSafety g) :=
  .block rfl (fun c hc => by cases c <;> simp [Block.same] at hc ⊢)
theorem modZr_within (g : ZoneRouter → ZoneRouter) (s : State) : Within [.zr] s (s.modZr g) :=
  .block rfl (fun c hc => by cases c <;> simp [Block.same] at hc ⊢)
theorem modGe_within (g : GainEngine → GainEngine) (s : State) : Within [.ge] s (s.modGe g) :=
  .block rfl (fun c hc => by cases c <;> simp [Block.same] at hc ⊢)
theorem modCu_within (g : ConditionUnit → ConditionUnit) (s : State) : Within [.cu] s (s.modCu g) :=
  .block rfl (fun c hc => by cases c <;> simp [Block.same] at hc ⊢)
theorem modPatterns_within (g : PatternStore → PatternStore) (s : State) : Within [.patterns] s (s.modPatterns g) :=
  .block rfl (fun c hc => by cases c <;> simp [Block.same] at hc ⊢)
theorem modChimes_within (g : ChimeUnit → ChimeUnit) (s : State) : Within [.chimes] s (s.modChimes g) :=
  .block rfl (fun c hc => by cases c <;> simp [Block.same] at hc ⊢)
theorem modRx_within (g : Receivers → Receivers) (s : State) : Within [.rx] s (s.modRx g) :=
  .block rfl (fun c hc => by cases c <;> simp [Block.same] at hc ⊢)
theorem modSlm_within (g : StationManager → StationManager) (s : State) : Within [.slm] s (s.modSlm g) :=
  .block rfl (fun c hc => by cases c <;> simp [Block.same] at hc ⊢)
theorem modAf_within (g : Following → Following) (s : State) : Within [.af] s (s.modAf g) :=
  .block rfl (fun c hc => by cases c <;> simp [Block.same] at hc ⊢)
theorem modTw_within (g : TrafficWatch → TrafficWatch) (s : State) : Within [.tw] s (s.modTw g) :=
  .block rfl (fun c hc => by cases c <;> simp [Block.same] at hc ⊢)
theorem modClp_within (g : CallContext → CallContext) (s : State) : Within [.clp] s (s.modClp g) :=
  .block rfl (fun c hc => by cases c <;> simp [Block.same] at hc ⊢)
theorem modOs_within (g : OutputStage → OutputStage) (s : State) : Within [.os] s (s.modOs g) :=
  .block rfl (fun c hc => by cases c <;> simp [Block.same] at hc ⊢)
theorem modPins_within (g : Pins → Pins) (s : State) : Within [.pins] s (s.modPins g) :=
  .block rfl (fun c hc => by cases c <;> simp [Block.same] at hc ⊢)

/-- A post touches the Control Port alone. -/
theorem post_within (k : ReportKind) (n : Nat) (d : Bytes) (s : State) : Within [] s (post k n d s) :=
  ⟨fun b hb => by cases b <;> simp [Block.same] at hb ⊢, .report _ .refl⟩

/-- Settling touches nothing that a frame compares (R55, R96). -/
theorem settle_within (s : State) : Within [] s (settle s) := by
  refine ⟨fun b hb => ?_, .refl⟩
  cases b <;> simp [Block.same, settle, ungained_revoiced, Function.comp_def] at hb ⊢

/-! ### Precedence lists -/

theorem setList_within (z : Zone) (l : List Entry) (s : State) : Within [.zr] s (setList z l s) := modZr_within _ s

theorem postZone_within (z : Zone) (s : State) : Within [] s (postZone z s) := post_within _ _ _ s

theorem changeList_within (z : Zone) (l : List Entry) (s : State) : Within [.zr] s (changeList z l s) :=
  .ite .refl ((setList_within z l s).trans (postZone_within z _))

theorem insertEntry_within (z : Zone) (e : Entry) (s : State) : Within [.zr] s (insertEntry z e s) :=
  .ite (changeList_within _ _ s) .refl

theorem removeEntry_within (z : Zone) (c : Class) (s : State) : Within [.zr] s (removeEntry z c s) :=
  changeList_within _ _ s

theorem setCabinBase_within (src : Option Source) (s : State) : Within [.zr] s (setCabinBase src s) := modZr_within _ s

theorem modHp_within (h : Hp) (f : HpZone → HpZone) (s : State) : Within [.zr] s (modHp h f s) := modZr_within _ s

theorem setHpBase_within (h : Hp) (src : Option Source) (s : State) : Within [.zr] s (setHpBase h src s) :=
  modHp_within h _ s

theorem setQuiet_within (z : Zone) (q : Bool) (s : State) : Within [.zr] s (setQuiet z q s) :=
  .ite .refl ((modZr_within _ s).trans (postZone_within z _))

theorem setMuteFlag_within (z : Zone) (m : Bool) (s : State) : Within [.zr] s (setMuteFlag z m s) :=
  .ite .refl ((modZr_within _ s).trans (postZone_within z _))

/-! ### Quantities and condition records -/

theorem setSlot_within (i : Fin 16) (c : Option Condition) (s : State) : Within [.cu] s (setSlot i c s) :=
  .ite (modCu_within _ s) ((modCu_within _ s).trans (post_within _ _ _ _))

theorem evaluateSlot_within (q : Quantity) (v : Int) (s : State) (i : Fin 16) :
    Within [.cu] s (evaluateSlot q v s i) := by
  unfold evaluateSlot
  split
  · exact .refl
  · exact .ite (setSlot_within i _ s) .refl

theorem receipt_within (q : Quantity) (v : Int) (s : State) : Within [.cu] s (receipt q v s) :=
  ((modCu_within _ s).trans (.foldl (evaluateSlot_within q _) slotsInOrder _)).mono

/-! ### The canceller and the uplink selection -/

theorem postAec_within (s : State) : Within [] s (postAec s) := post_within _ _ _ s

theorem restartCanceller_within (s : State) : Within [.clp] s (restartCanceller s) :=
  .ite ((modClp_within _ s).trans (postAec_within _)) .refl

theorem startCanceller_within (s : State) : Within [.clp] s (startCanceller s) :=
  (modClp_within _ s).trans (postAec_within _)

theorem routeCanceller_within (s : State) : Within [.clp] s (routeCanceller s) :=
  (modClp_within _ s).trans (postAec_within _)

theorem bypassCanceller_within (s : State) : Within [.clp] s (bypassCanceller s) :=
  .ite (modClp_within _ s) ((modClp_within _ s).trans (postAec_within _))

theorem postMicFault_within (s : State) : Within [] s (postMicFault s) := post_within _ _ _ s

theorem reselect_within (s : State) : Within [.clp] s (reselect s) := modClp_within _ s

theorem remakeSelection_within (newFault : Bool) (s : State) : Within [.clp] s (remakeSelection newFault s) :=
  .ite ((reselect_within s).trans (postMicFault_within _)) (reselect_within s)

/-! ### Announcements and CALL entries -/

theorem modAnnouncement_within (f : Announcement → Announcement) (s : State) : Within [.tw] s (modAnnouncement f s) :=
  modTw_within _ s

theorem postDeferred_within (s : State) : Within [] s (postDeferred s) := post_within _ _ _ s

theorem insertTraffic_within (d : Bool) (zs : List Cabin) (s : State) : Within [.zr] s (insertTraffic d zs s) :=
  .foldl (fun s _ => insertEntry_within _ _ s) zs s

theorem insertTraffic_modTw_within (d : Bool) (zs : List Cabin) (g : TrafficWatch → TrafficWatch) (s : State) :
    Within [.zr, .tw] s ((insertTraffic d zs s).modTw g) :=
  (insertTraffic_within d zs s).trans (modTw_within g _)

theorem beginAnnouncement_within (s : State) : Within [.zr, .tw] s (beginAnnouncement s) := by
  unfold beginAnnouncement
  dsimp only
  split <;> split
  · exact insertTraffic_modTw_within _ _ _ s
  · exact (insertTraffic_modTw_within _ _ _ s).trans (post_within _ _ _ _)
  · exact (insertTraffic_modTw_within _ _ _ s).trans (postDeferred_within _)
  · exact ((insertTraffic_modTw_within _ _ _ s).trans (post_within _ _ _ _)).trans (postDeferred_within _)

theorem removeTraffic_within (s : State) : Within [.zr] s (removeTraffic s) :=
  .foldl (fun s _ => removeEntry_within _ _ s) Cabin.all s

theorem endAnnouncement_within (cause : EndCause) (s : State) : Within [.zr, .tw] s (endAnnouncement cause s) := by
  unfold endAnnouncement
  split
  · exact .refl
  · exact ((removeTraffic_within s).trans (modTw_within _ _)).trans (post_within _ _ _ _)

theorem placeCall_within (s : State) (z : Zone) : Within [.zr, .tw] s (placeCall s z) := by
  unfold placeCall
  dsimp only
  split
  · refine Within.mono (.trans (as := [.zr, .tw]) (.ite ?_ .refl) (insertEntry_within _ _ _))
    exact (removeEntry_within _ _ s).trans (modAnnouncement_within _ _)
  · exact (insertEntry_within _ _ s).mono

theorem placeCalls_within (zs : List Zone) (s : State) : Within [.zr, .tw] s (placeCalls zs s) :=
  .ite ((Within.foldl placeCall_within zs s).trans (postDeferred_within _)) (.foldl placeCall_within zs s)

theorem liftCall_within (s : State) (z : Zone) : Within [.zr, .tw] s (liftCall s z) := by
  have lifted := removeEntry_within z .call s
  unfold liftCall
  dsimp only
  split
  · split
    · exact ((lifted.trans (insertEntry_within _ _ _)).trans (modAnnouncement_within _ _)).mono
    · exact lifted.mono
  · exact lifted.mono

theorem liftCalls_within (zs : List Zone) (s : State) : Within [.zr, .tw] s (liftCalls zs s) :=
  .foldl liftCall_within zs s

/-! ### Amplifier channels -/

theorem changeAmp_within (k : Amp) (f : AmpChannel → AmpChannel) (s : State) : Within [.os, .clp] s (changeAmp k f s) :=
  .ite ((modOs_within _ s).trans (restartCanceller_within _)) ((modOs_within _ s).mono)

theorem endCause_within (kind : FaultKind) (k : Amp) (s : State) : Within [.os] s (endCause kind k s) := modOs_within _ s

theorem postChannelFault_within (kind : FaultKind) (k : Amp) (s : State) : Within [] s (postChannelFault kind k s) :=
  post_within _ _ _ s

theorem startAmp_within (k : Amp) (mark : Bool) (s : State) : Within [.os, .clp] s (startAmp k mark s) :=
  .ite .refl (.ite (changeAmp_within k _ s) (changeAmp_within k _ s))

theorem proceedStarts_within (s : State) : Within [.os, .clp] s (proceedStarts s) :=
  .foldl (fun s _ => .ite (startAmp_within _ _ s) .refl) Amp.all s

theorem enterOn_within (k : Amp) (s : State) : Within [.os, .clp] s (enterOn k s) := by
  have entered := ((changeAmp_within k
    (fun a => { a with state := .on, soft := none, trip := none, restartMark := false }) s).trans
    (endCause_within .overcurrentTrip k _)).mono (bs := [.os, .clp])
  exact .ite (entered.trans (post_within _ _ _ _)) entered

theorem shutDown_within (kind : FaultKind) (f : AmpChannel → AmpChannel) (k : Amp) (s : State) :
    Within [.os, .clp] s (shutDown kind f k s) :=
  (changeAmp_within k _ s).trans (postChannelFault_within kind k _)

end Sys2Proof.Machine
end

section
/-! SUPPORT. Frames of the Signal-Sound Generator, the receivers and what they share. -/

-- One declaration at a time: together they would start more threads than the check's memory limit has stacks for.
set_option Elab.async false

namespace Sys2Proof.Machine

/-! ### The chime queue and the voices -/

theorem setVoice_within (v : VoiceId) (x : Option Voice) (s : State) : Within [.chimes] s (setVoice v x s) :=
  modChimes_within _ s

theorem modEntry_within (p : PatternId) (f : ChimeEntry → ChimeEntry) (s : State) :
    Within [.chimes] s (modEntry p f s) := modChimes_within _ s

theorem dropEntry_within (p : PatternId) (s : State) : Within [.chimes] s (dropEntry p s) := modChimes_within _ s

theorem placeChime_within (e : ChimeEntry) (s : State) : Within [.chimes] s (placeChime e s) := by
  unfold placeChime
  exact modChimes_within _ s

theorem noteReroute_within (p : PatternId) (pos : SegmentPosition) (zs : List Cabin) (s : State) :
    Within [.chimes] s (noteReroute p pos zs s) := by
  unfold noteReroute
  split
  · exact .ite .refl ((modEntry_within _ _ s).trans (post_within _ _ _ _))
  · exact .refl

theorem beginTone_within (v : VoiceId) (x : Voice) (s : State) : Within [.chimes] s (beginTone v x s) :=
  ((setVoice_within v _ s).trans (noteReroute_within _ _ _ _)).mono

theorem insertChimes_within (s : State) : Within [.zr] s (insertChimes s) :=
  .foldl (fun s _ => insertEntry_within _ _ s) _ s

theorem removeChimes_within (s : State) : Within [.zr] s (removeChimes s) :=
  .foldl (fun s _ => removeEntry_within _ _ s) _ s

theorem takeEntry_within (v : VoiceId) (s : State) : Within [.zr, .chimes] s (takeEntry v s) := by
  unfold takeEntry
  split
  · exact .refl
  · exact ((((modEntry_within _ _ s).trans (modChimes_within _ _)).trans (beginTone_within v _ _)).trans
      (insertChimes_within _)).mono

theorem takeIfIdle_within (v : VoiceId) (s : State) : Within [.zr, .chimes] s (takeIfIdle v s) :=
  .ite (takeEntry_within v s) .refl

theorem preempt_within (s : State) : Within [.zr, .chimes] s (preempt s) := by
  unfold preempt
  split
  · refine .ite ?_ .refl
    exact ((((modEntry_within _ _ s).trans (setVoice_within _ _ _)).trans (takeEntry_within _ _)).trans
      (removeChimes_within _)).mono
  · exact .refl

theorem voicesLook_within (s : State) : Within [.zr, .chimes] s (voicesLook s) :=
  (((takeIfIdle_within .v1 s).trans (takeIfIdle_within .v2 _)).trans (preempt_within _)).mono

theorem endEntry_within (e : ChimeEntry) (cause : ChimeEnd) (s : State) : Within [.zr, .chimes] s (endEntry e cause s) := by
  unfold endEntry
  dsimp only
  split
  · exact ((((setVoice_within _ _ s).trans (dropEntry_within _ _)).trans (post_within _ _ _ _)).trans
      (removeChimes_within _)).mono
  · exact (((dropEntry_within _ s).trans (post_within _ _ _ _)).trans (removeChimes_within _)).mono

theorem nextRepeat_within (v : VoiceId) (x : Voice) (s : State) : Within [.chimes] s (nextRepeat v x s) :=
  ((modEntry_within _ _ s).trans (beginTone_within v _ _)).mono

theorem repeatGap_within (v : VoiceId) (x : Voice) (s : State) : Within [.chimes] s (repeatGap v x s) :=
  .ite (nextRepeat_within v x s) (setVoice_within v _ s)

theorem repeatEnd_within (v : VoiceId) (x : Voice) (s : State) : Within [.zr, .chimes] s (repeatEnd v x s) := by
  unfold repeatEnd
  split
  · exact (setVoice_within v _ s).mono
  · split
    · exact (repeatGap_within v x s).mono
    · exact .ite ((modEntry_within _ _ s).trans (repeatGap_within v x _)).mono
        ((endEntry_within _ _ s).trans (voicesLook_within _)).mono

theorem gapEnd_within (v : VoiceId) (x : Voice) (s : State) : Within [.zr, .chimes] s (gapEnd v x s) :=
  .ite (beginTone_within v _ s).mono (repeatEnd_within v x s)

theorem toneEnd_within (v : VoiceId) (x : Voice) (s : State) : Within [.zr, .chimes] s (toneEnd v x s) :=
  .ite (gapEnd_within v x s) (setVoice_within v _ s).mono

theorem phaseEnd_within (v : VoiceId) (x : Voice) (s : State) : Within [.zr, .chimes] s (phaseEnd v x s) := by
  unfold phaseEnd
  split
  · exact toneEnd_within v x s
  · exact gapEnd_within v x s
  · exact (nextRepeat_within v x s).mono

theorem joinTone_within (v : VoiceId) (p : PatternId) (added : CabinSet) (s : State) :
    Within [.zr, .chimes] s (joinTone v p added s) := by
  unfold joinTone
  split
  · exact .refl
  · exact (((setVoice_within v _ s).trans (noteReroute_within _ _ _ _)).trans (insertChimes_within _)).mono

theorem mergeChime_within (e : ChimeEntry) (t : Pattern) (zones : CabinSet) (s : State) :
    Within [.zr, .chimes] s (mergeChime e t zones s) := by
  unfold mergeChime
  dsimp only
  split
  · exact ((modEntry_within _ _ s).trans (joinTone_within _ _ _ _)).mono
  · exact (modEntry_within _ _ s).mono

theorem takeChime_within (p : PatternId) (t : Pattern) (zones : CabinSet) (s : State) :
    Within [.zr, .chimes] s (takeChime p t zones s).1 := by
  unfold takeChime
  split
  · exact ((mergeChime_within _ t zones s).trans (voicesLook_within _)).mono
  · split
    · exact ((placeChime_within _ s).trans (voicesLook_within _)).mono
    · split
      · exact .refl
      · split
        · exact ((((dropEntry_within _ s).trans (post_within _ _ _ _)).trans (placeChime_within _ _)).trans
            (voicesLook_within _)).mono
        · exact .refl

theorem cutEntry_within (s : State) (e : ChimeEntry) : Within [.zr, .chimes] s (cutEntry s e) :=
  .ite (.ite (endEntry_within e _ s) (modEntry_within _ _ s).mono) .refl

theorem failsafeChime_within (s : State) : Within [.zr, .chimes] s (failsafeChime s) := by
  unfold failsafeChime
  split
  · exact .refl
  · split
    · exact .refl
    · exact .ite (takeChime_within _ _ _ s) .refl

theorem failsafeSounds_within (s : State) : Within [.zr, .chimes] s (failsafeSounds s) :=
  (((Within.foldl cutEntry_within _ s).trans (voicesLook_within _)).trans (failsafeChime_within _)).mono

theorem silenceChimes_within (s : State) : Within [.chimes] s (silenceChimes s) := modChimes_within _ s

/-! ### Receivers and the station list -/

theorem modA_within (f : Receiver → Receiver) (s : State) : Within [.rx] s (modA f s) := modRx_within _ s

theorem modB_within (f : Receiver → Receiver) (s : State) : Within [.rx] s (modB f s) := modRx_within _ s

theorem modReceiver_within (x : Rx) (f : Receiver → Receiver) (s : State) : Within [.rx] s (modReceiver x f s) := by
  cases x
  · exact modA_within f s
  · exact modB_within f s

theorem changeReceiver_within (x : Rx) (f : Receiver → Receiver) (s : State) :
    Within [.rx] s (changeReceiver x f s) :=
  .ite ((modReceiver_within x f s).trans (post_within _ _ _ _)) (modReceiver_within x f s)

theorem postListChanged_within (s : State) : Within [] s (postListChanged s) := post_within _ _ _ s

theorem insertListed_within (e : ListEntry) (s : State) : Within [.slm] s (insertListed e s) :=
  (modSlm_within _ s).trans (postListChanged_within _)

theorem removeListed_within (st : Station) (s : State) : Within [.slm] s (removeListed st s) :=
  (modSlm_within _ s).trans (postListChanged_within _)

theorem insertInUse_within (e : ListEntry) (s : State) : Within [.slm] s (insertInUse e s) := by
  refine .ite (insertListed_within e s) ?_
  split
  · exact ((removeListed_within _ s).trans (insertListed_within e _)).mono
  · exact .refl

theorem insertFromSweep_within (e : ListEntry) (s : State) : Within [.slm] s (insertFromSweep e s) := by
  refine .ite (insertListed_within e s) ?_
  split
  · exact .ite ((removeListed_within _ s).trans (insertListed_within e _)).mono .refl
  · exact .refl

theorem modListed_within (st : Station) (f : ListEntry → ListEntry) (s : State) : Within [.slm] s (modListed st f s) :=
  modSlm_within _ s

theorem sightInUse_within (st : Station) (q : Nat) (s : State) : Within [.slm] s (sightInUse st q s) :=
  .ite (modListed_within _ _ s) (insertInUse_within _ s)

/-! ### RX-B and its holder -/

theorem orderB_within (st : Station) (state : RxState) (s : State) : Within [.rx] s (orderB st state s) :=
  changeReceiver_within _ _ s

theorem idleB_within (s : State) : Within [.rx] s (idleB s) := changeReceiver_within _ _ s

theorem postHolder_within (st : Station) (s : State) : Within [] s (postHolder st s) := post_within _ _ _ s

theorem setHolder_within (h : Holder) (s : State) : Within [.slm] s (setHolder h s) := modSlm_within _ s

theorem visitPosition_within (s : State) : Within [.rx, .slm] s (visitPosition s) :=
  ((modSlm_within _ s).trans (orderB_within _ _ _)).mono

theorem releaseB_within (s : State) : Within [.rx, .slm] s (releaseB s) :=
  .ite (((setHolder_within _ s).trans (postHolder_within _ _)).trans (visitPosition_within _)).mono
    (((setHolder_within _ s).trans (postHolder_within _ _)).trans (idleB_within _)).mono

theorem requestScan_within (s : State) : Within [.rx, .slm] s (requestScan s) :=
  .ite (((setHolder_within _ s).trans (postHolder_within _ _)).trans (visitPosition_within _)).mono .refl

theorem releaseCheck_within (s : State) : Within [.rx, .slm] s (releaseCheck s) := .ite (releaseB_within s) .refl

/-! ### The traffic watch and RX-A's tunes -/

theorem judgeCarrier_within (s : State) : Within [.tw] s (judgeCarrier s) := by
  unfold judgeCarrier
  split
  · exact .refl
  · exact .ite .refl ((modTw_within _ s).trans (post_within _ _ _ _))

theorem afterClear_within (cause : ClearCause) (s : State) : Within [.zr, .tw, .af] s (afterClear cause s) := by
  have cleared : Within [.zr, .tw, .af] s
      ((if s.af.state = .low then s.modAf (fun f => { f with state := .idle, timer := none }) else s).modTw
        (fun w => { w with codeHeld := none })) :=
    ((Within.ite (modAf_within _ s) .refl).trans (modTw_within _ _)).mono
  unfold afterClear
  dsimp only
  split
  · exact (cleared.trans (endAnnouncement_within _ _)).mono
  · exact (cleared.trans (endAnnouncement_within _ _)).mono
  · exact .ite (cleared.trans (modTw_within _ _)).mono cleared

theorem watchFlags_within (old new : DataRecord) (flags : Bool) (s : State) :
    Within [.zr, .tw] s (watchFlags old new flags s) := by
  have held : Within [.tw] s (if new.code != old.code then
      s.modTw (fun w => { w with codeHeld := new.code.map (fun _ => 0) }) else s) := .ite (modTw_within _ s) .refl
  have bridged := (held.trans (Within.ite (c := (flags && new.trafficOn) = true) (bs := [.tw])
    (modTw_within (fun w => { w with bridge := none }) _) .refl)).mono (bs := [.zr, .tw])
  unfold watchFlags
  dsimp only
  refine .ite (.ite (bridged.trans (beginAnnouncement_within _)).mono bridged)
    (.ite (bridged.trans (endAnnouncement_within _ _)).mono bridged)

theorem tuneA_within (st : Station) (purpose : TunePurpose) (mute : TunerMute) (cause : ClearCause) (s : State) :
    Within [.zr, .rx, .af, .tw] s (tuneA st purpose mute cause s) :=
  (((changeReceiver_within _ _ s).trans (modRx_within _ _)).trans (afterClear_within cause _)).mono

theorem retune_within (st : Station) (s : State) : Within [.zr, .rx, .af, .tw] s (retune st s) := tuneA_within _ _ _ _ s

theorem setLastTuned_within (s : State) : Within [.rx] s (setLastTuned s) := modRx_within _ s

theorem lockA_within (q : Nat) (s : State) : Within [.rx] s (lockA q s) :=
  (modA_within _ s).trans (modRx_within _ _) |>.mono

/-! ### Alternate following -/

theorem followReceipt_within (qs : Nat) (s : State) : Within [.af] s (followReceipt qs s) := by
  unfold followReceipt
  split
  · exact .ite (modAf_within _ s) .refl
  · exact .ite .refl (modAf_within _ s)
  · exact .refl

theorem followIdle_within (s : State) : Within [.af] s (followIdle s) := modAf_within _ s

theorem tryNext_within (s : State) : Within [.zr, .rx, .slm, .af, .tw] s (tryNext s) := by
  unfold tryNext
  split
  · exact (((post_within _ _ _ s).trans (releaseCheck_within _)).trans (modAf_within _ _)).mono
  · dsimp only
    split
    · exact ((modAf_within _ s).trans (tuneA_within _ _ _ _ _)).mono
    · exact (((modAf_within _ s).trans (orderB_within _ _ _)).trans (modAf_within _ _)).mono
    · exact (((((modAf_within _ s).trans (setHolder_within _ _)).trans (postHolder_within _ _)).trans
        (orderB_within _ _ _)).trans (modAf_within _ _)).mono

theorem beginAttempt_within (s : State) : Within [.zr, .rx, .slm, .af, .tw] s (beginAttempt s) :=
  ((modAf_within _ s).trans (tryNext_within _)).mono

theorem tuneBack_within (mute : TunerMute) (s : State) : Within [.zr, .rx, .af, .tw] s (tuneBack mute s) :=
  tuneA_within _ _ _ _ s

theorem switched_within (means : Means) (s : State) : Within [.rx, .slm, .af] s (switched means s) :=
  ((((setLastTuned_within s).trans (post_within _ _ _ _)).trans (releaseCheck_within _)).trans
    (followIdle_within _)).mono

theorem reverted_within (cause : RevertCause) (s : State) : Within [.zr, .rx, .af, .tw] s (reverted cause s) :=
  (((post_within _ _ _ s).trans (tuneBack_within _ _)).trans (modAf_within _ _)).mono

theorem abandonAttempt_within (s : State) : Within [.rx, .slm, .af] s (abandonAttempt s) :=
  ((releaseCheck_within s).trans (followIdle_within _)).mono

theorem checkPassed_within (s : State) : Within [.zr, .rx, .slm, .af, .tw] s (checkPassed s) :=
  (((releaseCheck_within s).trans (modAf_within _ _)).trans (tuneA_within _ _ _ _ _)).mono

theorem judgeCheck_within (s : State) : Within [.zr, .rx, .slm, .af, .tw] s (judgeCheck s) := by
  refine .ite ?_ .refl
  split
  · exact .refl
  · exact .ite (checkPassed_within s) (tryNext_within s)

theorem judgeVerify_within (s : State) : Within [.zr, .rx, .slm, .af, .tw] s (judgeVerify s) := by
  refine .ite ?_ .refl
  split
  · exact .refl
  · exact .ite (switched_within _ s).mono (reverted_within _ s).mono

theorem requestRear_within (st : Station) (s : State) : Within [.zr, .rx, .slm, .af, .tw] s (requestRear st s) := by
  have ordered := (((setHolder_within (.rear st) s).trans (postHolder_within st _)).trans
    (orderB_within st .tuning _)).mono (bs := [.zr, .rx, .slm, .af, .tw])
  exact .ite .refl (.ite (ordered.trans (tryNext_within _)).mono ordered)

/-! ### The sweep -/

theorem completeSweep_within (s : State) : Within [.slm] s (completeSweep s) :=
  (((((modSlm_within _ s).trans (.foldl (bs := [.slm]) (fun s e => removeListed_within _ s) _ _)).trans
    (modSlm_within _ _)).trans (post_within _ _ _ _)).trans (postListChanged_within _)).mono

theorem advanceSweep_within (s : State) : Within [.rx, .slm] s (advanceSweep s) := by
  unfold advanceSweep
  split
  · exact ((modSlm_within _ s).trans (visitPosition_within _)).mono
  · exact ((completeSweep_within s).trans (visitPosition_within _)).mono

theorem sweepMeasured_within (q : Nat) (s : State) : Within [.rx, .slm] s (sweepMeasured q s) := by
  have noted : Within [.slm] s
      (if q < s.slm.quickThreshold then s
      else if (listEntry s s.slm.position).isSome then modListed s.slm.position (ListEntry.sighted q) s
      else insertFromSweep (freshEntry s.slm.position q) s) :=
    .ite .refl (.ite (modListed_within _ _ s) (insertFromSweep_within _ s))
  unfold sweepMeasured
  dsimp only
  split
  · exact .ite (noted.trans (modSlm_within _ _)).mono (noted.trans (advanceSweep_within _)).mono
  · exact (noted.trans (advanceSweep_within _)).mono

/-! ### Handing on and data groups -/

theorem receipt_sightInUse_within (q : Quantity) (v : Int) (st : Station) (qs : Nat) (s : State) :
    Within [.cu, .slm] s (sightInUse st qs (receipt q v s)) :=
  (receipt_within q v s).trans (sightInUse_within st qs _)

theorem handOn_within (x : Rx) (qs : Nat) (s : State) : Within [.cu, .slm, .af] s (handOn x qs s) := by
  unfold handOn
  cases x <;> dsimp only <;> split
  · exact ((receipt_sightInUse_within _ _ _ _ s).trans (followReceipt_within qs _)).mono
  · exact ((receipt_within _ _ s).trans (followReceipt_within qs _)).mono
  · exact (receipt_sightInUse_within _ _ _ _ s).mono
  · exact (receipt_within _ _ s).mono

theorem learnRecord_within (x : Rx) (old new : DataRecord) (flags : Bool) (s : State) :
    Within [.slm] s (learnRecord x old new flags s) := by
  unfold learnRecord
  split
  · exact modListed_within _ _ s
  · exact .refl

theorem dwellFilled_within (s : State) : Within [.rx, .slm] s (dwellFilled s) := .ite (advanceSweep_within s) .refl

theorem handRecord_within (x : Rx) (old new : DataRecord) (flags : Bool) (s : State) :
    Within [.zr, .rx, .slm, .af, .tw] s (handRecord x old new flags s) := by
  unfold handRecord
  cases x
  · exact (((learnRecord_within .a old new flags s).trans (watchFlags_within _ _ _ _)).trans
      (judgeVerify_within _)).mono
  · exact (((learnRecord_within .b old new flags s).trans (judgeCheck_within _)).trans (dwellFilled_within _)).mono

theorem takeGroup_within (x : Rx) (code : Nat) (p : Payload) (s : State) :
    Within [.zr, .rx, .slm, .af, .tw] s (takeGroup x code p s) := by
  unfold takeGroup
  dsimp only
  refine .ite ?_ .refl
  split
  · exact (changeReceiver_within _ _ s).mono
  · cases x
    · exact ((changeReceiver_within _ _ s).trans (afterClear_within _ _)).mono
    · exact (changeReceiver_within _ _ s).mono
  · exact ((changeReceiver_within _ _ s).trans (handRecord_within _ _ _ _ _)).mono

end Sys2Proof.Machine
end

section
/-! SUPPORT. Frames of the requests' own rules and of the events. -/

-- One declaration at a time: together they would start more threads than the check's memory limit has stacks for.
set_option Elab.async false

namespace Sys2Proof.Machine

/-! ### Answers -/

@[simp] theorem accept_state (s : State) (body : Bytes) : (accept s body).state = s := rfl
@[simp] theorem accept_status (s : State) (body : Bytes) : (accept s body).status = .ok := rfl
@[simp] theorem accept_body (s : State) (body : Bytes) : (accept s body).body = body := rfl
@[simp] theorem refuse_state (s : State) (status : Status) : (refuse s status).state = s := rfl
@[simp] theorem refuse_status (s : State) (status : Status) : (refuse s status).status = status := rfl
@[simp] theorem refuse_body (s : State) (status : Status) : (refuse s status).body = [] := rfl

/-- A request's own rule has answered with a state in which the named blocks alone have changed. -/
def Answers (bs : List Block) (s : State) (a : Answer) : Prop := Within bs s a.state

theorem Answers.of_state {bs : List Block} {s : State} {a : Answer} (h : Within bs s a.state) : Answers bs s a := h

theorem Answers.refuse {bs : List Block} {s : State} {status : Status} : Answers bs s (refuse s status) := Within.refl

theorem Answers.accept {bs : List Block} {s t : State} {body : Bytes} (h : Within bs s t) :
    Answers bs s (accept t body) := h

theorem Answers.ite {bs : List Block} {s : State} {a b : Answer} {c : Prop} [Decidable c] (ha : Answers bs s a)
    (hb : Answers bs s b) : Answers bs s (if c then a else b) := by
  split <;> assumption

/-! ### Resets, installation and the safety configuration -/

theorem senseJacks_within (s : State) : Within [.zr] s (senseJacks s) := modZr_within _ s

theorem postPartReady_within (s : State) : Within [] s (postPartReady s) := post_within _ _ _ s

theorem initialised_within (s : State) : Within [.sc, .zr, .cu] s (initialised s) :=
  ((((modSc_within _ s).trans (senseJacks_within _)).trans (receipt_within _ _ _)).trans (postPartReady_within _)).mono

theorem restoreClock_within (s : State) : Within [.zr, .clp] s (restoreClock s) :=
  ((modZr_within _ s).trans (post_within _ _ _ _)).trans (restartCanceller_within _)

theorem modAmp_within (k : Amp) (f : AmpChannel → AmpChannel) (s : State) : Within [.os] s (modAmp k f s) :=
  modOs_within _ s

theorem bridgeEven_within (k : Amp) (s : State) : Within [.os] s (bridgeEven k s) :=
  ((modAmp_within k _ s).trans (modOs_within _ _)).mono

theorem installEffect_within (f : InstallField) (v : InstallValue) (s : State) :
    Within [.os, .zr, .clp] s (installEffect f v s) := by
  unfold installEffect
  split
  · exact (modAmp_within _ _ s).mono
  · exact (modOs_within _ s).mono
  · exact (bridgeEven_within _ s).mono
  · exact (modHp_within _ _ s).mono
  · exact (remakeSelection_within _ s).mono
  · exact .ite (restoreClock_within s).mono .refl
  · exact .refl

theorem answerInstall_within (body : Bytes) (s : State) :
    Answers [.install, .os, .zr, .clp] s (answerInstall body s) := by
  unfold answerInstall
  repeat' split
  any_goals with_reducible exact .refuse
  exact .accept ((modInstall_within _ s).trans (installEffect_within _ _ _))

theorem answerOpenEdit_within (s : State) : Answers [.safety] s (answerOpenEdit s) :=
  .ite .refuse (.accept (modSafety_within _ s))

theorem whileEditing_within {bs : List Block} {act : State → Answer} (s : State) (h : Answers bs s (act s)) :
    Answers bs s (whileEditing act s) := .ite .refuse (.ite .refuse h)

theorem answerSafety_within (body : Bytes) (s : State) : Answers [.safety] s (answerSafety body s) := by
  unfold answerSafety
  split
  · exact .refuse
  · exact .accept (modSafety_within _ s)

theorem endLoad_within (s : State) : Within [.patterns] s (endLoad s) := modPatterns_within _ s

theorem answerLock_within (s : State) : Answers [.safety, .patterns] s (answerLock s) :=
  .ite (.accept ((modSafety_within _ s).trans (endLoad_within _))) Within.refl

/-! ### Operating states -/

theorem startOnResult_within (s : State) (k : Amp) : Within [.os, .clp] s (startOnResult s k) := by
  have latched (kind : FaultKind) (f : AmpChannel → AmpChannel) :
      Within [.os, .clp] s (postChannelFault kind k (changeAmp k f s)) :=
    (changeAmp_within k f s).trans (postChannelFault_within kind k _)
  refine .ite ?_ .refl
  split
  · exact latched _ _
  · exact latched _ _
  · exact latched _ _
  · exact (((startAmp_within k false s).trans (modAmp_within k _ _)).trans (postChannelFault_within _ k _)).mono
  · exact startAmp_within k false s
  · exact startAmp_within k false s

theorem startOthers_within (s : State) : Within [.os] s (startOthers s) := modOs_within _ s

theorem startHolder_within (s : State) : Within [.rx, .slm] s (startHolder s) := by
  unfold startHolder
  split
  · exact (orderB_within _ _ s).mono
  · exact .ite (requestScan_within s) .refl

theorem ampOff_within (k : Amp) (s : State) : Within [.os, .clp] s (ampOff k s) := changeAmp_within k _ s

theorem standbyOff_within (all : Bool) (s : State) : Within [.os, .clp] s (standbyOff all s) := by
  unfold standbyOff
  exact ((Within.foldl (bs := [.os, .clp]) (fun _ k => .ite (ampOff_within k _) .refl) Amp.all s).trans
    (modOs_within _ _)).mono

theorem standbyHolder_within (s : State) : Within [.slm] s (standbyHolder s) := by
  unfold standbyHolder
  split
  · exact (setHolder_within _ s).trans (postHolder_within _ _)
  · exact (setHolder_within _ s).trans (postHolder_within _ _)
  · exact setHolder_within _ s

theorem reduceLists_within (s : State) : Within [.zr] s (reduceLists s) :=
  .foldl (fun s _ => changeList_within _ _ s) Zone.all s

theorem answerWake_within (s : State) : Answers [.os, .clp, .sc] s (answerWake s) :=
  .accept ((standbyOff_within true s).trans (modSc_within _ _))

/-! ### Zones -/

theorem changeHpBase_within (h : Hp) (src : Option Source) (s : State) :
    Within [.zr, .rx, .slm] s (changeHpBase h src s) :=
  .ite ((setHpBase_within h src s).trans (releaseB_within _)) (setHpBase_within h src s).mono

theorem answerSelect_within (body : Bytes) (s : State) : Answers [.zr, .rx, .slm] s (answerSelect body s) := by
  unfold answerSelect
  repeat' split
  any_goals with_reducible exact .refuse
  · exact .accept (setCabinBase_within _ s).mono
  · exact .accept (changeHpBase_within _ _ s)

theorem modCabin_within (f : CabinSettings → CabinSettings) (s : State) : Within [.zr] s (modCabin f s) :=
  modZr_within _ s

theorem setCabinStep_within (cls : Class) (n : Nat) (s : State) : Within [.zr, .clp] s (setCabinStep cls n s) :=
  .ite ((modCabin_within _ s).trans (restartCanceller_within _)) (modCabin_within _ s).mono

theorem answerVolume_within (body : Bytes) (s : State) : Answers [.zr, .clp] s (answerVolume body s) := by
  unfold answerVolume
  dsimp only
  repeat' split
  any_goals with_reducible exact .refuse
  · exact .accept (setCabinStep_within _ _ s)
  · exact .accept (modHp_within _ _ s).mono
  · exact .accept (modHp_within _ _ s).mono

theorem answerMute_within (body : Bytes) (s : State) : Answers [.zr] s (answerMute body s) := by
  unfold answerMute
  repeat' split
  any_goals with_reducible exact .refuse
  exact .accept (setMuteFlag_within _ _ s)

theorem answerBalance_within (body : Bytes) (s : State) : Answers [.zr] s (answerBalance body s) := by
  unfold answerBalance
  split
  · exact .accept (modCabin_within _ s)
  · exact .refuse

theorem answerTrim_within (body : Bytes) (s : State) : Answers [.zr] s (answerTrim body s) := by
  unfold answerTrim
  repeat' split
  any_goals with_reducible exact .refuse
  exact .accept (modZr_within _ s)

theorem answerDuck_within (body : Bytes) (s : State) : Answers [.zr] s (answerDuck body s) := by
  unfold answerDuck
  repeat' split
  any_goals with_reducible exact .refuse
  exact .accept (modZr_within _ s)

theorem answerSpeedLift_within (body : Bytes) (s : State) : Answers [.zr] s (answerSpeedLift body s) := by
  unfold answerSpeedLift
  split
  · exact .accept (modCabin_within _ s)
  · exact .refuse

theorem answerRearQuiet_within (body : Bytes) (s : State) : Answers [.zr] s (answerRearQuiet body s) := by
  unfold answerRearQuiet
  dsimp only
  repeat' split
  any_goals with_reducible exact .refuse
  all_goals exact .accept (modCabin_within _ s)

theorem answerGetZone_within (body : Bytes) (s : State) : Answers [] s (answerGetZone body s) := by
  unfold answerGetZone
  repeat' split
  any_goals with_reducible exact .refuse
  exact .accept .refl

theorem startPrompts_within (zs : List Cabin) (s : State) : Within [.zr] s (startPrompts zs s) :=
  .foldl (fun s _ => insertEntry_within _ _ s) zs s

theorem endPrompts_within (zs : List Cabin) (s : State) : Within [.zr] s (endPrompts zs s) :=
  .foldl (fun s _ => removeEntry_within _ _ s) zs s

theorem answerPrompts_within {act : List Cabin → State → State} (h : ∀ zs s, Within [.zr] s (act zs s)) (body : Bytes)
    (s : State) : Answers [.zr] s (answerPrompts act body s) := by
  unfold answerPrompts
  repeat' split
  any_goals with_reducible exact .refuse
  exact .accept (h _ s)

theorem writeVoicing_within (c : Chan) (v : Voicing) (s : State) : Within [.ge] s (writeVoicing c v s) :=
  modGe_within _ s

theorem answerVoicing_within (body : Bytes) (s : State) : Answers [.ge] s (answerVoicing body s) := by
  unfold answerVoicing
  dsimp only
  repeat' split
  any_goals with_reducible exact .refuse
  exact .accept (writeVoicing_within _ _ s)

theorem ramped_within (s : State) : Within [.ge, .os, .clp] s (ramped s) :=
  .ite ((modGe_within _ s).trans (standbyOff_within false _)) (modGe_within _ s).mono

theorem loseClock_within (s : State) : Within [.zr] s (loseClock s) := (modZr_within _ s).trans (post_within _ _ _ _)

theorem takeBgt_within (h : Hp) (st : Station) (s : State) : Within [.zr, .rx, .slm, .af, .tw] s (takeBgt h st s) :=
  ((setHpBase_within h _ s).trans (requestRear_within st _)).mono

theorem answerRearTune_within (body : Bytes) (s : State) :
    Answers [.zr, .rx, .slm, .af, .tw] s (answerRearTune body s) := by
  unfold answerRearTune
  repeat' split
  any_goals with_reducible exact .refuse
  · exact .accept (changeHpBase_within _ _ s).mono
  · exact .accept (takeBgt_within _ _ s)

theorem answerCeiling_within (body : Bytes) (s : State) : Answers [.zr] s (answerCeiling body s) := by
  unfold answerCeiling
  dsimp only
  repeat' split
  any_goals with_reducible exact .refuse
  exact .accept (modHp_within _ _ s)

/-! ### Calls and jacks -/

theorem leaveIdle_within (new : CallState) (s : State) : Within [.zr, .tw, .clp, .cu] s (leaveIdle new s) := by
  have placed := ((modClp_within (fun c => { c with state := new, restarts := 0 }) s).trans
    (placeCalls_within (routeZones s.clp.route) _)).mono (bs := [.zr, .tw, .clp, .cu])
  unfold leaveIdle
  dsimp only
  refine (((Within.ite (placed.trans (startCanceller_within _)) placed.mono).trans
    (remakeSelection_within _ _)).trans (receipt_within _ _ _)).mono

theorem callEnds_within (s : State) : Within [.zr, .tw, .clp, .cu] s (callEnds s) :=
  ((((modClp_within _ s).trans (liftCalls_within _ _)).trans (bypassCanceller_within _)).trans (receipt_within _ _ _)).mono

theorem changeCall_within (new : CallState) (s : State) : Within [.zr, .tw, .clp, .cu] s (changeCall new s) := by
  unfold changeCall
  split
  · exact .refl
  · exact leaveIdle_within _ s
  · exact callEnds_within s
  · exact ((modClp_within _ s).trans (receipt_within _ _ _)).mono

theorem answerCallState_within (body : Bytes) (s : State) :
    Answers [.zr, .tw, .clp, .cu] s (answerCallState body s) := by
  unfold answerCallState
  repeat' split
  any_goals with_reducible exact .refuse
  exact .accept (changeCall_within _ s)

theorem postRoute_within (old : Route) (cause : RouteCause) (s : State) : Within [] s (postRoute old cause s) :=
  post_within _ _ _ s

theorem moveEntries_within (old new : Route) (s : State) : Within [.zr, .tw] s (moveEntries old new s) :=
  .ite .refl ((liftCalls_within _ s).trans (placeCalls_within _ _)).mono

theorem moveCanceller_within (new : Route) (s : State) : Within [.clp] s (moveCanceller new s) := by
  refine .ite .refl ?_
  split
  · exact routeCanceller_within s
  · exact bypassCanceller_within s

theorem moveRoute_within (new : Route) (cause : RouteCause) (s : State) :
    Within [.zr, .tw, .clp] s (moveRoute new cause s) := by
  have moved := ((((modClp_within (fun c => { c with route := new }) s).trans
    (moveEntries_within s.clp.route new _)).trans (reselect_within _)).trans
    (postRoute_within s.clp.route cause _)).mono (bs := [.zr, .tw, .clp])
  exact ((Within.ite (moved.trans (postMicFault_within _)) moved).trans (moveCanceller_within new _)).mono

theorem answerCallRoute_within (body : Bytes) (s : State) : Answers [.zr, .tw, .clp] s (answerCallRoute body s) := by
  have moves (r : Route) : Within [.zr, .tw, .clp] s (if r = s.clp.route then s else moveRoute r .host s) :=
    .ite .refl (moveRoute_within r .host s)
  unfold answerCallRoute
  dsimp only
  split
  · split
    · exact .refuse
    · exact .accept (moves _)
    · exact .ite .refuse (.ite .refuse (.ite .refuse (.accept (moves _))))
  · exact .refuse

theorem answerUplinkMute_within (body : Bytes) (s : State) : Answers [.clp] s (answerUplinkMute body s) := by
  unfold answerUplinkMute
  dsimp only
  repeat' split
  any_goals with_reducible exact .refuse
  exact .accept (modClp_within _ s)

theorem answerMicPolicy_within (body : Bytes) (s : State) : Answers [.clp] s (answerMicPolicy body s) := by
  unfold answerMicPolicy
  dsimp only
  repeat' split
  any_goals with_reducible exact .refuse
  exact .accept ((modClp_within _ s).trans (reselect_within _)).mono

theorem jackFallback_within (h : Hp) (s : State) : Within [.zr, .tw, .clp] s (jackFallback h s) :=
  .ite (moveRoute_within _ _ s) .refl

theorem jackChanges_within (h : Hp) (inserted : Bool) (s : State) :
    Within [.zr, .tw, .clp] s (jackChanges h inserted s) :=
  ((modHp_within h _ s).trans ((Within.ite .refl (jackFallback_within h _)).trans (post_within _ _ _ _))).mono

/-! ### Vehicle state and condition records -/

theorem receiveVehicle_within (speed reverse tailgate ignition : Nat) (s : State) :
    Within [.cu] s (receiveVehicle speed reverse tailgate ignition s) :=
  ((((receipt_within _ _ s).trans (receipt_within _ _ _)).trans (receipt_within _ _ _)).trans
    (receipt_within _ _ _)).mono

theorem storeValue_within (q : Quantity) (v : Int) (s : State) : Within [.cu] s (storeValue q v s) := modCu_within _ s

theorem storeVehicle_within (speed reverse tailgate ignition : Nat) (s : State) :
    Within [.cu] s (storeVehicle speed reverse tailgate ignition s) :=
  ((((storeValue_within _ _ s).trans (storeValue_within _ _ _)).trans (storeValue_within _ _ _)).trans
    (storeValue_within _ _ _)).mono

theorem answerVehicle_within (body : Bytes) (s : State) : Answers [.cu] s (answerVehicle body s) := by
  unfold answerVehicle
  dsimp only
  split
  · exact .ite .refuse (.accept ((storeVehicle_within _ _ _ _ s).trans (receiveVehicle_within _ _ _ _ _)).mono)
  · exact .refuse

theorem answerCondition_within (body : Bytes) (s : State) : Answers [.cu] s (answerCondition body s) := by
  unfold answerCondition
  dsimp only
  repeat' split
  any_goals with_reducible exact .refuse
  all_goals exact .accept (setSlot_within _ _ s)

theorem holdRunsOut_within (i : Fin 16) (s : State) : Within [.cu] s (holdRunsOut i s) := by
  unfold holdRunsOut
  split
  · exact .refl
  · split
    · exact .refl
    · exact setSlot_within i _ s

/-! ### Outputs -/

theorem beginDiag_within (k : Amp) (set waiting done : List Amp) (s : State) :
    Within [.os, .clp] s (beginDiag k set waiting done s) :=
  ((changeAmp_within k _ s).trans (modOs_within _ _)).mono

theorem answerLoadTest_within (body : Bytes) (s : State) : Answers [.os, .clp] s (answerLoadTest body s) := by
  unfold answerLoadTest
  repeat' split
  any_goals with_reducible exact .refuse
  exact .accept (beginDiag_within _ _ _ _ s)

theorem channelTested_within (t : LoadTest) (r : LoadResult) (s : State) :
    Within [.os, .clp] s (channelTested t r s) := by
  unfold channelTested
  dsimp only
  split
  · exact ((changeAmp_within _ _ s).trans (beginDiag_within _ _ _ _ _)).mono
  · exact (((changeAmp_within _ _ s).trans (modOs_within _ _)).trans (post_within _ _ _ _)).mono

theorem checkEnds_within (registered : Bool) (t : LoadTest) (s : State) :
    Within [.os, .clp] s (checkEnds registered t s) :=
  .ite (modOs_within _ s).mono (channelTested_within _ _ s)

theorem answerProtection_within (body : Bytes) (s : State) : Answers [.os] s (answerProtection body s) := by
  unfold answerProtection
  dsimp only
  split
  · split
    · exact .accept (modOs_within _ s)
    · exact .refuse
  · exact .refuse

theorem answerRetry_within (body : Bytes) (s : State) : Answers [.os, .clp] s (answerRetry body s) := by
  unfold answerRetry
  repeat' split
  any_goals with_reducible exact .refuse
  exact .accept (startAmp_within _ _ s)

theorem setDriver_within (h : Hp) (d : HpDriver) (s : State) : Within [.os] s (setDriver h d s) := modOs_within _ s

theorem releaseDriver_within (h : Hp) (s : State) : Within [.os] s (releaseDriver h s) :=
  .ite (setDriver_within h _ s) .refl

theorem answerClear_within (body : Bytes) (s : State) : Answers [.os] s (answerClear body s) := by
  unfold answerClear
  repeat' split
  any_goals with_reducible exact .refuse
  exact .accept (releaseDriver_within _ s)

theorem answerFaults_within (s : State) : Answers [.os] s (answerFaults s) := .accept (modOs_within _ s)

theorem excludeAmp_within (s : State) (k : Amp) : Within [.os] s (excludeAmp s k) :=
  .ite ((modAmp_within k _ s).trans (endCause_within _ k _)).mono .refl

theorem excludeMics_within (s : State) : Within [.clp] s (excludeMics s) :=
  .ite .refl ((modClp_within _ s).trans (remakeSelection_within _ _)).mono

theorem answerMonitor_within (body : Bytes) (s : State) : Answers [.os, .clp] s (answerMonitor body s) := by
  unfold answerMonitor
  repeat' split
  any_goals with_reducible exact .refuse
  exact .accept (((modOs_within _ s).trans (.foldl excludeAmp_within Amp.all _)).trans (excludeMics_within _)).mono

theorem currentSampled_within (k : Amp) (belowOpen : Bool) (level : Int) (s : State) :
    Within [.os] s (currentSampled k belowOpen level s) :=
  .ite (.ite (modAmp_within k _ s) ((modAmp_within k _ s).trans (endCause_within _ k _)).mono)
    (.ite .refl (endCause_within _ k s))

theorem setBank_within (b : Bank) (x : BankState) (s : State) : Within [.os] s (setBank b x s) := modOs_within _ s

theorem thermalDown_within (b : Bank) (s : State) (k : Amp) : Within [.os, .clp] s (thermalDown b s k) :=
  .ite ((modAmp_within k _ s).trans (shutDown_within _ _ k _)).mono .refl

theorem thermalCauseEnds_within (b : Bank) (s : State) (k : Amp) : Within [.os] s (thermalCauseEnds b s k) :=
  .ite ((modAmp_within k _ s).trans (endCause_within _ k _)).mono .refl

theorem shutdownActs_within (b : Bank) (was now : Bool) (s : State) : Within [.os, .clp] s (shutdownActs b was now s) :=
  .ite (.foldl (thermalDown_within b) _ s)
    (.ite ((Within.foldl (thermalCauseEnds_within b) Amp.all s).trans (proceedStarts_within _)).mono .refl)

theorem thermalSample_within (b : Bank) (t : Int) (s : State) : Within [.os, .clp] s (thermalSample b t s) := by
  unfold thermalSample
  dsimp only
  exact ((Within.ite (setBank_within b _ s) ((setBank_within b _ s).trans (post_within _ _ _ _))).trans
    (shutdownActs_within b _ _ _)).mono

theorem overvoltageHold_within (s : State) (k : Amp) : Within [.os, .clp] s (overvoltageHold s k) :=
  .ite (shutDown_within _ _ k s) .refl

theorem holdCauseEnds_within (s : State) (k : Amp) : Within [.os] s (holdCauseEnds s k) := endCause_within _ k s

theorem supplyActs_within (was now : SupplyState) (s : State) : Within [.os, .clp] s (supplyActs was now s) :=
  .ite (.foldl overvoltageHold_within Amp.all s)
    (.ite ((Within.foldl holdCauseEnds_within Amp.all s).trans (proceedStarts_within _)).mono .refl)

theorem supplySample_within (v : Nat) (s : State) : Within [.os, .clp] s (supplySample v s) := by
  unfold supplySample
  dsimp only
  exact ((Within.ite (modOs_within _ s) ((modOs_within _ s).trans (post_within _ _ _ _))).trans
    (supplyActs_within _ _ _)).mono

theorem biasSample_within (m : Mic) (inside : Bool) (s : State) : Within [.clp] s (biasSample m inside s) :=
  .ite .refl ((modClp_within _ s).trans (remakeSelection_within _ _)).mono

theorem driverShort_within (h : Hp) (s : State) : Within [.os] s (driverShort h s) :=
  (setDriver_within h _ s).trans (post_within _ _ _ _)

theorem sampled_within (x : Sample) (s : State) : Within [.os, .clp, .cu] s (sampled x s) := by
  cases x with
  | ampCurrent k below level => exact (currentSampled_within k below level s).mono
  | temperature b t => exact ((thermalSample_within b t s).trans (receipt_within _ _ _)).mono
  | supply v => exact ((supplySample_within v s).trans (receipt_within _ _ _)).mono
  | micBias m inside => exact (biasSample_within m inside s).mono
  | hpCurrent h above => exact .ite (driverShort_within h s).mono .refl

theorem tripped_within (k : Amp) (s : State) : Within [.os, .clp] s (tripped k s) := shutDown_within _ _ k s

theorem openSuspected_within (k : Amp) (s : State) : Within [.os] s (openSuspected k s) :=
  (modAmp_within k _ s).trans (post_within _ _ _ _)

/-! ### Radio -/

theorem abortSeek_within (k : Kind) (s : State) : Within [] s (abortSeek k s) := .ite (post_within _ _ _ s) .refl

theorem tuneFor_within (k : Kind) (st : Station) (s : State) : Within [.zr, .rx, .slm, .af, .tw] s (tuneFor k st s) :=
  (((abandonAttempt_within s).trans (abortSeek_within k _)).trans (retune_within st _)).mono

theorem answerTune_within (body : Bytes) (s : State) : Answers [.zr, .rx, .slm, .af, .tw] s (answerTune body s) := by
  unfold answerTune
  repeat' split
  any_goals with_reducible exact .refuse
  exact .accept (tuneFor_within _ _ s)

theorem answerStep_within (body : Bytes) (s : State) : Answers [.zr, .rx, .slm, .af, .tw] s (answerStep body s) := by
  unfold answerStep
  split
  · exact .accept (tuneFor_within _ _ s)
  · exact .refuse

theorem seekMove_within (up : Bool) (s : State) : Within [.rx] s (seekMove up s) := modA_within _ s

theorem beginSeek_within (up : Bool) (s : State) : Within [.zr, .rx, .af, .tw] s (beginSeek up s) :=
  ((((changeReceiver_within _ _ s).trans (modRx_within _ _)).trans (afterClear_within _ _)).trans
    (seekMove_within up _)).mono

theorem answerSeek_within (body : Bytes) (s : State) : Answers [.zr, .rx, .slm, .af, .tw] s (answerSeek body s) := by
  unfold answerSeek
  repeat' split
  any_goals with_reducible exact .refuse
  exact .accept ((abandonAttempt_within s).trans (beginSeek_within _ _)).mono

theorem answerReception_within (body : Bytes) (s : State) : Answers [.rx] s (answerReception body s) := by
  unfold answerReception
  split
  · exact .accept (modRx_within _ s)
  · exact .refuse

theorem retuneSettled_within (q : Nat) (s : State) : Within [.rx, .cu, .slm, .af] s (retuneSettled q s) :=
  ((((lockA_within q s).trans (setLastTuned_within _)).trans (handOn_within .a q _)).trans (post_within _ _ _ _)).mono

theorem listenSettled_within (q : Nat) (s : State) : Within [.rx, .cu, .slm, .af] s (listenSettled q s) :=
  (modB_within _ s).trans (handOn_within .b q _)

theorem tuneSettles_within (x : Rx) (m : Measurement) (s : State) :
    Within [.rx, .cu, .slm, .af] s (tuneSettles x m s) := by
  refine .ite ?_ .refl
  cases x
  · exact .ite (retuneSettled_within _ s) .refl
  · exact listenSettled_within _ s

theorem measured_within (x : Rx) (m : Measurement) (s : State) : Within [.rx, .cu, .slm, .af] s (measured x m s) :=
  .ite ((modReceiver_within x _ s).trans (handOn_within x _ _)) .refl

theorem seekEnds_within (kind : ReportKind) (q : Nat) (s : State) :
    Within [.rx, .cu, .slm, .af] s (seekEnds kind q s) :=
  ((((lockA_within q s).trans (setLastTuned_within _)).trans (handOn_within .a q _)).trans (post_within _ _ _ _)).mono

theorem seekSteps_within (m : Measurement) (s : State) : Within [.rx, .cu, .slm, .af] s (seekSteps m s) := by
  unfold seekSteps
  split
  · exact .refl
  · exact .ite (.ite (seekEnds_within _ _ s) (.ite (seekEnds_within _ _ s) (seekMove_within _ s).mono)) .refl

theorem checkMeasured_within (q : Nat) (s : State) : Within [.zr, .rx, .slm, .af, .tw] s (checkMeasured q s) :=
  .ite (tryNext_within s) (modAf_within _ s).mono

theorem settlesB_within (m : Measurement) (s : State) : Within [.zr, .rx, .slm, .af, .tw] s (settlesB m s) :=
  .ite (.ite ((modB_within _ s).trans (sweepMeasured_within _ _)).mono
    (.ite ((modB_within _ s).trans (checkMeasured_within _ _)).mono .refl)) .refl

theorem trafficTimerEnds_within (x : Rx) (s : State) : Within [.zr, .rx, .slm, .tw] s (trafficTimerEnds x s) := by
  unfold trafficTimerEnds
  dsimp only
  refine .ite ?_ .refl
  cases x
  · exact (((changeReceiver_within _ _ s).trans (learnRecord_within _ _ _ _ _)).trans (watchFlags_within _ _ _ _)).mono
  · exact ((changeReceiver_within _ _ s).trans (learnRecord_within _ _ _ _ _)).mono

theorem answerStation_within (body : Bytes) (s : State) : Answers [] s (answerStation body s) := by
  unfold answerStation
  repeat' split
  any_goals with_reducible exact .refuse
  exact .accept .refl

theorem restartSweep_within (s : State) : Within [.rx, .slm] s (restartSweep s) :=
  .ite ((modSlm_within _ s).trans (visitPosition_within _)).mono (modSlm_within _ s).mono

theorem answerScanNow_within (s : State) : Answers [.rx, .slm] s (answerScanNow s) :=
  .ite .refuse (.accept (restartSweep_within s))

theorem applyAmScanning_within (was on : Bool) (s : State) : Within [.rx, .slm] s (applyAmScanning was on s) :=
  .ite (.ite ((completeSweep_within s).trans (visitPosition_within _)).mono (completeSweep_within s).mono) .refl

theorem applyScanning_within (was on : Bool) (s : State) : Within [.rx, .slm] s (applyScanning was on s) :=
  .ite (.ite (releaseB_within s) .refl) (.ite (requestScan_within s) .refl)

theorem applyScan_within (scanning am : Bool) (threshold : Nat) (s : State) :
    Within [.rx, .slm] s (applyScan scanning am threshold s) :=
  (((modSlm_within _ s).trans (applyAmScanning_within _ _ _)).trans (applyScanning_within _ _ _)).mono

theorem answerSetScan_within (body : Bytes) (s : State) : Answers [.rx, .slm] s (answerSetScan body s) := by
  unfold answerSetScan
  repeat' split
  any_goals with_reducible exact .refuse
  exact .accept (applyScan_within _ _ _ s)

theorem endFollowing_within (s : State) : Within [.zr, .rx, .slm, .af, .tw] s (endFollowing s) := by
  unfold endFollowing
  split
  · exact ((reverted_within _ s).trans (followIdle_within _)).mono
  · exact .ite (((releaseCheck_within s).trans (tuneBack_within _ _)).trans (followIdle_within _)).mono
      ((releaseCheck_within s).trans (followIdle_within _)).mono
  · exact (followIdle_within s).mono

theorem answerFollow_within (body : Bytes) (s : State) :
    Answers [.zr, .rx, .slm, .af, .tw] s (answerFollow body s) := by
  unfold answerFollow
  repeat' split
  any_goals with_reducible exact .refuse
  · exact .accept (modAf_within _ s).mono
  · exact .accept ((endFollowing_within s).trans (modAf_within _ _)).mono

theorem switchSettled_within (m : Measurement) (s : State) : Within [.rx, .cu, .slm, .af] s (switchSettled m s) :=
  ((((lockA_within _ s).trans (setLastTuned_within _)).trans (handOn_within .a _ _)).trans (switched_within _ _)).mono

theorem blindDecided_within (m : Measurement) (s : State) :
    Within [.zr, .rx, .cu, .slm, .af, .tw] s (blindDecided m s) :=
  .ite (tuneBack_within _ s).mono
    (((lockA_within _ s).trans (modAf_within _ _)).trans (handOn_within .a _ _)).mono

theorem returnSettled_within (m : Measurement) (s : State) :
    Within [.zr, .rx, .cu, .slm, .af, .tw] s (returnSettled m s) := by
  have returned := (lockA_within (quality s.rx.a.station.band m) s).trans
    (handOn_within .a (quality s.rx.a.station.band m) _)
  unfold returnSettled
  dsimp only
  exact .ite (returned.trans (tryNext_within _)).mono returned.mono

theorem watchOn_within (s : State) : Within [.zr, .tw] s (watchOn s) := by
  unfold watchOn
  dsimp only
  have begun : ∀ {c : Prop} [Decidable c], Within [.zr, .tw] s
      (if c then beginAnnouncement (s.modTw (fun w => { w with on := true, note := none }))
      else s.modTw (fun w => { w with on := true, note := none })) :=
    .ite ((modTw_within _ s).trans (beginAnnouncement_within _)).mono (modTw_within _ s).mono
  split
  · exact .ite (begun.trans (judgeCarrier_within _)).mono begun
  · exact begun

theorem answerTrafficWatch_within (body : Bytes) (s : State) : Answers [.zr, .tw] s (answerTrafficWatch body s) := by
  unfold answerTrafficWatch
  dsimp only
  split
  · split
    · exact .accept (.ite (.ite (modTw_within _ s).mono ((modTw_within _ s).trans (watchOn_within _)).mono)
        (((modTw_within _ s).trans (modTw_within _ _)).trans (endAnnouncement_within _ _)).mono)
    · exact .refuse
  · exact .refuse

theorem answerTrafficSkip_within (s : State) : Answers [.zr, .tw] s (answerTrafficSkip s) :=
  .accept (endAnnouncement_within _ s)

theorem codeHeldLong_within (s : State) : Within [.tw] s (codeHeldLong s) := by
  unfold codeHeldLong
  split
  · exact .refl
  · exact .ite ((modTw_within _ s).trans (judgeCarrier_within _)).mono (modTw_within _ s)

/-! ### Sounds -/

theorem answerPatternLoad_within (body : Bytes) (s : State) : Answers [.patterns] s (answerPatternLoad body s) := by
  unfold answerPatternLoad
  split
  · exact .ite (.accept (modPatterns_within _ s)) .refuse
  · exact .refuse

theorem answerPatternSegment_within (body : Bytes) (s : State) :
    Answers [.patterns] s (answerPatternSegment body s) := by
  unfold answerPatternSegment
  split
  · exact .refuse
  · split
    · exact .refuse
    · refine .of_state ?_
      dsimp only
      exact modPatterns_within _ s

theorem setPattern_within (p : PatternId) (t : Option Pattern) (s : State) : Within [.patterns] s (setPattern p t s) :=
  modPatterns_within _ s

theorem answerDefine_within (body : Bytes) (s : State) : Answers [.patterns] s (answerDefine body s) := by
  unfold answerDefine
  dsimp only
  repeat' split
  any_goals with_reducible exact .refuse
  · exact .accept (setPattern_within _ _ s)
  · exact Within.refl
  · exact Within.refl
  · exact .accept (setPattern_within _ _ s)

theorem answerChime_within (body : Bytes) (s : State) : Answers [.zr, .chimes] s (answerChime body s) := by
  unfold answerChime
  dsimp only
  repeat' split
  any_goals with_reducible exact .refuse
  · exact .accept (takeChime_within _ _ _ s)
  · exact .accept (takeChime_within _ _ _ s)

theorem answerCancel_within (body : Bytes) (s : State) : Answers [.zr, .chimes] s (answerCancel body s) := by
  unfold answerCancel
  repeat' split
  any_goals with_reducible exact .refuse
  · exact .accept .refl
  · exact .accept ((endEntry_within _ _ s).trans (voicesLook_within _)).mono

theorem voicePhaseEnds_within (v : VoiceId) (s : State) : Within [.zr, .chimes] s (voicePhaseEnds v s) := by
  unfold voicePhaseEnds
  split
  · exact .refl
  · exact phaseEnd_within v _ s

/-! ### The watchdog's expiry -/

theorem applyProfiles_within (s : State) : Within [.zr] s (applyProfiles s) :=
  .foldl (fun s _ => .ite (setQuiet_within _ _ s) .refl) Zone.all s

theorem removePrompts_within (s : State) : Within [.zr] s (removePrompts s) :=
  .foldl (fun s _ => removeEntry_within _ _ s) Cabin.all s

theorem enterFailsafe_within (s : State) : Within [.sc, .zr, .chimes] s (enterFailsafe s) :=
  (((((modSc_within _ s).trans (post_within _ _ _ _)).trans (removePrompts_within _)).trans
    (applyProfiles_within _)).trans (failsafeSounds_within _)).mono

end Sys2Proof.Machine
end

section
/-! SUPPORT. What a frame's arrival does to the Control Port, and the frame of every command: the blocks that it may touch
beside the Control Port, to which it posts reports and, where it is a request, gives its reply. -/

-- One declaration at a time: together they would start more threads than the check's memory limit has stacks for.
set_option Elab.async false

namespace Sys2Proof.Machine

/-! ### A good frame -/

theorem liftQuiet_within (s : State) : Within [.zr] s (liftQuiet s) := .foldl (fun s _ => setQuiet_within _ _ s) Zone.all s

theorem linkRestored_within (s : State) : Within [.sc, .zr] s (linkRestored s) :=
  .ite (((modSc_within _ s).trans (post_within _ _ _ _)).trans (liftQuiet_within _)) .refl

/-- The watchdog after a good frame: it stays STOPPED, or counts its interval afresh (R11). -/
def Watchdog.restarted (w : Watchdog) (ms : Nat) : Watchdog :=
  match w with
  | .stopped => .stopped
  | _ => .counting ms

theorem setWatchdog_self (s : State) : setWatchdog s.cp.watchdog s = s := rfl

theorem goodFrame_of_stopped {s : State} (h : s.cp.watchdog = .stopped) : goodFrame s = s := by
  simp [goodFrame, h]

theorem goodFrame_of_counting {s : State} {n : Nat} (h : s.cp.watchdog = .counting n) :
    goodFrame s = setWatchdog (.counting s.safety.config.watchdogMs) s := by
  simp [goodFrame, h]

theorem goodFrame_of_expired {s : State} (h : s.cp.watchdog = .expired) :
    goodFrame s = linkRestored (setWatchdog (.counting s.safety.config.watchdogMs) s) := by
  simp [goodFrame, h]

/-- A good frame restarts the watchdog, and where it had EXPIRED the link is restored (R11, R12). -/
theorem goodFrame_within (s : State) :
    Within [.sc, .zr] (setWatchdog (s.cp.watchdog.restarted s.safety.config.watchdogMs) s) (goodFrame s) := by
  cases h : s.cp.watchdog with
  | stopped =>
    rw [goodFrame_of_stopped h, show Watchdog.stopped.restarted _ = s.cp.watchdog from h.symm, setWatchdog_self]
    exact .refl
  | counting n => exact goodFrame_of_counting h ▸ .refl
  | expired => exact goodFrame_of_expired h ▸ linkRestored_within _

/-- A frame's arrival restarts the watchdog, restores the link and ends load mode, and touches nothing else. -/
theorem arrival_within (kind : Byte) (s : State) :
    Within [.sc, .zr, .patterns] (setWatchdog (s.cp.watchdog.restarted s.safety.config.watchdogMs) s)
      (arrival kind s) :=
  .ite (goodFrame_within s).mono ((goodFrame_within s).trans (endLoad_within _))

/-! ### Every command -/

theorem Within.settled {bs : List Block} {s t : State} (h : Within bs s t) : Within bs s (settle t) :=
  (h.trans (settle_within t)).mono (by simp)

/-- How a command was handled that touches the named blocks: as an event, or as a frame whose arrival preceded its answer
and its reply. -/
inductive Handled (bs : List Block) (s : State) : State → Prop where
  | event {t : State} (h : Within bs s t) : Handled bs s t
  | frame {u : State} (kind reply : Byte) (status : Status) (body : Bytes) (h : Within bs (arrival kind s) u) :
    Handled bs s (settle (setReply reply status body u))

theorem Handled.of_event {bs : List Block} {s t u : State} (h : t = u) (ht : Within bs s t) : Handled bs s u :=
  h ▸ .event ht

/-- A request whose own rule touches the named blocks is handled within them. -/
theorem Handled.of_request {bs : List Block} {k : Kind} {body : Bytes} {act : State → Answer} {s t : State}
    (h : request k body act s = t) (ha : ∀ u, Answers bs u (act u)) : Handled bs s t :=
  h ▸ .frame k.code k.code _ _ (Answers.ite .refuse (.ite .refuse (ha _)))

/-- Whether a command leaves of the Control Port its queue, its mask and its watchdog to posts and to the arrival of its
frame: all but a power-on reset, a damaged frame, FETCH_REPORTS, SET_REPORT_MASK, the watchdog's expiry, and the requests
that start, stop or reset the watchdog. -/
def Instr.portPlain : Instr → Bool
  | .powerOnReset | .frameError _ | .fetchReports _ | .setReportMask _ | .startAudio _ | .standby _ | .restart _
  | .watchdogExpiry => false
  | _ => true

/-- The blocks that a command may touch beside the Control Port, the arrival of its frame apart. -/
def Instr.touches : Instr → List Block
  | .poll _ | .getPartState _ | .getInstall _ | .getZone _ | .getStation _ | .unknownKind _ | .frameError _
  | .fetchReports _ | .setReportMask _ => []
  | .initialisationComplete => [.sc, .zr, .cu]
  | .setInstall _ => [.install, .os, .zr, .clp]
  | .openSafetyEdit _ | .setSafety _ => [.safety]
  | .lockSafety _ => [.safety, .patterns]
  | .wake _ => [.os, .clp, .sc]
  | .selectSource _ => [.zr, .rx, .slm]
  | .setVolume _ | .clockReturn => [.zr, .clp]
  | .setMute _ | .setBalanceFader _ | .setSourceTrim _ | .setClassDuck _ | .setSpeedLift _ | .setRearQuiet _
  | .promptStart _ | .promptEnd _ | .setRearCeiling _ | .clockLoss => [.zr]
  | .setVoicing _ | .voicingBlockBoundary => [.ge]
  | .vehicleState _ | .setCondition _ | .holdTimerRunout _ | .noiseEstimate _ _ => [.cu]
  | .patternLoad _ | .patternSegment _ | .definePattern _ => [.patterns]
  | .chimeRequest _ | .chimeCancel _ | .voicePhaseEnd _ => [.zr, .chimes]
  | .setReception _ => [.rx]
  | .scanNow _ | .setScan _ | .dwellEnd => [.rx, .slm]
  | .tune _ | .step _ | .seek _ | .setFollow _ | .rearTune _ | .rxBSettleEnd _ | .dataGroup _ _ _ | .lowTimerRunout
  | .checkTimeout => [.zr, .rx, .slm, .af, .tw]
  | .setTrafficWatch _ | .trafficSkip _ | .bridgeTimerRunout => [.zr, .tw]
  | .callState _ => [.zr, .tw, .clp, .cu]
  | .callRoute _ => [.zr, .tw, .clp]
  | .setUplinkMute _ | .setMicPolicy _ | .erleEstimate _ _ | .convergenceTimerRunout | .divergenceTimerRunout => [.clp]
  | .loadTest _ | .setMonitor _ | .retryChannel _ | .limitEngage _ | .limitRelease _ | .softStartEnd _
  | .tripTimerRunout _ | .retryTimerRunout _ | .loadTestCheckEnd _ => [.os, .clp]
  | .setProtection _ | .clearFault _ | .getFaults _ | .openTimerRunout _ => [.os]
  | .rampStep => [.ge, .os, .clp]
  | .tuneSettleEnd _ _ | .qualityMeasurement _ _ | .seekStepEnd _ | .switchSettleEnd _ => [.rx, .cu, .slm, .af]
  | .trafficTimerRunout _ => [.zr, .rx, .slm, .tw]
  | .blindCheckDecision _ | .afReturnSettleEnd _ => [.zr, .rx, .cu, .slm, .af, .tw]
  | .verifyTimeout => [.zr, .rx, .af, .tw]
  | .backoffRunout => [.af]
  | .carrierJudgement => [.tw]
  | .jackStateChange _ _ => [.pins, .zr, .tw, .clp]
  | .monitorSample _ => [.os, .clp, .cu]
  | .watchdogExpiry => [.sc, .zr, .chimes]
  | .powerOnReset | .startAudio _ | .standby _ | .restart _ =>
    [.sc, .install, .safety, .zr, .ge, .cu, .patterns, .chimes, .rx, .slm, .af, .tw, .clp, .os]

/-- Every command whose effect on the Control Port is plain is handled within the blocks that it touches. -/
theorem exec_handled (i : Instr) (s t : State) (h : exec i s = .next t) (hi : Instr.portPlain i = true) :
    Handled (Instr.touches i) s t := by
  have next {u : State} (hu : exec i s = .next u) : u = t := Host.Outcome.next.inj (hu.symm.trans h)
  cases i with
  | powerOnReset => simp [Instr.portPlain] at hi
  | frameError _ => simp [Instr.portPlain] at hi
  | fetchReports _ => simp [Instr.portPlain] at hi
  | setReportMask _ => simp [Instr.portPlain] at hi
  | startAudio _ => simp [Instr.portPlain] at hi
  | standby _ => simp [Instr.portPlain] at hi
  | restart _ => simp [Instr.portPlain] at hi
  | watchdogExpiry => simp [Instr.portPlain] at hi
  | initialisationComplete => exact .of_event (next rfl) (.ite (initialised_within s).settled .refl)
  | unknownKind kind => exact next rfl ▸ .frame kind kind .unknownKind [] .refl
  | poll body => exact .of_request (next rfl) (fun _ => .accept .refl)
  | getPartState body => exact .of_request (next rfl) (fun _ => .accept .refl)
  | setInstall body => exact .of_request (next rfl) (answerInstall_within body)
  | getInstall body => exact .of_request (next rfl) (fun _ => .accept .refl)
  | openSafetyEdit body => exact .of_request (next rfl) answerOpenEdit_within
  | setSafety body => exact .of_request (next rfl) (fun u => whileEditing_within u (answerSafety_within body u))
  | lockSafety body => exact .of_request (next rfl) (fun u => whileEditing_within u (answerLock_within u))
  | wake body => exact .of_request (next rfl) answerWake_within
  | selectSource body => exact .of_request (next rfl) (answerSelect_within body)
  | setVolume body => exact .of_request (next rfl) (answerVolume_within body)
  | setMute body => exact .of_request (next rfl) (answerMute_within body)
  | setBalanceFader body => exact .of_request (next rfl) (answerBalance_within body)
  | setSourceTrim body => exact .of_request (next rfl) (answerTrim_within body)
  | setClassDuck body => exact .of_request (next rfl) (answerDuck_within body)
  | setSpeedLift body => exact .of_request (next rfl) (answerSpeedLift_within body)
  | setRearQuiet body => exact .of_request (next rfl) (answerRearQuiet_within body)
  | getZone body => exact .of_request (next rfl) (answerGetZone_within body)
  | promptStart body => exact .of_request (next rfl) (answerPrompts_within startPrompts_within body)
  | promptEnd body => exact .of_request (next rfl) (answerPrompts_within endPrompts_within body)
  | setVoicing body => exact .of_request (next rfl) (answerVoicing_within body)
  | vehicleState body => exact .of_request (next rfl) (answerVehicle_within body)
  | setCondition body => exact .of_request (next rfl) (answerCondition_within body)
  | patternLoad body =>
    exact .of_request (next rfl) (fun u => whileEditing_within u (answerPatternLoad_within body u))
  | patternSegment body =>
    exact .of_request (next rfl) (fun u => whileEditing_within u (answerPatternSegment_within body u))
  | definePattern body => exact .of_request (next rfl) (fun u => whileEditing_within u (answerDefine_within body u))
  | chimeRequest body => exact .of_request (next rfl) (answerChime_within body)
  | chimeCancel body => exact .of_request (next rfl) (answerCancel_within body)
  | tune body => exact .of_request (next rfl) (answerTune_within body)
  | step body => exact .of_request (next rfl) (answerStep_within body)
  | seek body => exact .of_request (next rfl) (answerSeek_within body)
  | setReception body => exact .of_request (next rfl) (answerReception_within body)
  | getStation body => exact .of_request (next rfl) (answerStation_within body)
  | scanNow body => exact .of_request (next rfl) answerScanNow_within
  | setScan body => exact .of_request (next rfl) (answerSetScan_within body)
  | setFollow body => exact .of_request (next rfl) (answerFollow_within body)
  | setTrafficWatch body => exact .of_request (next rfl) (answerTrafficWatch_within body)
  | trafficSkip body => exact .of_request (next rfl) answerTrafficSkip_within
  | rearTune body => exact .of_request (next rfl) (answerRearTune_within body)
  | setRearCeiling body => exact .of_request (next rfl) (answerCeiling_within body)
  | callState body => exact .of_request (next rfl) (answerCallState_within body)
  | callRoute body => exact .of_request (next rfl) (answerCallRoute_within body)
  | setUplinkMute body => exact .of_request (next rfl) (answerUplinkMute_within body)
  | setMicPolicy body => exact .of_request (next rfl) (answerMicPolicy_within body)
  | loadTest body => exact .of_request (next rfl) (answerLoadTest_within body)
  | setProtection body => exact .of_request (next rfl) (answerProtection_within body)
  | setMonitor body => exact .of_request (next rfl) (answerMonitor_within body)
  | retryChannel body => exact .of_request (next rfl) (answerRetry_within body)
  | clearFault body => exact .of_request (next rfl) (answerClear_within body)
  | getFaults body => exact .of_request (next rfl) answerFaults_within
  | clockLoss => exact .of_event (next rfl) (.ite (loseClock_within s).settled .refl)
  | clockReturn => exact .of_event (next rfl) (.ite (restoreClock_within s).settled .refl)
  | rampStep => exact .of_event (next rfl) (ramped_within s).settled
  | voicingBlockBoundary => exact .of_event (next rfl) (modGe_within _ s).settled
  | holdTimerRunout i => exact .of_event (next rfl) (holdRunsOut_within i s).settled
  | voicePhaseEnd v => exact .of_event (next rfl) (voicePhaseEnds_within v s).settled
  | tuneSettleEnd x m => exact .of_event (next rfl) (tuneSettles_within x m s).settled
  | qualityMeasurement x m => exact .of_event (next rfl) (measured_within x m s).settled
  | seekStepEnd m => exact .of_event (next rfl) (seekSteps_within m s).settled
  | rxBSettleEnd m => exact .of_event (next rfl) (settlesB_within m s).settled
  | dwellEnd => exact .of_event (next rfl) (.ite (advanceSweep_within s).settled .refl)
  | dataGroup x code p => exact .of_event (next rfl) (takeGroup_within x code p s).settled
  | trafficTimerRunout x => exact .of_event (next rfl) (trafficTimerEnds_within x s).settled
  | lowTimerRunout => exact .of_event (next rfl) (.ite (beginAttempt_within s).settled .refl)
  | checkTimeout => exact .of_event (next rfl) (.ite (tryNext_within s).settled .refl)
  | switchSettleEnd m => exact .of_event (next rfl) (.ite (switchSettled_within m s).settled .refl)
  | blindCheckDecision m => exact .of_event (next rfl) (.ite (blindDecided_within m s).settled .refl)
  | afReturnSettleEnd m => exact .of_event (next rfl) (.ite (returnSettled_within m s).settled .refl)
  | verifyTimeout => exact .of_event (next rfl) (.ite (reverted_within _ s).settled .refl)
  | backoffRunout => exact .of_event (next rfl) (.ite (followIdle_within s).settled .refl)
  | carrierJudgement => exact .of_event (next rfl) (codeHeldLong_within s).settled
  | bridgeTimerRunout => exact .of_event (next rfl) (.ite (endAnnouncement_within _ s).settled .refl)
  | jackStateChange p inserted =>
    exact .of_event (next rfl)
      (.ite ((modPins_within _ s).trans (jackChanges_within p inserted _)).settled
        ((modPins_within _ s).mono (bs := [.pins, .zr, .tw, .clp])))
  | monitorSample x => exact .of_event (next rfl) (.ite (sampled_within x s).settled .refl)
  | erleEstimate erle downlink => exact .of_event (next rfl) (.ite (modClp_within _ s).settled .refl)
  | convergenceTimerRunout =>
    exact .of_event (next rfl) (.ite ((modClp_within _ s).trans (postAec_within _)).settled .refl)
  | divergenceTimerRunout =>
    exact .of_event (next rfl)
      (.ite (((modClp_within _ s).trans (postAec_within _)).trans (restartCanceller_within _)).mono.settled .refl)
  | noiseEstimate fl fr =>
    refine .of_event (next rfl) (.ite ?_ .refl)
    split
    · exact (receipt_within _ _ s).settled
    · exact .refl
  | limitEngage k =>
    refine .of_event (next rfl) ?_
    split
    · exact (changeAmp_within k _ s).settled
    · exact (changeAmp_within k _ s).settled
    · exact .refl
  | limitRelease k =>
    refine .of_event (next rfl) ?_
    split
    · exact (changeAmp_within k _ s).settled
    · exact (enterOn_within k s).settled
    · exact .refl
  | softStartEnd k =>
    exact .of_event (next rfl) (.ite (Within.ite (changeAmp_within k _ s) (enterOn_within k s)).settled .refl)
  | tripTimerRunout k => exact .of_event (next rfl) (.ite (tripped_within k s).settled .refl)
  | retryTimerRunout k => exact .of_event (next rfl) (.ite (startAmp_within k _ s).settled .refl)
  | loadTestCheckEnd registered =>
    refine .of_event (next rfl) ?_
    split
    · exact .refl
    · exact (checkEnds_within registered _ s).settled
  | openTimerRunout k => exact .of_event (next rfl) (.ite (openSuspected_within k s).settled .refl)

end Sys2Proof.Machine
end

section
/-! SUPPORT. The report queue in order (R7, R10): what a report that is taken, a fetch, a new mask and every command keep,
and O8. -/

-- One declaration at a time: together they would start more threads than the check's memory limit has stacks for.
set_option Elab.async false

namespace Sys2Proof.Machine

/-! ### A report that is taken -/

/-- A queue in order with ATTN at its level, of which `QueueOk` speaks. -/
def ControlPort.inOrder (c : ControlPort) : Prop :=
  c.reports.length ≤ 24 ∧ c.reports.Pairwise (fun r q => r.kind.isChange = true → r.sameKey q = false) ∧
  c.attnLow = c.reports.any (fun r => !c.masked.contains r.kind)

theorem queueOk_iff (s : State) : QueueOk s ↔ s.cp.inOrder := Iff.rfl

theorem Report.sameKey_comm (r q : Report) : r.sameKey q = q.sameKey r := by
  simp only [Report.sameKey, BEq.comm]

/-- New data leave a report's kind and subject, and so whether another report is of the same. -/
theorem Report.sameKey_withData (r q : Report) (d : Bytes) (c : Bool) :
    r.sameKey (if c then { q with data := d } else q) = r.sameKey q := by
  cases c <;> rfl

theorem ControlPort.enqueue_length_le {r : Report} {c : ControlPort} (h : c.reports.length ≤ 24) :
    (c.enqueue r).reports.length ≤ 24 := by
  unfold ControlPort.enqueue
  split
  · simpa using h
  · split
    · rename_i hroom
      have hlt : c.reports.length < 24 := hroom
      simp only [List.length_append, List.length_singleton]
      omega
    · exact h

/-- Taking a report keeps change reports of one kind and subject apart (R7). -/
theorem ControlPort.enqueue_pairwise {r : Report} {c : ControlPort}
    (h : c.reports.Pairwise (fun r q => r.kind.isChange = true → r.sameKey q = false)) :
    (c.enqueue r).reports.Pairwise (fun r q => r.kind.isChange = true → r.sameKey q = false) := by
  unfold ControlPort.enqueue
  split
  · refine List.pairwise_map.2 (h.imp fun {a b} hab hc => ?_)
    rw [Report.sameKey_withData, Report.sameKey_comm, Report.sameKey_withData, Report.sameKey_comm]
    refine hab ?_
    revert hc
    split <;> exact id
  · rename_i hnew
    split
    · refine List.pairwise_append.2 ⟨h, List.pairwise_singleton _ _, fun q hq x hx hc => ?_⟩
      obtain rfl := List.mem_singleton.1 hx
      by_contra hsame
      have hkey : x.sameKey q = true := by rw [Report.sameKey_comm]; simpa using hsame
      have hkind : x.kind = q.kind := by
        simp only [Report.sameKey, Bool.and_eq_true, beq_iff_eq] at hkey
        exact hkey.1
      exact hnew (by simpa [hkind, hc] using ⟨q, hq, hkey⟩)
    · exact h

/-- Posts keep the queue in order. -/
theorem Posted.inOrder {c d : ControlPort} (h : Posted c d) (hc : c.inOrder) : d.inOrder := by
  induction h with
  | refl => exact hc
  | report r _ ih =>
    obtain ⟨hlen, hpair, _⟩ := ih
    exact ⟨ControlPort.enqueue_length_le hlen, ControlPort.enqueue_pairwise hpair, rfl⟩

theorem Within.queueOk {bs : List Block} {s t : State} (h : Within bs s t) (hs : QueueOk s) : QueueOk t :=
  h.posted.inOrder hs

/-! ### Frames and requests -/

theorem arrival_queueOk {kind : Byte} {s : State} (h : QueueOk s) : QueueOk (arrival kind s) :=
  (arrival_within kind s).queueOk (s := setWatchdog _ s) h

/-- A request keeps what its frame's arrival, its own rule and the reply with the settling keep. Its own rule answers only in
a state that accepts the request (R16). -/
theorem request_keeps {P : State → Prop} {k : Kind} {body : Bytes} {act : State → Answer} {s : State}
    (hreply : ∀ r st b u, P u → P (settle (setReply r st b u))) (harr : P (arrival k.code s))
    (hact : ∀ u, accepted k u.sc.opState = true → P u → P (act u).state) : P (request k body act s) := by
  refine hreply _ _ _ _ ?_
  unfold answerTo
  split
  · exact harr
  · split
    · exact harr
    · rename_i hacc
      exact hact _ (by simpa using hacc) harr

theorem request_queueOk {k : Kind} {body : Bytes} {act : State → Answer} {s : State}
    (ha : ∀ u, QueueOk u → QueueOk (act u).state) (h : QueueOk s) : QueueOk (request k body act s) :=
  request_keeps (fun _ _ _ _ hu => hu) (arrival_queueOk h) (fun u _ => ha u)

theorem Handled.queueOk {bs : List Block} {s t : State} (h : Handled bs s t) (hs : QueueOk s) : QueueOk t := by
  cases h with
  | event h => exact h.queueOk hs
  | frame k r st b h => exact h.queueOk (arrival_queueOk hs)

/-! ### The commands that act on the Control Port itself -/

theorem answerFetch_queueOk (s : State) (h : QueueOk s) : QueueOk (answerFetch s).state := by
  obtain ⟨hlen, hpair, _⟩ := h
  refine ⟨?_, hpair.drop, rfl⟩
  simp only [answerFetch, accept, afterFetch, State.modCp_cp, ControlPort.reattn, List.length_drop]
  omega

theorem answerMask_queueOk (body : Bytes) (s : State) (h : QueueOk s) : QueueOk (answerMask body s).state := by
  unfold answerMask
  split
  · exact h
  · exact ⟨h.1, h.2.1, rfl⟩

/-- START_AUDIO, once it has set the state and the watchdog, posts reports and starts the outputs and the receivers. -/
theorem startAudio_within (s : State) :
    Within [.os, .clp, .zr, .rx, .af, .tw, .slm]
      (setWatchdog (.counting s.safety.config.watchdogMs) (s.modSc (fun c => { c with opState := .run })))
      (startAudio s) := by
  unfold startAudio
  exact ((((Within.foldl startOnResult_within Amp.all _).trans (startOthers_within _)).trans (retune_within _ _)).trans
    (startHolder_within _)).mono

theorem answerStartAudio_queueOk (s : State) (h : QueueOk s) : QueueOk (answerStartAudio s).state := by
  unfold answerStartAudio
  split
  · exact h
  · split
    · exact h
    · split
      · exact h
      · have hset : QueueOk (setWatchdog (.counting s.safety.config.watchdogMs)
            (s.modSc (fun c => { c with opState := .run }))) := h
        rw [accept_state]
        exact (startAudio_within s).queueOk hset

/-- STANDBY, once it has stopped the watchdog, shut the window and ended load mode, posts reports and silences every block
(R18). -/
theorem enterStandby_within (s : State) :
    Within [.os, .rx, .af, .slm, .tw, .chimes, .zr, .clp]
      (setWatchdog .stopped
        ((endLoad (s.modSc (fun c => { c with opState := .standby }))).modSafety (fun f => { f with windowOpen := false })))
      (enterStandby s) := by
  unfold enterStandby
  dsimp only
  exact (((((((((modOs_within _ _).trans (modRx_within _ _)).trans (followIdle_within _)).trans (standbyHolder_within _)).trans
    (modTw_within _ _)).trans (silenceChimes_within _)).trans (reduceLists_within _)).trans (settle_within _)).trans
      (standbyOff_within false _)).mono

theorem answerStandby_queueOk (s : State) (h : QueueOk s) : QueueOk (answerStandby s).state := by
  unfold answerStandby
  split
  · exact h
  · split
    · exact h
    · have hset : QueueOk (setWatchdog .stopped ((endLoad (s.modSc (fun c => { c with opState := .standby }))).modSafety
          (fun f => { f with windowOpen := false }))) := h
      rw [accept_state]
      exact (enterStandby_within s).queueOk hset

theorem reset_inOrder (r : Option Reply) : ({ ControlPort.reset with reply := r } : ControlPort).inOrder :=
  ⟨Nat.zero_le _, .nil, rfl⟩

theorem watchdogExpires_queueOk (s : State) (h : QueueOk s) : QueueOk (watchdogExpires s) := by
  unfold watchdogExpires
  split
  · dsimp only
    split
    · exact (enterFailsafe_within _).queueOk (s := setWatchdog .expired s) h
    · exact h
  · exact h

/-! ### Every step -/

theorem exec_queueOk (i : Instr) (s t : State) (hs : QueueOk s) (h : exec i s = .next t) : QueueOk t := by
  have next {u : State} (hu : exec i s = .next u) : u = t := Host.Outcome.next.inj (hu.symm.trans h)
  by_cases hi : Instr.portPlain i = true
  · exact (exec_handled i s t h hi).queueOk hs
  cases i with
  | powerOnReset => exact next rfl ▸ reset_inOrder none
  | frameError received => exact next rfl ▸ hs
  | fetchReports body => exact next rfl ▸ request_queueOk answerFetch_queueOk hs
  | setReportMask body => exact next rfl ▸ request_queueOk (answerMask_queueOk body) hs
  | startAudio body => exact next rfl ▸ request_queueOk answerStartAudio_queueOk hs
  | standby body => exact next rfl ▸ request_queueOk answerStandby_queueOk hs
  | restart body => exact next rfl ▸ request_queueOk (fun u _ => reset_inOrder u.cp.reply) hs
  | watchdogExpiry => exact next rfl ▸ (watchdogExpires_queueOk s hs)
  | _ => exact absurd rfl hi

/-- Settles O8: posts keep the queue in order (`Posted.inOrder`), and every command but the few that act on the Control
Port itself changes it by posts alone (`exec_handled`). -/
theorem reportQueueStaysInOrder : Obligations.ReportQueueStaysInOrder := by
  unfold Obligations.ReportQueueStaysInOrder
  intro s t hs h
  unfold Machine.step at h
  split at h
  · cases h
    exact hs
  · rename_i rest _
    exact exec_queueOk _ (s.setPending rest) t hs h

end Sys2Proof.Machine
end

section
/-! SUPPORT. The operating states (R11, R14, R15, R17): what every command keeps of `StatesOk`. -/

-- One declaration at a time: together they would start more threads than the check's memory limit has stacks for.
set_option Elab.async false

namespace Sys2Proof.Machine

/-! ### The arrival of a frame, block by block -/

theorem arrival_watchdog (kind : Byte) (s : State) :
    (arrival kind s).cp.watchdog = s.cp.watchdog.restarted s.safety.config.watchdogMs :=
  (arrival_within kind s).posted.watchdog_eq

theorem arrival_safety (kind : Byte) (s : State) : (arrival kind s).safety = s.safety := (arrival_within kind s).safety_eq

theorem arrival_install (kind : Byte) (s : State) : (arrival kind s).install = s.install :=
  (arrival_within kind s).install_eq

theorem arrival_os (kind : Byte) (s : State) : (arrival kind s).os = s.os := (arrival_within kind s).os_eq

/-- The link restored leads FAILSAFE back to RUN (R12, R20). -/
theorem linkRestored_sc (s : State) :
    (linkRestored s).sc = if s.sc.opState = .failsafe then { s.sc with opState := .run } else s.sc := by
  unfold linkRestored
  split
  · rw [(liftQuiet_within _).sc_eq]
    rfl
  · rfl

/-- A frame's arrival leads FAILSAFE back to RUN where the watchdog had EXPIRED, and changes the operating state in no other
case. -/
theorem arrival_sc (kind : Byte) (s : State) :
    (arrival kind s).sc =
      if s.cp.watchdog = .expired ∧ s.sc.opState = .failsafe then { s.sc with opState := .run } else s.sc := by
  rw [arrival_opState]
  cases h : s.cp.watchdog with
  | stopped => simp [goodFrame_of_stopped h]
  | counting n => simp [goodFrame_of_counting h, setWatchdog]
  | expired =>
    rw [goodFrame_of_expired h, linkRestored_sc]
    by_cases hf : s.sc.opState = .failsafe <;> simp [hf, setWatchdog]

/-! ### What the operating states rest on -/

/-- A state that shares the operating state, the installation and the watchdog with a legal one, and its lock, is legal. -/
theorem statesOk_of {s t : State} (hsc : t.sc.opState = s.sc.opState) (hlock : s.safety.locked = true → t.safety.locked = true)
    (hinstall : t.install = s.install) (hdog : t.cp.watchdog = s.cp.watchdog) (h : StatesOk s) : StatesOk t := by
  have hplay : isPlaying t = isPlaying s := by simp [isPlaying, hsc]
  obtain ⟨hrun, hwatch⟩ := h
  refine ⟨fun hp => ?_, ?_⟩
  · obtain ⟨hl, hr⟩ := hrun (hplay ▸ hp)
    exact ⟨hlock hl, hinstall ▸ hr⟩
  · rw [hdog, hplay, hsc]
    exact hwatch

theorem Within.statesOk {bs : List Block} {s t : State} (h : Within bs s t) (hs : StatesOk s)
    (hb : bs.any [Block.sc, .safety, .install].contains = false := by decide) : StatesOk t := by
  obtain ⟨hsc, hsafety, hinstall⟩ : .sc ∉ bs ∧ .safety ∉ bs ∧ .install ∉ bs := by
    simp only [List.any_eq_false] at hb
    exact ⟨fun h => hb _ h rfl, fun h => hb _ h rfl, fun h => hb _ h rfl⟩
  refine statesOk_of ?_ ?_ (h.install_eq hinstall) h.posted.watchdog_eq hs
  · rw [h.sc_eq hsc]
  · rw [h.safety_eq hsafety]
    exact id

/-- In BOOT, CONFIG and STANDBY, where nothing plays, the states are legal while the watchdog is STOPPED. -/
theorem statesOk_of_stopped {s : State} (hplay : isPlaying s = false) (hdog : s.cp.watchdog = .stopped) : StatesOk s := by
  refine ⟨fun hp => absurd hp (by simp [hplay]), ?_⟩
  rw [hdog]
  simp [hplay]

theorem watchdog_stopped_of {s : State} (h : StatesOk s) (hplay : isPlaying s = false) : s.cp.watchdog = .stopped := by
  obtain ⟨_, hwatch⟩ := h
  simp only [isPlaying, Bool.or_eq_false_iff] at hplay
  cases hw : s.cp.watchdog <;> simp_all

theorem settle_statesOk {s : State} (h : StatesOk s) : StatesOk (settle s) := h

theorem arrival_statesOk {kind : Byte} {s : State} (h : StatesOk s) : StatesOk (arrival kind s) := by
  obtain ⟨hrun, hwatch⟩ := h
  cases hw : s.cp.watchdog with
  | stopped =>
    refine statesOk_of ?_ ?_ (arrival_install kind s) ?_ ⟨hrun, hwatch⟩
    · rw [arrival_sc, if_neg (by simp [hw])]
    · rw [arrival_safety]; exact id
    · rw [arrival_watchdog, hw]; rfl
  | counting n =>
    have hop : s.sc.opState = .run := by simpa [hw] using hwatch
    refine ⟨fun _ => ?_, ?_⟩
    · rw [arrival_safety, arrival_install]
      exact hrun (by simp [isPlaying, hop])
    · simp [arrival_watchdog, arrival_sc, hw, hop, Watchdog.restarted]
  | expired =>
    have hop : s.sc.opState = .failsafe := by simpa [hw] using hwatch
    refine ⟨fun _ => ?_, ?_⟩
    · rw [arrival_safety, arrival_install]
      exact hrun (by simp [isPlaying, hop])
    · simp [arrival_watchdog, arrival_sc, hw, hop, Watchdog.restarted]

theorem Handled.statesOk {bs : List Block} {s t : State} (h : Handled bs s t) (hs : StatesOk s)
    (hb : bs.any [Block.sc, .safety, .install].contains = false) : StatesOk t := by
  cases h with
  | event h => exact h.statesOk hs hb
  | frame k r st b h => exact h.statesOk (arrival_statesOk hs) hb

theorem request_statesOk {k : Kind} {body : Bytes} {act : State → Answer} {s : State}
    (hact : ∀ u, accepted k u.sc.opState = true → StatesOk u → StatesOk (act u).state) (h : StatesOk s) :
    StatesOk (request k body act s) :=
  request_keeps (fun _ _ _ _ hu => hu) (arrival_statesOk h) hact

/-! ### The commands that change the operating state, the lock, the installation or the watchdog -/

theorem initialised_statesOk (s : State) (hboot : s.sc.opState = .boot) (h : StatesOk s) :
    StatesOk (initialised s) := by
  have hw := initialised_within s
  have hsc : (initialised s).sc = { s.sc with opState := .config } := by
    unfold initialised
    rw [(postPartReady_within _).sc_eq, (receipt_within _ _ _).sc_eq, (senseJacks_within _).sc_eq]
    rfl
  refine statesOk_of_stopped (by simp [isPlaying, hsc]) ?_
  rw [hw.posted.watchdog_eq]
  exact watchdog_stopped_of h (by simp [isPlaying, hboot])

/-- A request that CONFIG alone accepts may write the installation: nothing plays there. -/
theorem answerInstall_statesOk (body : Bytes) (s : State) (hacc : accepted .setInstall s.sc.opState = true)
    (h : StatesOk s) : StatesOk (answerInstall body s).state := by
  have hw := answerInstall_within body s
  have hplay : isPlaying s = false := by
    revert hacc
    unfold isPlaying
    cases s.sc.opState <;> decide
  refine statesOk_of_stopped ?_ ?_
  · simpa [isPlaying, hw.sc_eq] using hplay
  · rw [hw.posted.watchdog_eq]
    exact watchdog_stopped_of h hplay

theorem whileEditing_keeps {P : State → Prop} {act : State → Answer} {s : State} (h : P s) (ha : P (act s).state) :
    P (whileEditing act s).state := by
  unfold whileEditing
  split
  · exact h
  · split
    · exact h
    · exact ha

theorem answerOpenEdit_statesOk (s : State) (h : StatesOk s) : StatesOk (answerOpenEdit s).state := by
  unfold answerOpenEdit
  split <;> exact h

theorem answerSafety_statesOk (body : Bytes) (s : State) (h : StatesOk s) : StatesOk (answerSafety body s).state := by
  unfold answerSafety
  split <;> exact h

theorem answerLock_statesOk (s : State) (h : StatesOk s) : StatesOk (answerLock s).state := by
  unfold answerLock
  split
  · exact statesOk_of (s := s) rfl (fun _ => rfl) rfl rfl h
  · exact h

theorem answerWake_statesOk (s : State) (hacc : accepted .wake s.sc.opState = true) (h : StatesOk s) :
    StatesOk (answerWake s).state := by
  have hplay : isPlaying s = false := by
    revert hacc
    unfold isPlaying
    cases s.sc.opState <;> decide
  refine statesOk_of_stopped rfl ?_
  rw [(answerWake_within s).posted.watchdog_eq]
  exact watchdog_stopped_of h hplay

theorem answerFetch_statesOk (s : State) (h : StatesOk s) : StatesOk (answerFetch s).state := h

theorem answerMask_statesOk (body : Bytes) (s : State) (h : StatesOk s) : StatesOk (answerMask body s).state := by
  unfold answerMask
  split <;> exact h

/-- START_AUDIO enters RUN only with a role written on a LOCKED part, and starts the watchdog (R11, R17). -/
theorem answerStartAudio_statesOk (s : State) (h : StatesOk s) : StatesOk (answerStartAudio s).state := by
  unfold answerStartAudio
  split
  · exact h
  · split
    · exact h
    · split
      · exact h
      · rename_i hroles hlock _
        have hlocked : s.safety.locked = true := by simpa using hlock
        have hset : StatesOk (setWatchdog (.counting s.safety.config.watchdogMs)
            (s.modSc (fun c => { c with opState := .run }))) :=
          ⟨fun _ => ⟨hlocked, hroles⟩, rfl⟩
        rw [accept_state]
        exact (startAudio_within s).statesOk hset

theorem answerStandby_statesOk (s : State) (h : StatesOk s) : StatesOk (answerStandby s).state := by
  unfold answerStandby
  split
  · exact h
  · split
    · exact h
    · rw [accept_state]
      exact (enterStandby_within s).statesOk (statesOk_of_stopped rfl rfl)

/-- Entry to FAILSAFE, by the operating state that its reports and its sounds leave. -/
theorem enterFailsafe_sc (s : State) :
    (enterFailsafe s).sc = { s.sc with opState := .failsafe, failsafeMs := 0 } := by
  unfold enterFailsafe
  rw [(failsafeSounds_within _).sc_eq, (applyProfiles_within _).sc_eq, (removePrompts_within _).sc_eq]
  rfl

theorem watchdogExpires_statesOk (s : State) (h : StatesOk s) : StatesOk (watchdogExpires s) := by
  obtain ⟨hrun, hwatch⟩ := h
  unfold watchdogExpires
  split
  · rename_i n hw
    have hop : s.sc.opState = .run := by simpa [hw] using hwatch
    have hent := enterFailsafe_within (setWatchdog .expired s)
    rw [if_pos hop]
    refine ⟨fun _ => ?_, ?_⟩
    · rw [hent.safety_eq, hent.install_eq]
      exact hrun (by simp [isPlaying, hop])
    · rw [hent.posted.watchdog_eq, enterFailsafe_sc]
      rfl
  · exact ⟨hrun, hwatch⟩

theorem elapse_statesOk (s : State) (h : StatesOk s) : StatesOk (elapse s) := by
  obtain ⟨hrun, hwatch⟩ := h
  refine ⟨hrun, ?_⟩
  simp only [elapse, isPlaying] at hwatch ⊢
  cases hw : s.cp.watchdog <;> simpa [hw, Watchdog.tick] using hwatch

/-! ### Every command -/

theorem exec_statesOk (i : Instr) (s t : State) (hs : StatesOk s) (h : exec i s = .next t) : StatesOk t := by
  have next {u : State} (hu : exec i s = .next u) : u = t := Host.Outcome.next.inj (hu.symm.trans h)
  by_cases hb : Instr.portPlain i = true ∧ (Instr.touches i).any [Block.sc, .safety, .install].contains = false
  · exact (exec_handled i s t h hb.1).statesOk hs hb.2
  cases i with
  | powerOnReset => exact next rfl ▸ statesOk_of_stopped rfl rfl
  | initialisationComplete =>
    refine next rfl ▸ ?_
    split
    · exact settle_statesOk (initialised_statesOk s (by assumption) hs)
    · exact hs
  | frameError received => exact next rfl ▸ hs
  | fetchReports body => exact next rfl ▸ request_statesOk (fun u _ => answerFetch_statesOk u) hs
  | setReportMask body => exact next rfl ▸ request_statesOk (fun u _ => answerMask_statesOk body u) hs
  | setInstall body => exact next rfl ▸ request_statesOk (answerInstall_statesOk body) hs
  | openSafetyEdit body => exact next rfl ▸ request_statesOk (fun u _ => answerOpenEdit_statesOk u) hs
  | setSafety body =>
    exact next rfl ▸ request_statesOk (fun u _ hu => whileEditing_keeps hu (answerSafety_statesOk body u hu)) hs
  | lockSafety body =>
    exact next rfl ▸ request_statesOk (fun u _ hu => whileEditing_keeps hu (answerLock_statesOk u hu)) hs
  | startAudio body => exact next rfl ▸ request_statesOk (fun u _ => answerStartAudio_statesOk u) hs
  | standby body => exact next rfl ▸ request_statesOk (fun u _ => answerStandby_statesOk u) hs
  | wake body => exact next rfl ▸ request_statesOk answerWake_statesOk hs
  | restart body => exact next rfl ▸ request_statesOk (fun u _ _ => statesOk_of_stopped rfl rfl) hs
  | watchdogExpiry => exact next rfl ▸ settle_statesOk (watchdogExpires_statesOk s hs)
  | _ => exact absurd ⟨rfl, rfl⟩ hb

end Sys2Proof.Machine
end

section
/-! SUPPORT. The output channels (R153, R154, R155, R159, R160, R163): what one amplifier's record has to meet in each
operating state, which changes of a record keep it, and what every command keeps of `ChannelsOk`. -/

-- One declaration at a time: together they would start more threads than the check's memory limit has stacks for.
set_option Elab.async false

namespace Sys2Proof.Machine

/-! ### One amplifier's record -/

/-- Whether an amplifier's record is one that `ChannelsOk` allows in an operating state. -/
structure AmpFits (o : OpState) (a : AmpChannel) : Prop where
  early : o = .boot ∨ o = .config → a.state ∈ [AmpState.unused, .bridged, .off, .diag] ∧ a.startPending = false
  standby : o = .standby → a.state ∉ [AmpState.faultWait, .faultLatched] ∧ a.startPending = false
  pending : a.startPending = true → a.state = .off ∨ a.state = .faultWait
  openTimer : a.openTimer.isSome = true → a.state = .on
  trip : a.trip.isSome = true → a.state = .starting ∨ a.state = .limiting
  soft : a.soft.isSome = true → a.state = .starting
  retry : a.retry.isSome = true → a.state = .faultWait

/-- What `ChannelsOk` asks beside the amplifiers: no digital output or driver plays in BOOT or CONFIG, and a load test runs
in CONFIG alone. -/
structure OthersFit (o : OpState) (x : OutputStage) : Prop where
  early : o = .boot ∨ o = .config → (∀ d ∈ x.douts.toList, d ≠ .on) ∧ ∀ h ∈ Hp.all, x.hps.get h ≠ .on
  loadTest : x.loadTest.isSome = true → o = .config

theorem forall_mem_toList_iff {α : Type} {n : Nat} (v : Vector α n) (p : α → Prop) :
    (∀ a ∈ v.toList, p a) ↔ ∀ k : Fin n, p v[k] := by
  simp only [Vector.mem_toList_iff, Vector.mem_iff_getElem]
  exact ⟨fun h k => h _ ⟨k, k.isLt, rfl⟩, fun h a ⟨i, hi, ha⟩ => ha ▸ h ⟨i, hi⟩⟩

theorem channelsOk_iff (s : State) :
    ChannelsOk s ↔ (∀ k : Amp, AmpFits s.sc.opState s.os.amps[k]) ∧ OthersFit s.sc.opState s.os := by
  rw [← forall_mem_toList_iff]
  constructor
  · rintro ⟨hearly, hstandby, htest, hamps⟩
    refine ⟨fun a ha => ?_, ⟨fun ho => (hearly ho).2, htest⟩⟩
    obtain ⟨hp, hopen, htrip, hsoft, hretry⟩ := hamps a ha
    exact ⟨fun ho => (hearly ho).1 a ha, fun ho => hstandby ho a ha, hp, hopen, htrip, hsoft, hretry⟩
  · rintro ⟨hamps, hothers⟩
    exact ⟨fun ho => ⟨fun a ha => (hamps a ha).early ho, hothers.early ho⟩, fun ho a ha => (hamps a ha).standby ho,
      hothers.loadTest,
      fun a ha => ⟨(hamps a ha).pending, (hamps a ha).openTimer, (hamps a ha).trip, (hamps a ha).soft, (hamps a ha).retry⟩⟩

/-- A record at rest: in a state in which no signal and no fault stands, with nothing waiting and no timer running. -/
structure AmpChannel.AtRest (a : AmpChannel) : Prop where
  state : a.state ∈ [AmpState.unused, .bridged, .off, .diag]
  pending : a.startPending = false
  trip : a.trip = none
  soft : a.soft = none
  retry : a.retry = none
  openTimer : a.openTimer = none

/-- A record at rest fits every operating state. -/
theorem AmpChannel.AtRest.fits {a : AmpChannel} (h : a.AtRest) (o : OpState) : AmpFits o a where
  early _ := ⟨h.state, h.pending⟩
  standby _ := ⟨by have := h.state; revert this; cases a.state <;> decide, h.pending⟩
  pending hp := by simp [h.pending] at hp
  openTimer ht := by simp [h.openTimer] at ht
  trip ht := by simp [h.trip] at ht
  soft ht := by simp [h.soft] at ht
  retry ht := by simp [h.retry] at ht

theorem AmpChannel.AtRest.withState {a : AmpChannel} (h : a.AtRest) {st : AmpState}
    (hst : st ∈ [AmpState.unused, .bridged, .off, .diag]) : ({ a with state := st } : AmpChannel).AtRest :=
  { h with state := hst }

theorem AmpChannel.AtRest.withoutOpenTimer {a : AmpChannel} (h : a.AtRest) :
    ({ a with openTimer := none } : AmpChannel).AtRest :=
  { h with openTimer := rfl }

/-- In BOOT and CONFIG every record is at rest. -/
theorem AmpFits.atRest {o : OpState} {a : AmpChannel} (h : AmpFits o a) (ho : o = .boot ∨ o = .config) : a.AtRest := by
  obtain ⟨hstate, hpending⟩ := h.early ho
  refine ⟨hstate, hpending, ?_, ?_, ?_, ?_⟩
  · refine Option.not_isSome_iff_eq_none.1 fun ht => ?_
    rcases h.trip ht with hs | hs <;> simp [hs] at hstate
  · refine Option.not_isSome_iff_eq_none.1 fun ht => ?_
    simp [h.soft ht] at hstate
  · refine Option.not_isSome_iff_eq_none.1 fun ht => ?_
    simp [h.retry ht] at hstate
  · refine Option.not_isSome_iff_eq_none.1 fun ht => ?_
    simp [h.openTimer ht] at hstate

/-- A record fits the same where its state and its timers are those of one that fits. -/
theorem AmpFits.congr {o : OpState} {a b : AmpChannel} (h : AmpFits o a) (hstate : b.state = a.state)
    (hpending : b.startPending = a.startPending) (hopen : b.openTimer = a.openTimer ∨ b.openTimer = none)
    (htrip : b.trip = a.trip) (hsoft : b.soft = a.soft) (hretry : b.retry = a.retry) : AmpFits o b where
  early ho := by rw [hstate, hpending]; exact h.early ho
  standby ho := by rw [hstate, hpending]; exact h.standby ho
  pending hp := by rw [hstate]; exact h.pending (hpending ▸ hp)
  openTimer ht := by
    rw [hstate]
    rcases hopen with hopen | hopen
    · exact h.openTimer (hopen ▸ ht)
    · simp [hopen] at ht
  trip ht := by rw [hstate]; exact h.trip (htrip ▸ ht)
  soft ht := by rw [hstate]; exact h.soft (hsoft ▸ ht)
  retry ht := by rw [hstate]; exact h.retry (hretry ▸ ht)

/-- The record that stands after a change fits where it fits without its open timer, which lasts in ON alone (R160). -/
theorem AmpFits.kept {o : OpState} {old new : AmpChannel} (h : AmpFits o { new with openTimer := none }) :
    AmpFits o (old.kept new) where
  early := h.early
  standby := h.standby
  pending := h.pending
  openTimer ht := by
    by_contra hne
    simp [AmpChannel.kept] at ht hne
    simp [hne] at ht
  trip := h.trip
  soft := h.soft
  retry := h.retry

theorem AmpFits.of_kept_same {o : OpState} {old new : AmpChannel} (h : AmpFits o new) : AmpFits o (old.kept new) :=
  (h.congr (b := { new with openTimer := none }) rfl rfl (.inr rfl) rfl rfl rfl).kept

/-- A running channel waits for no start and no retry, and the part is neither in BOOT nor in CONFIG. -/
theorem AmpFits.of_running {o : OpState} {a : AmpChannel} (h : AmpFits o a) (hr : a.state.running = true) :
    a.startPending = false ∧ a.retry = none ∧ o ≠ .boot ∧ o ≠ .config := by
  have hearly : ¬(o = .boot ∨ o = .config) := fun ho => by
    have hs := (h.early ho).1
    revert hs hr
    cases a.state <;> decide
  refine ⟨?_, ?_, fun ho => hearly (.inl ho), fun ho => hearly (.inr ho)⟩
  · refine Bool.eq_false_iff.2 fun hp => ?_
    rcases h.pending hp with hs | hs <;> simp [hs, AmpState.running] at hr
  · refine Option.not_isSome_iff_eq_none.1 fun ht => ?_
    simp [h.retry ht, AmpState.running] at hr

/-- A channel fits that stands in a running state, waits for nothing, and of whose timers only those run that the state
has. -/
theorem ampFits_of_running {o : OpState} {a : AmpChannel} (hr : a.state.running = true) (hb : o ≠ .boot) (hc : o ≠ .config)
    (hpending : a.startPending = false) (hretry : a.retry = none) (hopen : a.openTimer = none)
    (htrip : a.trip.isSome = true → a.state = .starting ∨ a.state = .limiting)
    (hsoft : a.soft.isSome = true → a.state = .starting) : AmpFits o a where
  early ho := by simp_all
  standby _ := ⟨by revert hr; cases a.state <;> decide, hpending⟩
  pending hp := by simp [hpending] at hp
  openTimer ht := by simp [hopen] at ht
  trip := htrip
  soft := hsoft
  retry ht := by simp [hretry] at ht

/-! ### One channel of the state -/

/-- A change of one amplifier's record keeps the channels as they should be where the new record fits. -/
theorem channelsOk_set {s t : State} {k : Amp} {a : AmpChannel} (h : ChannelsOk s) (hsc : t.sc = s.sc)
    (hos : t.os = { s.os with amps := s.os.amps.set k a }) (ha : AmpFits s.sc.opState a) : ChannelsOk t := by
  obtain ⟨hamps, hothers⟩ := (channelsOk_iff s).1 h
  refine (channelsOk_iff t).2 ⟨fun j => ?_, ?_⟩
  · rw [hsc, hos]
    simp only [Fin.getElem_fin, Vector.getElem_set]
    split
    · exact ha
    · exact hamps j
  · rw [hsc, hos]
    exact ⟨hothers.early, hothers.loadTest⟩

theorem channelsOk_amp {s : State} (h : ChannelsOk s) (k : Amp) : AmpFits s.sc.opState s.os.amps[k] :=
  ((channelsOk_iff s).1 h).1 k

theorem changeAmp_channelsOk {s : State} {k : Amp} {f : AmpChannel → AmpChannel} (h : ChannelsOk s)
    (ha : AmpFits s.sc.opState { f s.os.amps[k] with openTimer := none }) : ChannelsOk (changeAmp k f s) := by
  refine channelsOk_set h (changeAmp_within k f s).sc_eq ?_ (ha.kept (old := s.os.amps[k])) (k := k)
  rw [changeAmp_eq]

theorem modAmp_channelsOk {s : State} {k : Amp} {f : AmpChannel → AmpChannel} (h : ChannelsOk s)
    (ha : AmpFits s.sc.opState (f s.os.amps[k])) : ChannelsOk (modAmp k f s) :=
  channelsOk_set (k := k) h rfl rfl ha

theorem Within.channelsOk {bs : List Block} {s t : State} (h : Within bs s t) (hs : ChannelsOk s)
    (hb : bs.any [Block.sc, .os].contains = false := by decide) : ChannelsOk t := by
  obtain ⟨hsc, hos⟩ : .sc ∉ bs ∧ .os ∉ bs := by
    simp only [List.any_eq_false] at hb
    exact ⟨fun h => hb _ h rfl, fun h => hb _ h rfl⟩
  rw [channelsOk_iff] at hs ⊢
  rw [h.sc_eq hsc, h.os_eq hos]
  exact hs

theorem endCause_channelsOk {s : State} (kind : FaultKind) (k : Amp) (h : ChannelsOk s) :
    ChannelsOk (endCause kind k s) :=
  channelsOk_set (k := k) h rfl rfl ((channelsOk_amp h k).congr rfl rfl (.inl rfl) rfl rfl rfl)

/-- Folding a command over channels keeps what each of its steps keeps. -/
theorem foldl_keeps {α : Type} {P : State → Prop} {f : State → α → State} (h : ∀ s a, P s → P (f s a)) (l : List α)
    {s : State} (hs : P s) : P (l.foldl f s) := by
  induction l generalizing s with
  | nil => exact hs
  | cons a l ih => exact ih (h s a hs)

/-! ### Starts and shutdowns -/

/-- A start is one of a channel whose gate is open, or of one that may wait (R154). -/
theorem startAmp_channelsOk {s : State} {k : Amp} (mark : Bool) (h : ChannelsOk s)
    (hplay : s.sc.opState ≠ .boot ∧ s.sc.opState ≠ .config)
    (hwait : gateOpen s k = true ∨ s.os.amps[k].state = .off ∨ s.os.amps[k].state = .faultWait) :
    ChannelsOk (startAmp k mark s) := by
  obtain ⟨hb, hc⟩ := hplay
  unfold startAmp
  split
  · exact h
  · rename_i hs
    split
    · exact changeAmp_channelsOk h
        (ampFits_of_running rfl hb hc rfl rfl rfl (fun ht => absurd ht (by simp)) (fun _ => rfl))
    · rename_i hgate
      have hst := hwait.resolve_left hgate
      have hfit := channelsOk_amp h k
      refine changeAmp_channelsOk h
        { early := fun ho => ?_, standby := fun ho => absurd ho hs, pending := fun _ => hst
          openTimer := fun ht => absurd ht (by simp), trip := hfit.trip, soft := hfit.soft
          retry := fun ht => absurd ht (by simp) }
      rcases ho with ho | ho <;> contradiction

/-- The starts that wait proceed: none waits in BOOT or CONFIG. -/
theorem proceedStarts_channelsOk {s : State} (h : ChannelsOk s) : ChannelsOk (proceedStarts s) := by
  unfold proceedStarts
  refine foldl_keeps (P := ChannelsOk) (fun t k ht => ?_) Amp.all h
  split
  · rename_i hgo
    obtain ⟨hpending, hgate⟩ : t.os.amps[k].startPending = true ∧ gateOpen t k = true := by simpa using hgo
    have hearly := (channelsOk_amp ht k).early
    refine startAmp_channelsOk _ ht ⟨fun ho => ?_, fun ho => ?_⟩ (.inl hgate)
    · exact Bool.false_ne_true ((hearly (.inl ho)).2.symm.trans hpending)
    · exact Bool.false_ne_true ((hearly (.inr ho)).2.symm.trans hpending)
  · exact ht

/-- A running channel enters ON. -/
theorem enterOn_channelsOk {s : State} {k : Amp} (h : ChannelsOk s) (hr : s.os.amps[k].state.running = true) :
    ChannelsOk (enterOn k s) := by
  obtain ⟨hpending, hretry, hb, hc⟩ := (channelsOk_amp h k).of_running hr
  have hon : ChannelsOk (endCause .overcurrentTrip k
      (changeAmp k (fun a => { a with state := .on, soft := none, trip := none, restartMark := false }) s)) :=
    endCause_channelsOk _ k (changeAmp_channelsOk h
      (ampFits_of_running rfl hb hc hpending hretry rfl (fun ht => absurd ht (by simp)) (fun ht => absurd ht (by simp))))
  unfold enterOn
  dsimp only
  split
  · exact (post_within _ _ _ _).channelsOk hon
  · exact hon

/-- A shutdown by a protection leaves a record that fits where, outside STANDBY, the state that its rule gives does. -/
theorem shutDown_channelsOk {s : State} {k : Amp} (kind : FaultKind) {f : AmpChannel → AmpChannel} (h : ChannelsOk s)
    (hf : s.sc.opState ≠ .standby →
      AmpFits s.sc.opState { f s.os.amps[k] with soft := none, trip := none, openTimer := none }) :
    ChannelsOk (shutDown kind f k s) := by
  unfold shutDown
  dsimp only
  refine (postChannelFault_within kind k _).channelsOk (changeAmp_channelsOk h ?_)
  by_cases hs : s.sc.opState = .standby
  · simp only [hs, if_true]
    refine AmpChannel.AtRest.fits ?_ _
    exact ⟨by simp [AmpChannel.addFault], rfl, rfl, rfl, rfl, rfl⟩
  · simp only [hs, if_false]
    exact (hf hs).congr rfl rfl (.inl rfl) rfl rfl rfl

/-- A record fits that a protection leaves in FAULT_WAIT or FAULT_LATCHED, or in OFF to start again. -/
theorem ampFits_of_shut {o : OpState} {a : AmpChannel} (hb : o ≠ .boot) (hc : o ≠ .config) (hs : o ≠ .standby)
    (hpending : a.startPending = true → a.state = .off ∨ a.state = .faultWait)
    (hretry : a.retry.isSome = true → a.state = .faultWait) :
    AmpFits o { a with soft := none, trip := none, openTimer := none } where
  early ho := by simp_all
  standby ho := absurd ho hs
  pending := hpending
  openTimer ht := absurd ht (by simp)
  trip ht := absurd ht (by simp)
  soft ht := absurd ht (by simp)
  retry := hretry

/-- A record fits that a protection leaves waiting for nothing. -/
theorem ampFits_of_latched {o : OpState} {a : AmpChannel} (hb : o ≠ .boot) (hc : o ≠ .config) (hs : o ≠ .standby)
    (hpending : a.startPending = false) (hretry : a.retry = none) :
    AmpFits o { a with soft := none, trip := none, openTimer := none } :=
  ampFits_of_shut hb hc hs (fun hp => by simp [hpending] at hp) (fun ht => by simp [hretry] at ht)

/-! ### Installation, load tests and settings -/

/-- A change of the Output Stage that gives each amplifier a record that fits, and leaves the rest fitting. -/
theorem channelsOk_map {s t : State} {f : AmpChannel → AmpChannel} (h : ChannelsOk s) (hsc : t.sc = s.sc)
    (hos : t.os.amps = s.os.amps.map f) (hothers : OthersFit s.sc.opState t.os)
    (hf : ∀ a, AmpFits s.sc.opState a → AmpFits s.sc.opState (f a)) : ChannelsOk t := by
  refine (channelsOk_iff t).2 ⟨fun k => ?_, hsc ▸ hothers⟩
  rw [hsc, hos]
  simpa using hf _ (channelsOk_amp h k)

theorem channelsOk_others {s : State} (h : ChannelsOk s) : OthersFit s.sc.opState s.os := ((channelsOk_iff s).1 h).2

/-- A change of the Output Stage that leaves the amplifiers and keeps the rest fitting. -/
theorem modOs_channelsOk {s : State} {g : OutputStage → OutputStage} (h : ChannelsOk s)
    (hamps : (g s.os).amps = s.os.amps) (hothers : OthersFit s.sc.opState (g s.os)) : ChannelsOk (s.modOs g) :=
  (channelsOk_iff _).2 ⟨fun k => by
    simp only [State.modOs_os, State.modOs_sc, hamps]
    exact channelsOk_amp h k, hothers⟩

/-- An installation field is written in CONFIG, where every channel is at rest. -/
theorem installEffect_channelsOk (f : InstallField) (v : InstallValue) {s : State} (hconfig : s.sc.opState = .config)
    (h : ChannelsOk s) : ChannelsOk (installEffect f v s) := by
  have hrest (k : Amp) := (channelsOk_amp h k).atRest (.inr hconfig)
  have hothers := channelsOk_others h
  unfold installEffect
  split
  · rename_i k _ _
    refine modAmp_channelsOk h ?_
    split
    · exact ((hrest k).withState (by simp)).fits _
    · exact channelsOk_amp h k
  · rename_i k _ _
    refine modOs_channelsOk h rfl ⟨fun ho => ⟨fun d hd => ?_, (hothers.early ho).2⟩, hothers.loadTest⟩
    have hset : d ∈ s.os.douts.set k .off := Vector.mem_toList_iff.1 hd
    rcases Vector.mem_or_eq_of_mem_set hset with hold | rfl
    · exact (hothers.early ho).1 d (Vector.mem_toList_iff.2 hold)
    · simp
  · rename_i p
    unfold bridgeEven
    refine modOs_channelsOk (modAmp_channelsOk h ?_) rfl ?_
    · split
      · exact channelsOk_amp h _
      · exact ((hrest (evenOf p)).withState (by simp)).fits _
    · exact ⟨hothers.early, fun ht => hothers.loadTest (by simpa [modAmp] using ht)⟩
  · exact (modHp_within _ _ s).channelsOk h
  · exact (remakeSelection_within _ s).channelsOk h
  · split
    · exact (restoreClock_within s).channelsOk h
    · exact h
  · exact h

theorem answerInstall_channelsOk (body : Bytes) (s : State) (hacc : accepted .setInstall s.sc.opState = true)
    (h : ChannelsOk s) : ChannelsOk (answerInstall body s).state := by
  have hconfig : s.sc.opState = .config := by
    revert hacc
    cases s.sc.opState <;> decide
  unfold answerInstall
  repeat' split
  any_goals exact h
  exact installEffect_channelsOk _ _ (s := s.modInstall _) hconfig h

/-- A channel begins its load test in CONFIG. -/
theorem beginDiag_channelsOk (k : Amp) (set waiting done : List Amp) {s : State} (hconfig : s.sc.opState = .config)
    (h : ChannelsOk s) : ChannelsOk (beginDiag k set waiting done s) := by
  have hrest := (channelsOk_amp h k).atRest (.inr hconfig)
  have hdiag : ChannelsOk (changeAmp k (fun a => { a with state := .diag }) s) :=
    changeAmp_channelsOk h ((hrest.withState (by simp)).withoutOpenTimer.fits _)
  have hothers := channelsOk_others hdiag
  refine modOs_channelsOk hdiag rfl ⟨hothers.early, fun _ => ?_⟩
  rw [(changeAmp_within k _ s).sc_eq]
  exact hconfig

theorem answerLoadTest_channelsOk (body : Bytes) (s : State) (hacc : accepted .loadTest s.sc.opState = true)
    (h : ChannelsOk s) : ChannelsOk (answerLoadTest body s).state := by
  have hconfig : s.sc.opState = .config := by
    revert hacc
    cases s.sc.opState <;> decide
  unfold answerLoadTest
  repeat' split
  any_goals exact h
  exact beginDiag_channelsOk _ _ _ _ hconfig h

theorem installedState_atRest (i : Install) (k : Amp) :
    installedState i k ∈ [AmpState.unused, .bridged, .off, .diag] := by
  unfold installedState
  split
  · simp
  · split <;> simp

/-- A load-test result changes a record's result, its faults and their causes alone. -/
theorem AmpChannel.tested_eq (holding : FaultHolding) (r : LoadResult) (a : AmpChannel) :
    a.tested holding r =
      { a with result := r, faults := (a.tested holding r).faults, causes := (a.tested holding r).causes } := by
  unfold AmpChannel.tested
  dsimp only
  split
  · rfl
  · split <;> rfl

theorem channelTested_channelsOk (t : LoadTest) (r : LoadResult) {s : State} (hconfig : s.sc.opState = .config)
    (h : ChannelsOk s) : ChannelsOk (channelTested t r s) := by
  obtain ⟨_, hpending, htrip, hsoft, hretry, _⟩ := (channelsOk_amp h t.current).atRest (.inr hconfig)
  have hdone : ChannelsOk (changeAmp t.current
      (fun a => { a.tested s.os.protection.holding r with state := installedState s.install t.current }) s) := by
    refine changeAmp_channelsOk h (AmpChannel.AtRest.fits ?_ _)
    rw [AmpChannel.tested_eq]
    exact ⟨installedState_atRest _ _, hpending, htrip, hsoft, hretry, rfl⟩
  have hothers := channelsOk_others hdone
  unfold channelTested
  dsimp only
  split
  · refine beginDiag_channelsOk _ _ _ _ ?_ hdone
    rw [(changeAmp_within _ _ s).sc_eq]
    exact hconfig
  · exact (post_within _ _ _ _).channelsOk
      (modOs_channelsOk hdone rfl ⟨hothers.early, fun ht => absurd ht (by simp)⟩)

theorem checkEnds_channelsOk (registered : Bool) (t : LoadTest) {s : State} (ht : s.os.loadTest = some t)
    (h : ChannelsOk s) : ChannelsOk (checkEnds registered t s) := by
  have hothers := channelsOk_others h
  have hconfig : s.sc.opState = .config := hothers.loadTest (by simp [ht])
  unfold checkEnds
  dsimp only
  split
  · exact modOs_channelsOk h rfl ⟨hothers.early, fun _ => hconfig⟩
  · exact channelTested_channelsOk t _ hconfig h

theorem cleared_ampFits {o : OpState} {a : AmpChannel} (h : AmpFits o a) : AmpFits o a.cleared :=
  h.congr rfl rfl (.inl rfl) rfl rfl rfl

theorem answerProtection_channelsOk (body : Bytes) (s : State) (h : ChannelsOk s) :
    ChannelsOk (answerProtection body s).state := by
  have hothers := channelsOk_others h
  unfold answerProtection
  dsimp only
  split
  · split
    · rw [accept_state]
      by_cases hlive : ‹FaultHolding› = .live
      · refine channelsOk_map (f := AmpChannel.cleared) h rfl ?_ ⟨hothers.early, hothers.loadTest⟩
          (fun a ha => cleared_ampFits ha)
        simp [hlive]
      · refine modOs_channelsOk h ?_ ⟨hothers.early, hothers.loadTest⟩
        simp [hlive]
    · exact h
  · exact h

theorem answerFaults_channelsOk (s : State) (h : ChannelsOk s) : ChannelsOk (answerFaults s).state := by
  have hothers := channelsOk_others h
  unfold answerFaults
  rw [accept_state]
  by_cases hheld : s.os.protection.holding = .latched
  · refine channelsOk_map (f := AmpChannel.cleared) h rfl ?_ ⟨hothers.early, hothers.loadTest⟩
      (fun a ha => cleared_ampFits ha)
    simp [hheld]
  · refine modOs_channelsOk h ?_ ⟨hothers.early, hothers.loadTest⟩
    simp [hheld]

/-- RETRY_CHANNEL starts a channel in FAULT_LATCHED, which no channel is in in BOOT or CONFIG. -/
theorem answerRetry_channelsOk (body : Bytes) (s : State) (h : ChannelsOk s) :
    ChannelsOk (answerRetry body s).state := by
  unfold answerRetry
  repeat' split
  any_goals exact h
  rename_i k _ hlatched hgate
  have hstate : s.os.amps[k].state = .faultLatched := by simpa using hlatched
  have hearly := (channelsOk_amp h k).early
  rw [accept_state]
  refine startAmp_channelsOk _ h ⟨fun ho => ?_, fun ho => ?_⟩ (.inl (by simpa using hgate))
  · have hrest := (hearly (.inl ho)).1
    rw [hstate] at hrest
    simp at hrest
  · have hrest := (hearly (.inr ho)).1
    rw [hstate] at hrest
    simp at hrest

/-- A driver takes a state other than ON, or ON outside BOOT and CONFIG. -/
theorem setDriver_channelsOk {s : State} (g : Hp) {d : HpDriver} (h : ChannelsOk s)
    (hd : s.sc.opState = .boot ∨ s.sc.opState = .config → d ≠ .on) : ChannelsOk (setDriver g d s) := by
  have hothers := channelsOk_others h
  refine modOs_channelsOk h rfl ⟨fun ho => ⟨(hothers.early ho).1, fun p hp => ?_⟩, hothers.loadTest⟩
  simp only [PerHp.get_set]
  split
  · exact hd ho
  · exact (hothers.early ho).2 p hp

theorem answerClear_channelsOk (body : Bytes) (s : State) (h : ChannelsOk s) :
    ChannelsOk (answerClear body s).state := by
  unfold answerClear
  repeat' split
  any_goals exact h
  rw [accept_state]
  unfold releaseDriver
  split
  · refine setDriver_channelsOk _ h fun ho => ?_
    rcases ho with ho | ho <;> simp [ho]
  · exact h

theorem excludeAmp_channelsOk (k : Amp) {s : State} (h : ChannelsOk s) : ChannelsOk (excludeAmp s k) := by
  unfold excludeAmp
  split
  · exact endCause_channelsOk _ k
      (modAmp_channelsOk h ((channelsOk_amp h k).congr rfl rfl (.inr rfl) rfl rfl rfl))
  · exact h

theorem excludeAmps_channelsOk {s : State} (h : ChannelsOk s) : ChannelsOk (Amp.all.foldl excludeAmp s) := by
  refine foldl_keeps (P := ChannelsOk) (f := excludeAmp) ?_ Amp.all h
  exact fun t k ht => excludeAmp_channelsOk k ht

theorem answerMonitor_channelsOk (body : Bytes) (s : State) (h : ChannelsOk s) :
    ChannelsOk (answerMonitor body s).state := by
  have hothers := channelsOk_others h
  unfold answerMonitor
  split
  · split
    · exact h
    · rw [accept_state]
      refine (excludeMics_within _).channelsOk (excludeAmps_channelsOk (modOs_channelsOk h ?_ ?_))
      · rfl
      · exact ⟨hothers.early, hothers.loadTest⟩
  · exact h

end Sys2Proof.Machine
end

section
/-! SUPPORT. The output channels where the operating state changes (R14, R17 to R21, R154, R163). -/

-- One declaration at a time: together they would start more threads than the check's memory limit has stacks for.
set_option Elab.async false

namespace Sys2Proof.Machine

/-! ### One amplifier after a change -/

theorem changeAmp_amp (k j : Amp) (f : AmpChannel → AmpChannel) (s : State) :
    (changeAmp k f s).os.amps[j] = if j = k then s.os.amps[k].kept (f s.os.amps[k]) else s.os.amps[j] := by
  rw [changeAmp_eq]
  simp only [Fin.getElem_fin, Vector.getElem_set, Fin.ext_iff, eq_comm]

theorem modAmp_amp (k j : Amp) (f : AmpChannel → AmpChannel) (s : State) :
    (modAmp k f s).os.amps[j] = if j = k then f s.os.amps[k] else s.os.amps[j] := by
  simp only [modAmp, State.modOs_os, Fin.getElem_fin, Vector.getElem_set, Fin.ext_iff, eq_comm]

/-! ### Entry to and exit from the operating states -/

/-- A record that fits an operating state fits RUN and FAILSAFE. -/
theorem AmpFits.playing {o p : OpState} {a : AmpChannel} (h : AmpFits o a) (hp : p = .run ∨ p = .failsafe) : AmpFits p a where
  early ho := by rcases hp with rfl | rfl <;> simp at ho
  standby ho := by rcases hp with rfl | rfl <;> simp at ho
  pending := h.pending
  openTimer := h.openTimer
  trip := h.trip
  soft := h.soft
  retry := h.retry

/-- A part that enters RUN or FAILSAFE with no load test keeps the channels as they should be. -/
theorem channelsOk_playing {s t : State} (h : ChannelsOk s) (ht : t.sc.opState = .run ∨ t.sc.opState = .failsafe)
    (hos : t.os = s.os) (htest : s.os.loadTest = none) : ChannelsOk t := by
  refine (channelsOk_iff t).2 ⟨fun k => ?_, ⟨fun ho => ?_, fun hl => ?_⟩⟩
  · rw [hos]
    exact (channelsOk_amp h k).playing ht
  · rcases ht with ht | ht <;> simp [ht] at ho
  · simp [hos, htest] at hl

theorem loadTest_none {s : State} (h : ChannelsOk s) (hs : s.sc.opState ≠ .config) : s.os.loadTest = none :=
  Option.not_isSome_iff_eq_none.1 fun ht => hs ((channelsOk_others h).loadTest ht)

/-- A frame's arrival changes the operating state from FAILSAFE to RUN alone, and no channel. -/
theorem arrival_channelsOk {kind : Byte} {s : State} (h : ChannelsOk s) : ChannelsOk (arrival kind s) := by
  have hsc := arrival_sc kind s
  split at hsc
  · rename_i hlost
    obtain ⟨_, hop⟩ := hlost
    exact channelsOk_playing h (.inl (by rw [hsc])) (arrival_os kind s) (loadTest_none h (by simp [hop]))
  · rw [channelsOk_iff, hsc, arrival_os]
    exact (channelsOk_iff s).1 h

/-- A part leaves BOOT for CONFIG, where every channel is at rest. -/
theorem initialised_channelsOk {s : State} (hboot : s.sc.opState = .boot) (h : ChannelsOk s) :
    ChannelsOk (initialised s) := by
  have hconfig : ChannelsOk (s.modSc fun c => { c with opState := .config }) := by
    refine (channelsOk_iff _).2 ⟨fun k => ((channelsOk_amp h k).atRest (.inl hboot)).fits _, ⟨fun _ => ?_, fun _ => rfl⟩⟩
    exact (channelsOk_others h).early (.inl hboot)
  have hsensed : Within [.zr] (s.modSc fun c => { c with opState := .config }) _ := senseJacks_within _
  exact ((hsensed.trans (receipt_within _ _ _)).trans (postPartReady_within _)).mono.channelsOk
    (bs := [.zr, .cu]) hconfig

/-! ### START_AUDIO (R17, R154) -/

/-- A channel that waits to start holds no result by which START_AUDIO latches it. -/
def WaitsClean (a : AmpChannel) : Prop := a.startPending = true → a.result ∉ [LoadResult.shortBat, .shortGnd, .shortedLoad]

/-- The outputs while START_AUDIO goes through the amplifiers in RUN. -/
def Starting (s : State) : Prop := ChannelsOk s ∧ s.sc.opState = .run ∧ ∀ k : Amp, WaitsClean s.os.amps[k]

/-- A channel changed while START_AUDIO goes through the amplifiers. -/
theorem Starting.change {s t : State} {k : Amp} (h : Starting s) (hsc : t.sc = s.sc) (ht : ChannelsOk t)
    (hother : ∀ j, j ≠ k → t.os.amps[j] = s.os.amps[j]) (hk : WaitsClean t.os.amps[k]) : Starting t := by
  obtain ⟨_, hop, hclean⟩ := h
  refine ⟨ht, hsc ▸ hop, fun j => ?_⟩
  by_cases hj : j = k
  · rw [hj]
    exact hk
  · rw [hother j hj]
    exact hclean j

/-- An OFF channel that does not wait fits, in RUN, as one that a fault has latched. -/
theorem AmpFits.latched {o : OpState} {a : AmpChannel} (kind : FaultKind) (h : AmpFits o a) (hoff : a.state = .off)
    (hpending : a.startPending = false) :
    AmpFits .run { a.addFault kind with state := .faultLatched, openTimer := none } where
  early := by simp
  standby := by simp
  pending hp := absurd (hpending.symm.trans hp) Bool.false_ne_true
  openTimer := by simp
  trip ht := by simpa [hoff] using h.trip ht
  soft ht := by simpa [hoff] using h.soft ht
  retry ht := by simpa [hoff] using h.retry ht

theorem Starting.latch {s : State} (kind : FaultKind) {k : Amp} (h : Starting s) (hoff : s.os.amps[k].state = .off)
    (hresult : s.os.amps[k].result ∈ [LoadResult.shortBat, .shortGnd, .shortedLoad]) :
    Starting (postChannelFault kind k (changeAmp k (fun a => { a.addFault kind with state := .faultLatched }) s)) := by
  obtain ⟨hs, hop, hclean⟩ := h
  have hpending : s.os.amps[k].startPending = false := Bool.eq_false_iff.2 fun hp => hclean k hp hresult
  have hpost := postChannelFault_within kind k (changeAmp k (fun a => { a.addFault kind with state := .faultLatched }) s)
  have hnew : ChannelsOk (changeAmp k (fun a => { a.addFault kind with state := .faultLatched }) s) := by
    refine changeAmp_channelsOk hs ?_
    rw [hop]
    exact (channelsOk_amp hs k).latched kind hoff hpending
  refine Starting.change (k := k) ⟨hs, hop, hclean⟩ ?_ (hpost.channelsOk hnew) (fun j hj => ?_) ?_
  · rw [hpost.sc_eq, (changeAmp_within k _ s).sc_eq]
  · rw [hpost.os_eq, changeAmp_amp, if_neg hj]
  · rw [hpost.os_eq, changeAmp_amp, if_pos rfl]
    exact fun hp => absurd (hpending.symm.trans hp) Bool.false_ne_true

/-- What a start changes of a channel: not its load-test result. -/
theorem startAmp_amp (k j : Amp) (mark : Bool) (s : State) :
    (startAmp k mark s).os.amps[j].result = s.os.amps[j].result ∧
      (j ≠ k → (startAmp k mark s).os.amps[j] = s.os.amps[j]) := by
  unfold startAmp
  split
  · exact ⟨rfl, fun _ => rfl⟩
  · split <;> rw [changeAmp_amp] <;> split <;> simp_all [AmpChannel.kept]

theorem Starting.start {s : State} {k : Amp} (h : Starting s) (hoff : s.os.amps[k].state = .off)
    (hresult : s.os.amps[k].result ∉ [LoadResult.shortBat, .shortGnd, .shortedLoad]) : Starting (startAmp k false s) := by
  obtain ⟨hs, hop, hclean⟩ := h
  refine Starting.change (k := k) ⟨hs, hop, hclean⟩ (startAmp_within k false s).sc_eq
    (startAmp_channelsOk false hs (by simp [hop]) (.inr (.inl hoff))) (fun j hj => (startAmp_amp k j false s).2 hj) ?_
  intro _
  rw [(startAmp_amp k k false s).1]
  exact hresult

theorem Starting.openFault {s : State} (k : Amp) (h : Starting s) :
    Starting (postChannelFault .openLoad k (modAmp k (AmpChannel.addFault .openLoad) s)) := by
  obtain ⟨hs, hop, hclean⟩ := h
  have hpost := postChannelFault_within .openLoad k (modAmp k (AmpChannel.addFault .openLoad) s)
  have hnew : ChannelsOk (modAmp k (AmpChannel.addFault .openLoad) s) :=
    modAmp_channelsOk hs ((channelsOk_amp hs k).congr rfl rfl (.inl rfl) rfl rfl rfl)
  refine Starting.change (k := k) ⟨hs, hop, hclean⟩ ?_ (hpost.channelsOk hnew) (fun j hj => ?_) ?_
  · rw [hpost.sc_eq]
    rfl
  · rw [hpost.os_eq, modAmp_amp, if_neg hj]
  · rw [hpost.os_eq, modAmp_amp, if_pos rfl]
    exact hclean k

theorem startOnResult_starting {s : State} (k : Amp) (h : Starting s) : Starting (startOnResult s k) := by
  unfold startOnResult
  dsimp only
  split
  · rename_i hoff
    split <;> rename_i hr
    · exact h.latch _ hoff (by rw [hr]; decide)
    · exact h.latch _ hoff (by rw [hr]; decide)
    · exact h.latch _ hoff (by rw [hr]; decide)
    · exact (h.start hoff (by rw [hr]; decide)).openFault k
    · exact h.start hoff (by rw [hr]; decide)
    · exact h.start hoff (by rw [hr]; decide)
  · exact h

theorem startAmps_starting {s : State} (h : Starting s) : Starting (Amp.all.foldl startOnResult s) := by
  refine foldl_keeps (P := Starting) (f := startOnResult) ?_ Amp.all h
  exact fun t k ht => startOnResult_starting k ht

theorem startOthers_channelsOk {s : State} (hrun : s.sc.opState = .run) (h : ChannelsOk s) : ChannelsOk (startOthers s) := by
  refine modOs_channelsOk h ?_ ⟨fun ho => ?_, (channelsOk_others h).loadTest⟩
  · rfl
  · simp [hrun] at ho

/-- START_AUDIO comes from CONFIG, where no channel waits. -/
theorem answerStartAudio_channelsOk (s : State) (hacc : accepted .startAudio s.sc.opState = true) (h : ChannelsOk s) :
    ChannelsOk (answerStartAudio s).state := by
  have hconfig : s.sc.opState = .config := by
    revert hacc
    cases s.sc.opState <;> decide
  unfold answerStartAudio
  split
  · exact h
  · split
    · exact h
    · split
      · exact h
      · rename_i htest
        have hrun : Starting (setWatchdog (.counting s.safety.config.watchdogMs)
            (s.modSc (fun c => { c with opState := .run }))) := by
          refine ⟨channelsOk_playing h (.inl rfl) rfl (by simpa using htest), rfl, fun k hp => ?_⟩
          have hrest := ((channelsOk_amp h k).atRest (.inr hconfig)).pending
          exact absurd (hrest.symm.trans hp) Bool.false_ne_true
        rw [accept_state]
        unfold startAudio
        dsimp only
        obtain ⟨hamps, hop, _⟩ := startAmps_starting hrun
        exact ((retune_within _ _).trans (startHolder_within _)).channelsOk (startOthers_channelsOk hop hamps)

/-! ### STANDBY and WAKE (R163) -/

/-- A channel that in STANDBY enters OFF comes to rest. -/
theorem AmpFits.goesOff {a : AmpChannel} (h : AmpFits .standby a) :
    ({ a with state := .off, trip := none, soft := none, openTimer := none } : AmpChannel).AtRest := by
  obtain ⟨hstate, hpending⟩ := h.standby rfl
  refine ⟨by simp, hpending, rfl, rfl, ?_, rfl⟩
  refine Option.not_isSome_iff_eq_none.1 fun ht => ?_
  simp [h.retry ht] at hstate

/-- In STANDBY a channel that does not run is at rest. -/
theorem AmpFits.atRest_of_standby {a : AmpChannel} (h : AmpFits .standby a) (hr : a.state.running = false) : a.AtRest := by
  obtain ⟨hstate, hpending⟩ := h.standby rfl
  refine ⟨?_, hpending, ?_, ?_, ?_, ?_⟩
  · revert hr hstate
    cases a.state <;> decide
  · refine Option.not_isSome_iff_eq_none.1 fun ht => ?_
    rcases h.trip ht with hs | hs <;> simp [hs, AmpState.running] at hr
  · refine Option.not_isSome_iff_eq_none.1 fun ht => ?_
    simp [h.soft ht, AmpState.running] at hr
  · refine Option.not_isSome_iff_eq_none.1 fun ht => ?_
    simp [h.retry ht] at hstate
  · refine Option.not_isSome_iff_eq_none.1 fun ht => ?_
    simp [h.openTimer ht, AmpState.running] at hr

theorem ampOff_channelsOk (k : Amp) {s : State} (hs : s.sc.opState = .standby) (h : ChannelsOk s) :
    ChannelsOk (ampOff k s) :=
  changeAmp_channelsOk h ((hs ▸ channelsOk_amp h k).goesOff.fits _)

/-- The amplifiers that `standbyOff` takes OFF, one after another. -/
def ampsOff (off : Amp → Bool) (l : List Amp) (s : State) : State :=
  l.foldl (fun t k => if off k then ampOff k t else t) s

theorem ampsOff_channelsOk (off : Amp → Bool) (l : List Amp) {s : State} (hs : s.sc.opState = .standby)
    (h : ChannelsOk s) : ChannelsOk (ampsOff off l s) ∧ (ampsOff off l s).sc.opState = .standby := by
  induction l generalizing s with
  | nil => exact ⟨h, hs⟩
  | cons k l ih =>
    simp only [ampsOff, List.foldl_cons]
    split
    · exact ih (by rw [(ampOff_within k s).sc_eq, hs]) (ampOff_channelsOk k hs h)
    · exact ih hs h

/-- An amplifier that is taken OFF comes to rest. -/
theorem ampsOff_atRest {off : Amp → Bool} {l : List Amp} {s : State} (hs : s.sc.opState = .standby) (h : ChannelsOk s)
    (hall : ∀ k : Amp, (off k = true ∧ k ∈ l) ∨ s.os.amps[k].AtRest) (k : Amp) : (ampsOff off l s).os.amps[k].AtRest := by
  induction l generalizing s with
  | nil => exact (hall k).resolve_left (by simp)
  | cons j l ih =>
    simp only [ampsOff, List.foldl_cons]
    split
    · refine ih (by rw [(ampOff_within j s).sc_eq, hs]) (ampOff_channelsOk j hs h) fun i => ?_
      unfold ampOff
      rw [changeAmp_amp]
      split
      · have hrest := (hs ▸ channelsOk_amp h j : AmpFits .standby s.os.amps[j]).goesOff
        exact .inr ⟨hrest.state, hrest.pending, rfl, rfl, hrest.retry, rfl⟩
      · rcases hall i with ⟨hoff, hi⟩ | hrest
        · exact .inl ⟨hoff, (List.mem_cons.1 hi).resolve_left (by assumption)⟩
        · exact .inr hrest
    · refine ih hs h fun i => ?_
      rcases hall i with ⟨hoff, hi⟩ | hrest
      · refine .inl ⟨hoff, (List.mem_cons.1 hi).resolve_left fun hij => ?_⟩
        subst hij
        contradiction
      · exact .inr hrest

/-- The channels that `standbyOff` takes OFF: the amplifiers first, then the digital outputs and the drivers. -/
theorem standbyOff_os (all : Bool) (s : State) :
    ∃ off : Amp → Bool, (∀ k, off k = (s.os.amps[k].state.running && (all || allMuted s (.amp k)))) ∧
      (standbyOff all s).os.amps = (ampsOff off Amp.all s).os.amps ∧
      (standbyOff all s).os.loadTest = (ampsOff off Amp.all s).os.loadTest :=
  ⟨_, fun _ => rfl, rfl, rfl⟩

theorem standbyOff_channelsOk (all : Bool) {s : State} (hs : s.sc.opState = .standby) (h : ChannelsOk s) :
    ChannelsOk (standbyOff all s) := by
  obtain ⟨off, _, hamps, htest⟩ := standbyOff_os all s
  obtain ⟨hoff, hop⟩ := ampsOff_channelsOk off Amp.all hs h
  have hsc : (standbyOff all s).sc.opState = .standby := by rw [(standbyOff_within all s).sc_eq, hs]
  refine (channelsOk_iff _).2 ⟨fun k => ?_, ⟨fun ho => ?_, fun ht => ?_⟩⟩
  · rw [hsc, hamps, ← hop]
    exact channelsOk_amp hoff k
  · simp [hsc] at ho
  · rw [hsc, ← hop]
    exact (channelsOk_others hoff).loadTest (htest ▸ ht)

/-- At WAKE no digital output and no driver is left ON (R163). -/
theorem standbyOff_quiet (s : State) :
    (∀ d ∈ (standbyOff true s).os.douts.toList, d ≠ .on) ∧ ∀ h ∈ Hp.all, (standbyOff true s).os.hps.get h ≠ .on := by
  constructor
  · rw [forall_mem_toList_iff]
    intro k
    simp only [standbyOff, State.modOs_os, Fin.getElem_fin, Vector.getElem_ofFn, Bool.true_or, and_true]
    split
    · decide
    · assumption
  · intro h _
    cases h <;>
    · simp only [standbyOff, State.modOs_os, PerHp.get, Bool.true_or, and_true]
      split
      · decide
      · assumption

theorem mem_ampAll (k : Amp) : k ∈ Amp.all := by
  revert k
  decide

theorem answerWake_channelsOk (s : State) (hacc : accepted .wake s.sc.opState = true) (h : ChannelsOk s) :
    ChannelsOk (answerWake s).state := by
  have hs : s.sc.opState = .standby := by
    revert hacc
    cases s.sc.opState <;> decide
  obtain ⟨off, hoff, hamps, _⟩ := standbyOff_os true s
  refine (channelsOk_iff _).2 ⟨fun k => ?_, ⟨fun _ => standbyOff_quiet s, fun _ => rfl⟩⟩
  have hrest : (standbyOff true s).os.amps[k].AtRest := by
    rw [hamps]
    refine ampsOff_atRest hs h (fun j => ?_) k
    rw [hoff]
    by_cases hr : s.os.amps[j].state.running = true
    · exact .inl ⟨by rw [hr]; rfl, mem_ampAll j⟩
    · exact .inr ((hs ▸ channelsOk_amp h j).atRest_of_standby (by simpa using hr))
  exact hrest.fits _

/-- At entry to STANDBY an amplifier keeps running or comes to rest (R163). -/
theorem AmpFits.standby_fits {o : OpState} {a : AmpChannel} (h : AmpFits o a) : AmpFits .standby a.standby := by
  unfold AmpChannel.standby
  split
  · rename_i hout
    have hr : a.state.running = false := by rcases hout with hs | hs <;> rw [hs] <;> rfl
    have hpending : a.startPending = false := Bool.eq_false_iff.2 fun hp => by
      rcases hout with hs | hs <;> rcases h.pending hp with hs' | hs' <;> simp [hs] at hs'
    exact { h with
      early := by simp
      standby := fun _ => ⟨by rcases hout with hs | hs <;> rw [hs] <;> decide, hpending⟩ }
  · cases hr : a.state.running with
    | false =>
      have htrip : a.trip = none := Option.not_isSome_iff_eq_none.1 fun ht => by
        rcases h.trip ht with hs | hs <;> simp [hs, AmpState.running] at hr
      refine AmpChannel.AtRest.fits ?_ _
      exact ⟨by simp, rfl, htrip, rfl, rfl, rfl⟩
    | true => exact ampFits_of_running hr (by simp) (by simp) rfl rfl rfl h.trip (by simp)

/-- What STANDBY hands to the receivers, the traffic watch, the chimes and the zones leaves the outputs alone. -/
theorem standbyBlocks_within (s : State) :
    Within [.rx, .af, .slm, .tw, .chimes, .zr] s (settle (reduceLists (silenceChimes
      ((standbyHolder (followIdle
        (s.modRx (fun r => { r with a := r.a.standby, b := r.b.standby, seek := none, purpose := .retune })))).modTw
          (fun w => { w with announcement := none, bridge := none, codeHeld := none }))))) :=
  (((((modRx_within _ s).trans (followIdle_within _)).trans (standbyHolder_within _)).trans
    (modTw_within _ _)).trans (silenceChimes_within _)).trans (reduceLists_within _) |>.settled

theorem answerStandby_channelsOk (s : State) (h : ChannelsOk s) : ChannelsOk (answerStandby s).state := by
  unfold answerStandby
  split
  · exact h
  · split
    · exact h
    · rename_i htest
      rw [accept_state]
      unfold enterStandby
      dsimp only
      have hentered : ChannelsOk ((setWatchdog .stopped
          ((endLoad (s.modSc (fun c => { c with opState := .standby }))).modSafety
            (fun f => { f with windowOpen := false }))).modOs
          (fun o => { o with amps := o.amps.map AmpChannel.standby })) := by
        refine (channelsOk_iff _).2 ⟨fun k => ?_, ⟨fun ho => ?_, fun ht => absurd ht htest⟩⟩
        · simp only [State.modOs_os, Fin.getElem_fin, Vector.getElem_map]
          exact (channelsOk_amp h k).standby_fits
        · rcases ho with ho | ho <;> contradiction
      have hblocks := standbyBlocks_within ((setWatchdog .stopped
          ((endLoad (s.modSc (fun c => { c with opState := .standby }))).modSafety
            (fun f => { f with windowOpen := false }))).modOs
          (fun o => { o with amps := o.amps.map AmpChannel.standby }))
      refine standbyOff_channelsOk false ?_ (hblocks.channelsOk hentered)
      rw [hblocks.sc_eq]
      rfl

theorem ramped_channelsOk (s : State) (h : ChannelsOk s) : ChannelsOk (ramped s) := by
  unfold ramped
  dsimp only
  split
  · exact standbyOff_channelsOk false (by assumption) h
  · exact h

/-! ### Resets (R14, R21) -/

/-- In BOOT and CONFIG it is enough that every amplifier is at rest and no other output is ON. -/
theorem channelsOk_of_atRest {s : State} (hamps : ∀ k : Amp, s.os.amps[k].AtRest)
    (hdouts : ∀ k : Dout, s.os.douts[k] ≠ .on) (hhps : ∀ h, s.os.hps.get h ≠ .on) (htest : s.os.loadTest = none) :
    ChannelsOk s :=
  (channelsOk_iff s).2 ⟨fun k => (hamps k).fits _,
    ⟨fun _ => ⟨(forall_mem_toList_iff _ _).2 hdouts, fun h _ => hhps h⟩, fun ht => by simp [htest] at ht⟩⟩

theorem powerOnReset_channelsOk (s : State) :
    ChannelsOk { State.reset with pins := s.pins, pending := s.pending } := by
  refine channelsOk_of_atRest (fun k => ?_) (fun k => ?_) (fun h => ?_) rfl
  · simp only [State.reset, OutputStage.reset, Fin.getElem_fin, Vector.getElem_replicate]
    exact ⟨by decide, rfl, rfl, rfl, rfl, rfl⟩
  · simp [State.reset, OutputStage.reset]
  · cases h <;> simp [State.reset, OutputStage.reset, PerHp.all, PerHp.get]

theorem installedDout_ne_on (i : Install) (k : Dout) : installedDout i k ≠ .on := by
  unfold installedDout
  split <;> simp

theorem restarted_channelsOk (s : State) : ChannelsOk (restarted s) := by
  refine channelsOk_of_atRest (fun k => ?_) (fun k => ?_) (fun h => ?_) rfl
  · simp only [restarted, reselect, State.modClp_os, restartedOutputs, Fin.getElem_fin, Vector.getElem_ofFn]
    exact ⟨installedState_atRest _ _, rfl, rfl, rfl, rfl, rfl⟩
  · simp only [restarted, reselect, State.modClp_os, restartedOutputs, Fin.getElem_fin, Vector.getElem_ofFn]
    exact installedDout_ne_on _ _
  · cases h <;> simp [restarted, reselect, restartedOutputs, OutputStage.reset, PerHp.all, PerHp.get]

end Sys2Proof.Machine
end

section
/-! SUPPORT. The output channels at the samples and at their own timers (R154, R155, R157, R158, R160, R163); every command
keeps `ChannelsOk`. -/

-- One declaration at a time: together they would start more threads than the check's memory limit has stacks for.
set_option Elab.async false

namespace Sys2Proof.Machine

/-! ### Samples -/

theorem modAmp_congr_channelsOk {s : State} {k : Amp} {f : AmpChannel → AmpChannel} (h : ChannelsOk s)
    (hf : ∀ a, (f a).state = a.state ∧ (f a).startPending = a.startPending ∧
      ((f a).openTimer = a.openTimer ∨ (f a).openTimer = none) ∧ (f a).trip = a.trip ∧ (f a).soft = a.soft ∧
      (f a).retry = a.retry) : ChannelsOk (modAmp k f s) := by
  obtain ⟨hstate, hpending, hopen, htrip, hsoft, hretry⟩ := hf s.os.amps[k]
  exact modAmp_channelsOk h ((channelsOk_amp h k).congr hstate hpending hopen htrip hsoft hretry)

theorem currentSampled_channelsOk (k : Amp) (belowOpen : Bool) (level : Int) {s : State} (h : ChannelsOk s) :
    ChannelsOk (currentSampled k belowOpen level s) := by
  unfold currentSampled
  dsimp only
  split
  · rename_i hon
    have hfit := channelsOk_amp h k
    have htimed : ChannelsOk (modAmp k
        (fun a => { a with openTimer := if belowOpen && decide (-20 < level) then some (a.openTimer.getD 2000) else none })
        s) :=
      modAmp_channelsOk h { hfit with openTimer := fun _ => hon }
    split
    · exact htimed
    · exact endCause_channelsOk _ k htimed
  · split
    · exact h
    · exact endCause_channelsOk _ k h

/-- A thermal shutdown leaves a running channel waiting to start again, or latched (R157). -/
theorem thermalDown_channelsOk (b : Bank) (k : Amp) {s : State} (h : ChannelsOk s) : ChannelsOk (thermalDown b s k) := by
  unfold thermalDown
  split
  · rename_i hr
    have hnoted : ChannelsOk (modAmp k (fun a => { a with thermalBank := some b }) s) :=
      modAmp_congr_channelsOk h fun a => ⟨rfl, rfl, .inl rfl, rfl, rfl, rfl⟩
    obtain ⟨hpending, hretry, hb, hc⟩ := (channelsOk_amp h k).of_running hr
    refine shutDown_channelsOk _ hnoted fun hs => ?_
    rw [modAmp_amp, if_pos rfl]
    by_cases hmode : s.os.protection.mode = .retry
    · rw [if_pos hmode]
      refine ampFits_of_shut hb hc hs ?_ ?_
      · exact fun _ => .inr rfl
      · exact fun ht => absurd ht (by simp)
    · rw [if_neg hmode]
      exact ampFits_of_latched hb hc hs hpending hretry
  · exact h

theorem thermalCauseEnds_channelsOk (b : Bank) (k : Amp) {s : State} (h : ChannelsOk s) :
    ChannelsOk (thermalCauseEnds b s k) := by
  unfold thermalCauseEnds
  split
  · exact endCause_channelsOk _ k (modAmp_congr_channelsOk h fun a => ⟨rfl, rfl, .inl rfl, rfl, rfl, rfl⟩)
  · exact h

theorem shutdownActs_channelsOk (b : Bank) (was now : Bool) {s : State} (h : ChannelsOk s) :
    ChannelsOk (shutdownActs b was now s) := by
  unfold shutdownActs
  split
  · exact foldl_keeps (P := ChannelsOk) (f := thermalDown b) (fun _ k ht => thermalDown_channelsOk b k ht) _ h
  · split
    · refine proceedStarts_channelsOk ?_
      exact foldl_keeps (P := ChannelsOk) (f := thermalCauseEnds b) (fun _ k ht => thermalCauseEnds_channelsOk b k ht) _ h
    · exact h

theorem setBank_channelsOk (b : Bank) (x : BankState) {s : State} (h : ChannelsOk s) : ChannelsOk (setBank b x s) := by
  have hothers := channelsOk_others h
  cases b
  · refine modOs_channelsOk h ?_ ⟨hothers.early, hothers.loadTest⟩
    rfl
  · refine modOs_channelsOk h ?_ ⟨hothers.early, hothers.loadTest⟩
    rfl

theorem thermalSample_channelsOk (b : Bank) (t : Int) {s : State} (h : ChannelsOk s) :
    ChannelsOk (thermalSample b t s) := by
  unfold thermalSample
  dsimp only
  refine shutdownActs_channelsOk b _ _ ?_
  split
  · exact setBank_channelsOk b _ h
  · exact (post_within _ _ _ _).channelsOk (setBank_channelsOk b _ h)

/-- An over-voltage holds a running channel off, to start again (R158). -/
theorem overvoltageHold_channelsOk (k : Amp) {s : State} (h : ChannelsOk s) : ChannelsOk (overvoltageHold s k) := by
  unfold overvoltageHold
  split
  · rename_i hr
    obtain ⟨_, hretry, hb, hc⟩ := (channelsOk_amp h k).of_running hr
    refine shutDown_channelsOk _ h fun hs => ?_
    refine ampFits_of_shut hb hc hs ?_ ?_
    · exact fun _ => .inl rfl
    · intro (hsome : s.os.amps[k].retry.isSome = true)
      rw [hretry] at hsome
      cases hsome
  · exact h

theorem supplyActs_channelsOk (was now : SupplyState) {s : State} (h : ChannelsOk s) :
    ChannelsOk (supplyActs was now s) := by
  unfold supplyActs
  split
  · exact foldl_keeps (P := ChannelsOk) (f := overvoltageHold) (fun _ k ht => overvoltageHold_channelsOk k ht) _ h
  · split
    · refine proceedStarts_channelsOk ?_
      exact foldl_keeps (P := ChannelsOk) (f := holdCauseEnds) (fun _ k ht => endCause_channelsOk _ k ht) _ h
    · exact h

theorem supplySample_channelsOk (v : Nat) {s : State} (h : ChannelsOk s) : ChannelsOk (supplySample v s) := by
  have hothers := channelsOk_others h
  have hnew (x : SupplyState) : ChannelsOk (s.modOs (fun o => { o with supply := x })) := by
    refine modOs_channelsOk h ?_ ⟨hothers.early, hothers.loadTest⟩
    rfl
  unfold supplySample
  dsimp only
  refine supplyActs_channelsOk _ _ ?_
  split
  · exact hnew _
  · exact (post_within _ _ _ _).channelsOk (hnew _)

theorem driverShort_channelsOk (p : Hp) {s : State} (h : ChannelsOk s) : ChannelsOk (driverShort p s) := by
  have hheld : ChannelsOk (setDriver p .heldOff s) := setDriver_channelsOk p h fun _ => by simp
  unfold driverShort
  exact (post_within _ _ _ _).channelsOk hheld

theorem sampled_channelsOk (x : Sample) {s : State} (h : ChannelsOk s) : ChannelsOk (sampled x s) := by
  unfold sampled
  split
  · exact currentSampled_channelsOk _ _ _ h
  · exact (receipt_within _ _ _).channelsOk (thermalSample_channelsOk _ _ h)
  · exact (receipt_within _ _ _).channelsOk (supplySample_channelsOk _ h)
  · exact (biasSample_within _ _ s).channelsOk h
  · split
    · exact driverShort_channelsOk _ h
    · exact h

theorem settle_channelsOk {s : State} (h : ChannelsOk s) : ChannelsOk (settle s) := h

/-! ### The channels' own events -/

theorem limitEngage_channelsOk (k : Amp) {s t : State} (h : ChannelsOk s) (ht : exec (.limitEngage k) s = .next t) :
    ChannelsOk t := by
  have hfit := channelsOk_amp h k
  cases Host.Outcome.next.inj ht
  split
  · rename_i hs
    refine settle_channelsOk (changeAmp_channelsOk h ?_)
    obtain ⟨hpending, hretry, hb, hc⟩ := hfit.of_running (by rw [hs]; rfl)
    exact ampFits_of_running (by rw [show _ = _ from hs]; rfl) hb hc hpending hretry rfl (fun _ => .inl hs) (fun _ => hs)
  · rename_i hs
    refine settle_channelsOk (changeAmp_channelsOk h ?_)
    obtain ⟨hpending, hretry, hb, hc⟩ := hfit.of_running (by rw [hs]; rfl)
    refine ampFits_of_running rfl hb hc hpending hretry rfl (fun _ => .inr rfl) (fun hsoft => ?_)
    exact absurd (hs.symm.trans (hfit.soft hsoft)) (by simp)
  · exact h

theorem limitRelease_channelsOk (k : Amp) {s t : State} (h : ChannelsOk s) (ht : exec (.limitRelease k) s = .next t) :
    ChannelsOk t := by
  have hfit := channelsOk_amp h k
  cases Host.Outcome.next.inj ht
  split
  · rename_i hs
    refine settle_channelsOk (changeAmp_channelsOk h ?_)
    obtain ⟨hpending, hretry, hb, hc⟩ := hfit.of_running (by rw [hs]; rfl)
    refine ampFits_of_running (by rw [show _ = _ from hs]; rfl) hb hc hpending hretry rfl ?_ (fun _ => hs)
    exact fun htrip => absurd htrip (by simp)
  · rename_i hs
    exact settle_channelsOk (enterOn_channelsOk h (by rw [hs]; rfl))
  · exact h

theorem softStartEnd_channelsOk (k : Amp) {s t : State} (h : ChannelsOk s) (ht : exec (.softStartEnd k) s = .next t) :
    ChannelsOk t := by
  have hfit := channelsOk_amp h k
  cases Host.Outcome.next.inj ht
  split
  · rename_i hstart
    obtain ⟨hs, _⟩ := hstart
    have hr : s.os.amps[k].state.running = true := by rw [hs]; rfl
    refine settle_channelsOk ?_
    split
    · refine changeAmp_channelsOk h ?_
      obtain ⟨hpending, hretry, hb, hc⟩ := hfit.of_running hr
      exact ampFits_of_running rfl hb hc hpending hretry rfl (fun _ => .inr rfl) (fun hsoft => absurd hsoft (by simp))
    · exact enterOn_channelsOk h hr
  · exact h

/-- A trip leaves a running channel in FAULT_WAIT with its retry timer, or latched (R155). -/
theorem tripped_channelsOk (k : Amp) {s : State} (hr : s.os.amps[k].state.running = true) (h : ChannelsOk s) :
    ChannelsOk (tripped k s) := by
  obtain ⟨hpending, hretry, hb, hc⟩ := (channelsOk_amp h k).of_running hr
  unfold tripped
  refine shutDown_channelsOk _ h fun hs => ?_
  by_cases hmode : s.os.protection.mode = .retry
  · rw [if_pos hmode]
    refine ampFits_of_shut hb hc hs ?_ ?_
    · exact fun hp => absurd (hpending.symm.trans hp) Bool.false_ne_true
    · exact fun _ => rfl
  · rw [if_neg hmode]
    exact ampFits_of_latched hb hc hs hpending hretry

theorem tripTimerRunout_channelsOk (k : Amp) {s t : State} (h : ChannelsOk s)
    (ht : exec (.tripTimerRunout k) s = .next t) : ChannelsOk t := by
  cases Host.Outcome.next.inj ht
  split
  · rename_i hrun
    obtain ⟨hs, _⟩ := hrun
    exact settle_channelsOk (tripped_channelsOk k (by rcases hs with hs | hs <;> rw [hs] <;> rfl) h)
  · exact h

/-- A channel in FAULT_WAIT, which no channel is in in BOOT or CONFIG, starts at the end of its retry time. -/
theorem retryTimerRunout_channelsOk (k : Amp) {s t : State} (h : ChannelsOk s)
    (ht : exec (.retryTimerRunout k) s = .next t) : ChannelsOk t := by
  cases Host.Outcome.next.inj ht
  split
  · rename_i hwait
    obtain ⟨hs, _⟩ := hwait
    have hearly : ¬(s.sc.opState = .boot ∨ s.sc.opState = .config) := fun ho => by
      have hrest := ((channelsOk_amp h k).early ho).1
      rw [hs] at hrest
      simp at hrest
    exact settle_channelsOk (startAmp_channelsOk _ h ⟨fun ho => hearly (.inl ho), fun ho => hearly (.inr ho)⟩
      (.inr (.inr hs)))
  · exact h

theorem openSuspected_channelsOk (k : Amp) {s : State} (h : ChannelsOk s) : ChannelsOk (openSuspected k s) := by
  have hnoted : ChannelsOk (modAmp k (fun a => { a.addFault .onOpenSuspect with openTimer := none }) s) :=
    modAmp_congr_channelsOk h fun a => ⟨rfl, rfl, .inr rfl, rfl, rfl, rfl⟩
  unfold openSuspected
  exact (post_within _ _ _ _).channelsOk hnoted

/-! ### The watchdog and time -/

/-- Entry to FAILSAFE comes from RUN and leaves the channels as they are. -/
theorem watchdogExpires_channelsOk (s : State) (h : ChannelsOk s) : ChannelsOk (watchdogExpires s) := by
  unfold watchdogExpires
  split
  · dsimp only
    split
    · rename_i hrun
      refine channelsOk_playing h (.inr ?_) ?_ (loadTest_none h (by simp [hrun]))
      · rw [enterFailsafe_sc]
      · exact (enterFailsafe_within (setWatchdog .expired s)).os_eq
    · exact h
  · exact h

theorem tick_isSome (n : Option Nat) : (tick n).isSome = n.isSome := by
  cases n <;> rfl

theorem AmpFits.ticked {o : OpState} {a : AmpChannel} (h : AmpFits o a) : AmpFits o a.tick where
  early := h.early
  standby := h.standby
  pending := h.pending
  openTimer ht := h.openTimer ((tick_isSome _).symm.trans ht)
  trip ht := h.trip ((tick_isSome _).symm.trans ht)
  soft ht := h.soft ((tick_isSome _).symm.trans ht)
  retry ht := h.retry ((tick_isSome _).symm.trans ht)

theorem elapse_channelsOk (s : State) (h : ChannelsOk s) : ChannelsOk (elapse s) := by
  have hothers := channelsOk_others h
  refine (channelsOk_iff _).2 ⟨fun k => ?_, ⟨hothers.early, fun ht => hothers.loadTest ?_⟩⟩
  · simp only [elapse, Fin.getElem_fin, Vector.getElem_map]
    exact (channelsOk_amp h k).ticked
  · simpa [elapse] using ht

/-! ### Every command -/

theorem Handled.channelsOk {bs : List Block} {s t : State} (h : Handled bs s t) (hs : ChannelsOk s)
    (hb : bs.any [Block.sc, .os].contains = false) : ChannelsOk t := by
  cases h with
  | event h => exact h.channelsOk hs hb
  | frame k r st b h => exact h.channelsOk (arrival_channelsOk hs) hb

theorem request_channelsOk {k : Kind} {body : Bytes} {act : State → Answer} {s : State}
    (hact : ∀ u, accepted k u.sc.opState = true → ChannelsOk u → ChannelsOk (act u).state) (h : ChannelsOk s) :
    ChannelsOk (request k body act s) :=
  request_keeps (fun _ _ _ _ hu => hu) (arrival_channelsOk h) hact

theorem exec_channelsOk (i : Instr) (s t : State) (hs : ChannelsOk s) (h : exec i s = .next t) : ChannelsOk t := by
  have next {u : State} (hu : exec i s = .next u) : u = t := Host.Outcome.next.inj (hu.symm.trans h)
  by_cases hb : Instr.portPlain i = true ∧ (Instr.touches i).any [Block.sc, .os].contains = false
  · exact (exec_handled i s t h hb.1).channelsOk hs hb.2
  cases i with
  | powerOnReset => exact next rfl ▸ powerOnReset_channelsOk s
  | initialisationComplete =>
    refine next rfl ▸ ?_
    split
    · exact settle_channelsOk (initialised_channelsOk (by assumption) hs)
    · exact hs
  | frameError received => exact next rfl ▸ hs
  | fetchReports body => exact next rfl ▸ request_channelsOk (fun u _ hu => hu) hs
  | setReportMask body =>
    refine next rfl ▸ request_channelsOk (fun u _ hu => ?_) hs
    unfold answerMask
    split <;> exact hu
  | setInstall body => exact next rfl ▸ request_channelsOk (answerInstall_channelsOk body) hs
  | startAudio body => exact next rfl ▸ request_channelsOk answerStartAudio_channelsOk hs
  | standby body => exact next rfl ▸ request_channelsOk (fun u _ => answerStandby_channelsOk u) hs
  | wake body => exact next rfl ▸ request_channelsOk answerWake_channelsOk hs
  | restart body => exact next rfl ▸ request_channelsOk (fun u _ _ => restarted_channelsOk u) hs
  | watchdogExpiry => exact next rfl ▸ settle_channelsOk (watchdogExpires_channelsOk s hs)
  | loadTest body => exact next rfl ▸ request_channelsOk (answerLoadTest_channelsOk body) hs
  | setProtection body => exact next rfl ▸ request_channelsOk (fun u _ => answerProtection_channelsOk body u) hs
  | setMonitor body => exact next rfl ▸ request_channelsOk (fun u _ => answerMonitor_channelsOk body u) hs
  | retryChannel body => exact next rfl ▸ request_channelsOk (fun u _ => answerRetry_channelsOk body u) hs
  | clearFault body => exact next rfl ▸ request_channelsOk (fun u _ => answerClear_channelsOk body u) hs
  | getFaults body => exact next rfl ▸ request_channelsOk (fun u _ => answerFaults_channelsOk u) hs
  | rampStep => exact next rfl ▸ settle_channelsOk (ramped_channelsOk s hs)
  | monitorSample x =>
    refine next rfl ▸ ?_
    split
    · exact settle_channelsOk (sampled_channelsOk x hs)
    · exact hs
  | limitEngage k => exact limitEngage_channelsOk k hs h
  | limitRelease k => exact limitRelease_channelsOk k hs h
  | softStartEnd k => exact softStartEnd_channelsOk k hs h
  | tripTimerRunout k => exact tripTimerRunout_channelsOk k hs h
  | retryTimerRunout k => exact retryTimerRunout_channelsOk k hs h
  | loadTestCheckEnd registered =>
    refine next rfl ▸ ?_
    split
    · exact hs
    · exact settle_channelsOk (checkEnds_channelsOk registered _ (by assumption) hs)
  | openTimerRunout k =>
    refine next rfl ▸ ?_
    split
    · exact settle_channelsOk (openSuspected_channelsOk k hs)
    · exact hs
  | _ => exact absurd ⟨rfl, rfl⟩ hb

/-- Settles O18: every command keeps the operating states (`exec_statesOk`) and the channels (`exec_channelsOk`), and so does
the millisecond that passes while none waits. -/
theorem operatingStatesStayLegal : Obligations.OperatingStatesStayLegal := by
  unfold Obligations.OperatingStatesStayLegal
  intro s t h
  unfold Machine.step at h
  split at h
  · cases h
    exact ⟨elapse_statesOk s, elapse_channelsOk s⟩
  · rename_i rest _
    exact ⟨fun hs => exec_statesOk _ (s.setPending rest) t hs h, fun hs => exec_channelsOk _ (s.setPending rest) t hs h⟩

end Sys2Proof.Machine
end

section
/-! SUPPORT. The messages of chapter 1 (R6 to R9): POLL, the queue's taking of a report, FETCH_REPORTS and SET_REPORT_MASK. -/

-- One declaration at a time: together they would start more threads than the check's memory limit has stacks for.
set_option Elab.async false

namespace Sys2Proof.Machine

/-! ### A request's outcome by its own rule's answer -/

theorem request_accepting {k : Kind} {body : Bytes} {act : State → Answer} {s v : State} {b : Bytes}
    (hlen : lengthAllowed k body = true) (hready : Ready k s) (hact : act (atRequest k s) = accept v b) :
    request k body act s = v.accepting k b := by
  rw [request_acts k body act s hlen hready, hact]
  rfl

theorem request_refusing {k : Kind} {body : Bytes} {act : State → Answer} {s : State} {st : Status}
    (hlen : lengthAllowed k body = true) (hready : Ready k s) (hact : act (atRequest k s) = refuse (atRequest k s) st) :
    request k body act s = (atRequest k s).refusing k st := by
  rw [request_acts k body act s hlen hready, hact]
  rfl

/-- POLL, FETCH_REPORTS and GET_PART_STATE are accepted in every operating state but FAILSAFE (R16). -/
theorem accepted_anywhere {k : Kind} {o : OpState} (hk : k ∈ [Kind.poll, .fetchReports, .getPartState])
    (ho : o ≠ .failsafe) : accepted k o = true := by
  simp only [List.mem_cons, List.not_mem_nil, or_false] at hk
  revert ho
  rcases hk with rfl | rfl | rfl <;> cases o <;> decide

/-- Settles O5: POLL's own rule accepts and changes nothing, in every state that its frame can leave. -/
theorem pollCountsReports : Obligations.PollCountsReports := by
  unfold Obligations.PollCountsReports
  rintro s u rfl hop
  exact congrArg Host.Outcome.next (request_accepting (act := answerPoll) rfl (accepted_anywhere (by simp) hop) rfl)

/-! ### The queue takes a report (R7) -/

theorem post_cp (kind : ReportKind) (subject : Nat) (fields : Bytes) (s : State) :
    (post kind subject fields s).cp =
      (s.cp.enqueue { kind := kind, subject := subject, data := reportData fields }).reattn := rfl

theorem Report.sameKey_iff (r q : Report) : r.sameKey q = true ↔ q.kind = r.kind ∧ q.subject = r.subject := by
  simp only [Report.sameKey, Bool.and_eq_true, beq_iff_eq]
  exact and_congr eq_comm eq_comm

theorem Report.any_sameKey (r : Report) (l : List Report) :
    l.any r.sameKey = l.any (fun q => q.kind == r.kind && q.subject == r.subject) := by
  congr 1
  funext q
  exact congrArg₂ and BEq.comm BEq.comm

/-- The three outcomes of R7. -/
theorem ControlPort.enqueue_by_case (r : Report) (c : ControlPort) :
    c.enqueue r =
      if r.kind.isChange = true ∧ c.reports.any (fun q => q.kind == r.kind && q.subject == r.subject) = true then
        { c with reports := c.reports.map (fun q =>
            if q.kind = r.kind ∧ q.subject = r.subject then { q with data := r.data } else q) }
      else if c.reports.length < 24 then { c with reports := c.reports ++ [r] }
      else { c with lost := true } := by
  simp only [ControlPort.enqueue, Report.any_sameKey, Report.sameKey_iff, Bool.and_eq_true]
  rfl

/-- Settles O7, by the three outcomes of `ControlPort.enqueue_by_case`. -/
theorem queueTakesAReport : Obligations.QueueTakesAReport := by
  unfold Obligations.QueueTakesAReport
  rintro s t kind subject fields rfl
  refine ⟨(post_within kind subject fields s).same, post_reply .., post_masked .., post_watchdog .., ?_, ?_⟩
  · rw [← post_masked kind subject fields s]
    rfl
  · simp only [post_cp, ControlPort.enqueue_by_case]
    split
    · exact ⟨rfl, rfl⟩
    · split <;> exact ⟨rfl, rfl⟩

/-! ### FETCH_REPORTS and SET_REPORT_MASK (R8, R9) -/

/-- The bit of a report-kind set that stands for a number. -/
def maskBit (bytes : Bytes) (m : Nat) : Bool := (bytes.getD (m / 8) 0#8).getLsbD (m % 8)

theorem readMask_eq (bytes : Bytes) :
    readMask bytes =
      if maskBit bytes 0 || maskBit bytes 37 || maskBit bytes 38 || maskBit bytes 39 then none
      else some (ReportKind.all.filter (fun r => maskBit bytes r.code)) := rfl

/-- The numbers 1 to 36 are those of the report kinds. -/
theorem reportKind_has_code :
    ∀ m < 40, (ReportKind.all.any fun k => k.code == m) = !(m == 0 || m == 37 || m == 38 || m == 39) := by
  decide

/-- A set read from five bytes holds the kind of a number where its bit is set, if no bit without a kind is. -/
theorem any_code_filter {bytes : Bytes} {m : Nat} (hm : m < 40)
    (hfree : maskBit bytes 0 = false ∧ maskBit bytes 37 = false ∧ maskBit bytes 38 = false ∧ maskBit bytes 39 = false) :
    ((ReportKind.all.filter (fun r => maskBit bytes r.code)).any fun k => k.code == m) = maskBit bytes m := by
  obtain ⟨h0, h37, h38, h39⟩ := hfree
  have hsplit : ((ReportKind.all.filter (fun r => maskBit bytes r.code)).any fun k => k.code == m) =
      ((ReportKind.all.any fun k => k.code == m) && maskBit bytes m) := by
    rw [List.any_filter, Bool.eq_iff_iff]
    simp only [Bool.and_eq_true, List.any_eq_true, beq_iff_eq]
    constructor
    · rintro ⟨k, hk, hbit, rfl⟩
      exact ⟨⟨k, hk, rfl⟩, hbit⟩
    · rintro ⟨⟨k, hk, rfl⟩, hbit⟩
      exact ⟨k, hk, hbit, rfl⟩
  rw [hsplit, reportKind_has_code m hm]
  by_cases hnone : m = 0 ∨ m = 37 ∨ m = 38 ∨ m = 39
  · rcases hnone with rfl | rfl | rfl | rfl <;> simp [*]
  · obtain ⟨n0, n37, n38, n39⟩ : m ≠ 0 ∧ m ≠ 37 ∧ m ≠ 38 ∧ m ≠ 39 := by simpa using hnone
    simp [n0, n37, n38, n39]

/-- A byte is made of its bits. -/
theorem ofNat_bitsOf (b : Byte) : BitVec.ofNat 8 (bitsOf ((List.range 8).map b.getLsbD)) = b := by
  revert b
  decide

/-- A mask that names kinds alone is written back as it was read. -/
theorem maskField_readMask {b0 b1 b2 b3 b4 : Byte}
    (hfree : maskBit [b0, b1, b2, b3, b4] 0 = false ∧ maskBit [b0, b1, b2, b3, b4] 37 = false ∧
      maskBit [b0, b1, b2, b3, b4] 38 = false ∧ maskBit [b0, b1, b2, b3, b4] 39 = false) :
    maskField (ReportKind.all.filter (fun r => maskBit [b0, b1, b2, b3, b4] r.code)) = [b0, b1, b2, b3, b4] := by
  have hbyte (j : Nat) (hj : j < 5) :
      BitVec.ofNat 8 (bitsOf ((List.range 8).map fun i =>
        (ReportKind.all.filter (fun r => maskBit [b0, b1, b2, b3, b4] r.code)).any fun k => k.code == 8 * j + i)) =
      [b0, b1, b2, b3, b4].getD j 0#8 := by
    rw [← ofNat_bitsOf ([b0, b1, b2, b3, b4].getD j 0#8)]
    congr 2
    refine List.map_congr_left fun i hi => ?_
    have hi8 : i < 8 := List.mem_range.1 hi
    rw [any_code_filter (by omega) hfree]
    unfold maskBit
    rw [show (8 * j + i) / 8 = j by omega, show (8 * j + i) % 8 = i by omega]
  unfold maskField
  rw [show List.range 5 = [0, 1, 2, 3, 4] from rfl]
  simp only [List.map_cons, List.map_nil, hbyte 0 (by decide), hbyte 1 (by decide), hbyte 2 (by decide),
    hbyte 3 (by decide), hbyte 4 (by decide)]
  rfl

theorem accepted_setReportMask {o : OpState} (ho : o = .boot ∨ o = .config ∨ o = .run) :
    accepted .setReportMask o = true := by
  rcases ho with rfl | rfl | rfl <;> rfl

/-- Settles O6: the fetch by the rule itself, the mask by `maskField_readMask`. -/
theorem reportsFetchedAndMasked : Obligations.ReportsFetchedAndMasked := by
  unfold Obligations.ReportsFetchedAndMasked
  rintro s u w b0 b1 b2 b3 b4 l rfl rfl rfl
  refine ⟨fun hop => congrArg Host.Outcome.next ?_, fun hop =>
    ⟨fun hfree => congrArg Host.Outcome.next ?_, fun hnone => congrArg Host.Outcome.next ?_⟩⟩
  · refine request_accepting (act := answerFetch) rfl (accepted_anywhere (by simp) hop) ?_
    unfold answerFetch
    have hcount : (fetched (atRequest .fetchReports s)).length = min 4 (atRequest .fetchReports s).cp.reports.length :=
      List.length_take
    rw [hcount]
    simp only [List.append_assoc]
    rfl
  · refine request_accepting (act := answerMask [b0, b1, b2, b3, b4]) rfl (accepted_setReportMask hop) ?_
    have hread : readMask [b0, b1, b2, b3, b4] =
        some (ReportKind.all.filter fun r => maskBit [b0, b1, b2, b3, b4] r.code) := by
      rw [readMask_eq, if_neg]
      simp only [Bool.or_eq_true, not_or, Bool.not_eq_true, and_assoc]
      exact hfree
    unfold answerMask
    rw [hread]
    simp only [maskField_readMask (hfree : maskBit [b0, b1, b2, b3, b4] 0 = false ∧ _)]
    rfl
  · refine request_refusing (act := answerMask [b0, b1, b2, b3, b4]) rfl (accepted_setReportMask hop) ?_
    have hread : readMask [b0, b1, b2, b3, b4] = none := by
      rw [readMask_eq, if_pos]
      simp only [Bool.or_eq_true, or_assoc]
      exact hnone
    unfold answerMask
    rw [hread]

end Sys2Proof.Machine
end

section
/-! SUPPORT. Frames (R2, R3, R165): the frame of a command is read back, a changed byte is found by the check byte, and the
checks of length and operating state. -/

-- One declaration at a time: together they would start more threads than the check's memory limit has stacks for.
set_option Elab.async false

namespace Sys2Proof.Machine

/-! ### A request's frame, byte by byte -/

/-- The 63 bytes of a request frame before its check byte. -/
def frameFront (kind : Byte) (body : Bytes) : Bytes :=
  [requestSync, kind, BitVec.ofNat 8 body.length] ++ body ++ List.replicate (60 - body.length) 0#8

theorem requestFrame_eq (kind : Byte) (body : Bytes) :
    requestFrame kind body = frameFront kind body ++ [checkByte (frameFront kind body)] := by
  have hpad : 63 - ([requestSync, kind, BitVec.ofNat 8 body.length] ++ body).length = 60 - body.length := by
    simp only [List.length_append, List.length_cons, List.length_nil]
    omega
  unfold requestFrame
  dsimp only
  rw [hpad]
  rfl

theorem frameFront_length {kind : Byte} {body : Bytes} (h : body.length ≤ 60) : (frameFront kind body).length = 63 := by
  simp only [frameFront, List.length_append, List.length_cons, List.length_nil, List.length_replicate]
  omega

theorem requestFrame_length {kind : Byte} {body : Bytes} (h : body.length ≤ 60) :
    (requestFrame kind body).length = 64 := by
  rw [requestFrame_eq, List.length_append, frameFront_length h]
  rfl

/-- The kind byte, the length byte and the body stand where R2 looks for them. -/
theorem requestFrame_fields (kind : Byte) {body : Bytes} (h : body.length ≤ 60) :
    (requestFrame kind body).getD 0 0#8 = requestSync ∧ (requestFrame kind body).getD 1 0#8 = kind ∧
      ((requestFrame kind body).getD 2 0#8).toNat = body.length ∧
      ((requestFrame kind body).drop 3).take body.length = body := by
  rw [requestFrame_eq]
  refine ⟨rfl, rfl, ?_, ?_⟩
  · show (BitVec.ofNat 8 body.length).toNat = body.length
    rw [BitVec.toNat_ofNat]
    omega
  · show ((body ++ _) ++ _).take body.length = body
    rw [List.append_assoc, List.take_left]

/-- A frame of 64 bytes is good where its SYNC, its length byte and its check byte are. -/
theorem isGoodFrame_iff {front : Bytes} (c : Byte) (h : front.length = 63) :
    isGoodFrame (front ++ [c]) = true ↔
      front.getD 0 0#8 = requestSync ∧ (front.getD 2 0#8).toNat ≤ 60 ∧ c = checkByte front := by
  have hfirst (j : Nat) (hj : j < 63) : (front ++ [c]).getD j 0#8 = front.getD j 0#8 := by
    simp [List.getD_eq_getElem?_getD, List.getElem?_append_left (h ▸ hj)]
  have hlast : (front ++ [c]).getD 63 0#8 = c := by
    simp [List.getD_eq_getElem?_getD, h]
  have htake : (front ++ [c]).take 63 = front := by rw [← h, List.take_left]
  simp only [isGoodFrame, hfirst 0 (by omega), hfirst 2 (by omega), hlast, htake, List.length_append, h, maxBody,
    Bool.and_eq_true, decide_eq_true_eq, beq_iff_eq, and_assoc]
  simp

theorem isGoodFrame_requestFrame (kind : Byte) {body : Bytes} (h : body.length ≤ 60) :
    isGoodFrame (requestFrame kind body) = true := by
  obtain ⟨_, _, hlen, _⟩ := requestFrame_fields kind h
  rw [requestFrame_eq, isGoodFrame_iff _ (frameFront_length h)]
  refine ⟨rfl, ?_, rfl⟩
  rw [show ((frameFront kind body).getD 2 0#8).toNat = body.length from hlen]
  exact h

/-- A request frame whose kind byte names a request is that request (R2 check 5). -/
theorem receive_of_known {kind : Byte} {k : Kind} {body : Bytes} (h : body.length ≤ 60) (hk : Kind.ofCode kind = some k) :
    receive (requestFrame kind body) = Instr.ofRequest k body := by
  obtain ⟨_, hkind, hlen, hbody⟩ := requestFrame_fields kind h
  simp only [receive, if_pos (isGoodFrame_requestFrame kind h), hkind, hlen, hbody, hk]

theorem receive_of_unknown {kind : Byte} {body : Bytes} (h : body.length ≤ 60) (hk : Kind.ofCode kind = none) :
    receive (requestFrame kind body) = .unknownKind kind := by
  obtain ⟨_, hkind, _, _⟩ := requestFrame_fields kind h
  simp only [receive, if_pos (isGoodFrame_requestFrame kind h), hkind, hk]

/-! ### Commands and their frames -/

theorem ofCode_code (k : Kind) : Kind.ofCode k.code = some k := by
  cases k <;> rfl

theorem ofRequest_of_request {i : Instr} {k : Kind} {body : Bytes} (h : i.request = some (k, body)) :
    Instr.ofRequest k body = i := by
  cases i <;> cases h <;> rfl

theorem frame_of_request {i : Instr} {k : Kind} {body : Bytes} (h : i.request = some (k, body)) :
    i.frame = some (requestFrame k.code body) := by
  cases i <;> cases h <;> rfl

theorem wellFormed_of_request {i : Instr} {k : Kind} {body : Bytes} (h : i.request = some (k, body)) :
    i.wellFormed = decide (body.length ≤ 60) := by
  cases i <;> cases h <;> rfl

/-- A command with a frame is a transfer the part turned away, a frame of no request kind, or a request. -/
theorem frame_cases {i : Instr} {f : Bytes} (h : i.frame = some f) :
    i = .frameError f ∨ (∃ kind, i = .unknownKind kind ∧ f = requestFrame kind []) ∨
      ∃ k body, i.request = some (k, body) ∧ f = requestFrame k.code body := by
  cases hr : i.request with
  | some kb =>
    obtain ⟨k, body⟩ := kb
    exact .inr (.inr ⟨k, body, rfl, Option.some.inj (h.symm.trans (frame_of_request hr))⟩)
  | none =>
    cases i with
    | frameError received => exact .inl (congrArg _ (Option.some.inj h))
    | unknownKind kind => exact .inr (.inl ⟨kind, rfl, (Option.some.inj h).symm⟩)
    | _ => cases hr <;> cases h

/-- Settles O2, by the three kinds of command that have a frame (`frame_cases`). -/
theorem sentFramesAreReadBack : Obligations.SentFramesAreReadBack := by
  unfold Obligations.SentFramesAreReadBack
  intro i f hwf hf
  rcases frame_cases hf with rfl | ⟨kind, rfl, rfl⟩ | ⟨k, body, hr, rfl⟩
  · obtain ⟨hlen, hbad⟩ : f.length ≤ 64 ∧ isGoodFrame f = false := by simpa [Instr.wellFormed] using hwf
    refine ⟨?_, hlen⟩
    unfold receive
    rw [if_neg (by simp [hbad]), List.take_of_length_le hlen]
  · have hnone : Kind.ofCode kind = none := by simpa [Instr.wellFormed] using hwf
    refine ⟨?_, Nat.le_of_eq (requestFrame_length (Nat.zero_le _))⟩
    exact receive_of_unknown (Nat.zero_le _) hnone
  · have hlen : body.length ≤ 60 := by simpa [wellFormed_of_request hr] using hwf
    refine ⟨?_, Nat.le_of_eq (requestFrame_length hlen)⟩
    rw [receive_of_known hlen (ofCode_code k)]
    exact ofRequest_of_request hr

/-! ### The check byte finds a changed byte -/

/-- The shift undone. -/
def crcUnshift (r : Byte) : Byte := if r.getLsbD 0 then ((r ^^^ 0x1D#8) >>> 1) ||| 0x80#8 else r >>> 1

theorem crcUnshift_crcShift (r : Byte) : crcUnshift (crcShift r) = r := by
  revert r
  decide

theorem crcShift_injective : Function.Injective crcShift := Function.LeftInverse.injective crcUnshift_crcShift

/-- One byte taken into the register is eight shifts of its sum with the register. -/
theorem crcByte_eq (r b : Byte) : crcByte r b = crcShift^[8] (r ^^^ b) := rfl

theorem crcByte_inj {r r' b b' : Byte} : crcByte r b = crcByte r' b' ↔ r ^^^ b = r' ^^^ b' := by
  rw [crcByte_eq, crcByte_eq, (crcShift_injective.iterate 8).eq_iff]

/-- Two runs of bytes that follow each other with the same bytes end in the same register from the same register alone. -/
theorem foldl_crcByte_inj (bs : Bytes) {r r' : Byte} : bs.foldl crcByte r = bs.foldl crcByte r' ↔ r = r' := by
  induction bs generalizing r r' with
  | nil => rfl
  | cons b bs ih => rw [List.foldl_cons, List.foldl_cons, ih, crcByte_inj, BitVec.xor_left_inj]

/-- One changed byte changes the check byte. -/
theorem checkByte_set_ne {bs : Bytes} {j : Nat} {x : Byte} (hj : j < bs.length) (hx : x ≠ bs[j]) :
    checkByte (bs.set j x) ≠ checkByte bs := by
  intro h
  have hold : bs = bs.take j ++ bs[j] :: bs.drop (j + 1) := by
    rw [← List.drop_eq_getElem_cons hj, List.take_append_drop]
  have hnew : bs.set j x = bs.take j ++ x :: bs.drop (j + 1) := List.set_eq_take_cons_drop x hj
  unfold checkByte at h
  rw [BitVec.xor_left_inj, hnew, List.foldl_append, List.foldl_cons] at h
  conv at h => rhs; rw [hold, List.foldl_append, List.foldl_cons]
  rw [foldl_crcByte_inj, crcByte_inj, BitVec.xor_right_inj] at h
  exact hx h

/-- A frame of which one byte is changed is not a good frame (R3). -/
theorem isGoodFrame_set {kind : Byte} {body : Bytes} {j : Nat} {x : Byte} (h : body.length ≤ 60) (hj : j < 64)
    (hx : x ≠ (requestFrame kind body).getD j 0#8) : isGoodFrame ((requestFrame kind body).set j x) = false := by
  have hfront : (frameFront kind body).length = 63 := frameFront_length h
  rw [requestFrame_eq] at hx ⊢
  refine Bool.eq_false_iff.2 fun hgood => ?_
  by_cases hlast : j = 63
  · rw [hlast, List.set_append_right _ _ (Nat.le_of_eq hfront), hfront] at hgood
    obtain ⟨_, _, hcheck⟩ := (isGoodFrame_iff x hfront).1 hgood
    refine hx ?_
    rw [hcheck, hlast]
    simp [List.getD_eq_getElem?_getD, hfront]
  · have hin : j < (frameFront kind body).length := by omega
    rw [List.set_append_left _ _ hin] at hgood
    obtain ⟨_, _, hcheck⟩ := (isGoodFrame_iff _ (by rw [List.length_set, hfront])).1 hgood
    refine checkByte_set_ne hin (fun heq => hx ?_) hcheck.symm
    rw [heq]
    simp [List.getD_eq_getElem?_getD, List.getElem?_append_left hin, List.getElem?_eq_getElem hin]

/-! ### Refusals -/

/-- Every request is checked in one way and then handed to its kind's own rule. -/
theorem exec_request {i : Instr} {k : Kind} {body : Bytes} (h : i.request = some (k, body)) :
    ∃ act, ∀ s, exec i s = .next (request k body act s) := by
  cases i <;> cases h <;> exact ⟨_, fun _ => rfl⟩

/-- The state check of R16, by the kinds that a state does not accept. -/
theorem accepted_eq_false {k : Kind} {o : OpState}
    (h : (o = .boot ∧ k ∉ [Kind.poll, .fetchReports, .getPartState, .setReportMask]) ∨
      (o = .standby ∧ k ∉ [Kind.poll, .fetchReports, .getPartState, .restart, .wake]) ∨
      (o = .config ∧
        k ∈ [Kind.wake, .promptStart, .promptEnd, .chimeRequest, .chimeCancel, .tune, .step, .seek, .setReception,
          .getStation, .scanNow, .setScan, .setFollow, .setTrafficWatch, .trafficSkip, .rearTune, .callState,
          .callRoute, .setUplinkMute, .setMicPolicy]) ∨
      (o = .run ∧ k ∈ [Kind.wake, .startAudio, .setInstall, .loadTest])) : accepted k o = false := by
  rcases h with ⟨rfl, hk⟩ | ⟨rfl, hk⟩ | ⟨rfl, hk⟩ | ⟨rfl, hk⟩ <;> revert hk <;> cases k <;> decide

/-- Settles O3: a changed byte is found by the check byte (`isGoodFrame_set`), and every request is refused before its own rule
where its length or the state forbids it. -/
theorem framesAreTurnedAway : Obligations.FramesAreTurnedAway := by
  unfold Obligations.FramesAreTurnedAway
  refine ⟨?_, ?_, ?_⟩
  · rintro s u received kind rfl
    exact ⟨rfl, rfl⟩
  · intro kind body j x hbody hj hx
    unfold receive
    rw [if_neg (by simp [isGoodFrame_set hbody hj hx]), List.take_of_length_le]
    rw [List.length_set, requestFrame_length hbody]
  · rintro i k body s u hr rfl
    obtain ⟨act, hexec⟩ := exec_request hr
    refine ⟨fun hlen => ?_, fun hlen hstate => ?_⟩
    · rw [hexec, request_badLength k body act s hlen]
    · rw [hexec, request_wrongState k body act s hlen (accepted_eq_false hstate)]

end Sys2Proof.Machine
end

section
/-! SUPPORT. The resets and the end of BOOT (R5, R14, R22, R25, R33, R34, R67, R72 to R74, R81, R85, R86, R99, R107, R121, R124,
R128, R141, R153, R156, R163). -/

-- One declaration at a time: together they would start more threads than the check's memory limit has stacks for.
set_option Elab.async false

namespace Sys2Proof.Machine

/-- The end of BOOT, written out. -/
theorem exec_initialisationComplete (s : State) (h : s.sc.opState = .boot) :
    exec .initialisationComplete s =
      .next (settle (post .partReady 0
        [byte s.sc.resetCause.code, byte s.safety.locked.toNat, byte (installComplete s.install).toNat,
          byte (rolesWritten s.install)]
        (receipt .callActive 0
          { s with
            sc := { s.sc with opState := .config }
            zr := { s.zr with
              hps := ⟨{ s.zr.hps.hpl with jack := hpIsFitted s .hpl && s.pins.jack.hpl },
                { s.zr.hps.hpr with jack := hpIsFitted s .hpr && s.pins.jack.hpr }⟩ } }))) := by
  have hrun : exec .initialisationComplete s = .next (settle (initialised s)) := congrArg Host.Outcome.next (if_pos h)
  have hreceipt (t : State) : (receipt .callActive 0 t).sc = t.sc ∧ (receipt .callActive 0 t).safety = t.safety ∧
      (receipt .callActive 0 t).install = t.install := by
    rw [receipt_eq]
    exact ⟨rfl, rfl, rfl⟩
  rw [hrun]
  unfold initialised postPartReady
  obtain ⟨hsc, hsafety, hinstall⟩ := hreceipt (senseJacks (s.modSc fun c => { c with opState := .config }))
  rw [hsc, hsafety, hinstall]
  rfl

theorem reset_install :
    State.reset.install.variant = none ∧ (∀ k : Amp, State.reset.install.ampRole[k] = none) ∧
      (∀ k : Dout, State.reset.install.doutRole[k] = none) ∧ (∀ p : Fin 5, State.reset.install.bridge[p] = none) ∧
      State.reset.install.hpFitted = ⟨none, none⟩ ∧ State.reset.install.micFitted = ⟨none, none, none, none⟩ ∧
      State.reset.install.clockRole = none := by
  decide

theorem reset_safety :
    State.reset.safety =
      ⟨⟨1000, ⟨.hold, .hold, .hold, .hold, .hold⟩, none, ⟨true, false, false⟩, .num 24, -80, 0, 4, []⟩, false, false⟩ := by
  decide

theorem reset_zones :
    State.reset.zr.cabin = ⟨none, 16, 24, 22, 22, 0, 0, 2, none⟩ ∧
      (∀ z : Zone, listOf State.reset z = [⟨.base, none, false⟩] ∧ muteOf State.reset z = false ∧
        quietOf State.reset z = false) ∧
      (∀ h : Hp, ((State.reset.zr.hps.get h).base, (State.reset.zr.hps.get h).volBase,
        (State.reset.zr.hps.get h).volCall, (State.reset.zr.hps.get h).ceiling) = (none, 12, 20, 30)) ∧
      State.reset.zr.ducks = ⟨.full, .num 40, .full⟩ ∧ State.reset.zr.trims = ⟨0, 0, 0, 0, 0, 0⟩ ∧
      State.reset.zr.clockLost = false := by
  refine ⟨rfl, fun z => ?_, fun h => ?_, rfl, rfl, rfl⟩
  · rcases z with c | h
    · cases c <;> exact ⟨rfl, rfl, rfl⟩
    · cases h <;> exact ⟨rfl, rfl, rfl⟩
  · cases h <;> rfl

theorem reset_voicing (c : Fin 18) :
    State.reset.ge.voicing[c].record.trim = 0 ∧ State.reset.ge.voicing[c].record.processing.delay = 0 ∧
      ∀ j : Fin 5, State.reset.ge.voicing[c].record.processing.bands[j] = ⟨.off, 1000, 0, 7⟩ := by
  rw [show State.reset.ge.voicing[c] = ChannelVoicing.reset by simp [State.reset, GainEngine.reset]]
  decide

theorem reset_heldValue (q : Quantity) :
    heldValue State.reset q = if q ∈ [Quantity.speed, .reverse, .tailgate, .ignition] then some 0 else none := by
  cases q <;> rfl

theorem reset_receiver (x : Rx) :
    receiver State.reset x = ⟨.idle, ⟨.fm, 0⟩, none, none, .off, DataRecord.empty⟩ := by
  cases x <;> rfl

theorem reset_outputs :
    (∀ k : Amp, (State.reset.os.amps[k].state, State.reset.os.amps[k].startPending,
      State.reset.os.amps[k].restartMark, State.reset.os.amps[k].result, State.reset.os.amps[k].faults) =
        (.unused, false, false, .untested, [])) ∧
      (∀ k : Dout, State.reset.os.douts[k] = .unused) := by
  decide

/-- Settles O9, block by block. -/
theorem powerOnResetThenConfig : Obligations.PowerOnResetThenConfig := by
  unfold Obligations.PowerOnResetThenConfig
  intro s
  refine ⟨rfl, exec_initialisationComplete s, fun h => ?_, ?_⟩
  · exact congrArg Host.Outcome.next (if_neg h)
  · refine ⟨rfl, rfl, reset_install, reset_safety, ?_⟩
    obtain ⟨hcabin, hzones, hhps, hducks, htrims, hclock⟩ := reset_zones
    obtain ⟨hamps, hdouts⟩ := reset_outputs
    exact ⟨hcabin, hzones, hhps, hducks, htrims, hclock, reset_voicing, reset_heldValue, by decide, rfl, by decide, rfl, rfl, rfl,
      rfl, reset_receiver, rfl, rfl, rfl, rfl, rfl, rfl, rfl, rfl, rfl, rfl, rfl, rfl, rfl, rfl, rfl, rfl, hamps, hdouts, rfl,
      rfl, rfl, rfl, rfl, rfl, rfl⟩

end Sys2Proof.Machine
end

section
/-! SUPPORT. The quiet flags (R52) and what a good frame does before its request is checked (R11, R12, R20, R84). -/

-- One declaration at a time: together they would start more threads than the check's memory limit has stacks for.
set_option Elab.async false

namespace Sys2Proof.Machine

/-! ### Quiet flags -/

/-- From one state to another the Zone Router has changed in its quiet flags alone. -/
structure QuietOnly (s t : State) : Prop where
  cabin : t.zr.cabin = s.zr.cabin
  ducks : t.zr.ducks = s.zr.ducks
  trims : t.zr.trims = s.zr.trims
  clockLost : t.zr.clockLost = s.zr.clockLost
  lostMs : t.zr.lostMs = s.zr.lostMs
  zones : ∀ c, t.zr.zones.get c = { s.zr.zones.get c with quiet := quietOf t (.cabin c) }
  hps : ∀ h, t.zr.hps.get h = { s.zr.hps.get h with quiet := quietOf t (.hp h) }

theorem QuietOnly.of_zr_eq {s t : State} (h : t.zr = s.zr) : QuietOnly s t := by
  constructor <;> intros <;> simp only [quietOf, h]

theorem QuietOnly.trans {s t u : State} (h : QuietOnly s t) (h' : QuietOnly t u) : QuietOnly s u where
  cabin := h'.cabin.trans h.cabin
  ducks := h'.ducks.trans h.ducks
  trims := h'.trims.trans h.trims
  clockLost := h'.clockLost.trans h.clockLost
  lostMs := h'.lostMs.trans h.lostMs
  zones c := by rw [h'.zones c, h.zones c]
  hps k := by rw [h'.hps k, h.hps k]

theorem QuietOnly.foldl {α : Type} {f : State → α → State} (h : ∀ s a, QuietOnly s (f s a)) (l : List α) (s : State) :
    QuietOnly s (l.foldl f s) := by
  induction l generalizing s with
  | nil => exact .of_zr_eq rfl
  | cons a l ih => exact (h s a).trans (ih _)

section
variable {s t : State} (h : QuietOnly s t)
include h

theorem QuietOnly.listOf_eq (z : Zone) : listOf t z = listOf s z := by
  cases z <;> simp only [listOf, h.zones, h.hps]

theorem QuietOnly.muteOf_eq (z : Zone) : muteOf t z = muteOf s z := by
  cases z <;> simp only [muteOf, h.zones, h.hps]

theorem QuietOnly.baseOf_eq (z : Zone) : baseOf t z = baseOf s z := by
  cases z <;> simp only [baseOf, h.cabin, h.hps]

end

/-- The Zone Router with one quiet flag set. -/
def ZoneRouter.withQuiet (z : Zone) (q : Bool) (r : ZoneRouter) : ZoneRouter :=
  match z with
  | .cabin c => { r with zones := r.zones.set c { r.zones.get c with quiet := q } }
  | .hp h => { r with hps := r.hps.set h { r.hps.get h with quiet := q } }

theorem setQuiet_zr (z : Zone) (q : Bool) (s : State) : (setQuiet z q s).zr = s.zr.withQuiet z q := by
  unfold setQuiet
  split
  · rename_i hq
    subst hq
    rcases z with c | k
    · cases c <;> rfl
    · cases k <;> rfl
  · cases z <;> rfl

theorem quietOf_setQuiet (z y : Zone) (q : Bool) (s : State) :
    quietOf (setQuiet z q s) y = if y = z then q else quietOf s y := by
  rcases z with c | k <;> rcases y with d | g <;> simp only [quietOf, setQuiet_zr, ZoneRouter.withQuiet]
  · simp only [PerCabin.get_set, Zone.cabin.injEq]
    split <;> rfl
  · simp
  · simp
  · simp only [PerHp.get_set, Zone.hp.injEq]
    split <;> rfl

theorem setQuiet_quietOnly (z : Zone) (q : Bool) (s : State) : QuietOnly s (setQuiet z q s) := by
  have hzr := setQuiet_zr z q s
  rcases z with c | k
  · constructor
    case zones =>
      intro d
      rw [quietOf_setQuiet, hzr]
      simp only [ZoneRouter.withQuiet, PerCabin.get_set, Zone.cabin.injEq]
      split
      · simp_all
      · rfl
    case hps =>
      intro g
      rw [quietOf_setQuiet, hzr]
      rfl
    all_goals rw [hzr]; rfl
  · constructor
    case zones =>
      intro d
      rw [quietOf_setQuiet, hzr]
      rfl
    case hps =>
      intro g
      rw [quietOf_setQuiet, hzr]
      simp only [ZoneRouter.withQuiet, PerHp.get_set, Zone.hp.injEq]
      split
      · simp_all
      · rfl
    all_goals rw [hzr]; rfl

theorem liftQuiet_quietOnly (s : State) : QuietOnly s (liftQuiet s) :=
  .foldl (fun s z => setQuiet_quietOnly z false s) Zone.all s

theorem quietOf_liftQuiet (s : State) (z : Zone) : quietOf (liftQuiet s) z = false := by
  simp only [liftQuiet, Zone.all, List.foldl_cons, List.foldl_nil, quietOf_setQuiet]
  rcases z with c | k
  · cases c <;> rfl
  · cases k <;> rfl

/-! ### The arrival of a frame -/

/-- An event report is queued where there is room (R7). -/
theorem mem_post_of_event {kind : ReportKind} {subject : Nat} {fields : Bytes} {s : State}
    (he : kind.isChange = false) (hroom : s.cp.reports.length < 24) :
    (⟨kind, subject, reportData fields⟩ : Report) ∈ (post kind subject fields s).cp.reports := by
  simp only [post_cp, ControlPort.enqueue_by_case, he, Bool.false_eq_true, false_and, if_false, if_pos hroom]
  exact List.mem_append_right _ (List.mem_singleton.2 rfl)

theorem arrival_patterns (kind : Byte) (s : State) :
    (arrival kind s).patterns = { s.patterns with load := if kind = 0x1d#8 then s.patterns.load else none } := by
  have hpatterns : (goodFrame s).patterns = s.patterns := by rw [goodFrame_eq]
  unfold arrival
  rw [show Kind.patternSegment.code = 0x1d#8 from rfl]
  split
  · exact hpatterns
  · simp [endLoad, hpatterns]

/-- A frame's arrival ends load mode after the good-frame signal, and does nothing else (R84). -/
theorem arrival_after_goodFrame (kind : Byte) (s : State) : Within [.patterns] (goodFrame s) (arrival kind s) :=
  .ite .refl (endLoad_within _)

theorem arrival_cp (kind : Byte) (s : State) : (arrival kind s).cp = (goodFrame s).cp := by
  unfold arrival
  split <;> rfl

/-- Where the link is not to be restored, the good-frame signal sets the watchdog alone (R11). -/
theorem goodFrame_of_linked {s : State} (h : s.cp.watchdog ≠ .expired ∨ s.sc.opState ≠ .failsafe) :
    goodFrame s = setWatchdog (s.cp.watchdog.restarted s.safety.config.watchdogMs) s := by
  cases hw : s.cp.watchdog with
  | stopped => rw [goodFrame_of_stopped hw, Watchdog.restarted, ← hw, setWatchdog_self]
  | counting n => exact goodFrame_of_counting hw
  | expired =>
    have hop : s.sc.opState ≠ .failsafe := h.resolve_left (by simp [hw])
    rw [goodFrame_of_expired hw]
    exact if_neg hop

/-- In FAILSAFE the good frame restores the link (R12, R20). -/
theorem goodFrame_of_lost {s : State} (hw : s.cp.watchdog = .expired) (hop : s.sc.opState = .failsafe) :
    goodFrame s = liftQuiet (post .failsafeLeft 0 (u16 (min (s.sc.failsafeMs / 100) 65535))
      ((setWatchdog (.counting s.safety.config.watchdogMs) s).modSc (fun c => { c with opState := .run }))) := by
  rw [goodFrame_of_expired hw]
  exact if_pos hop

/-- Settles O4, by whether the link has to be restored (`goodFrame_of_linked`, `goodFrame_of_lost`). -/
theorem goodFrameRestoresTheLink : Obligations.GoodFrameRestoresTheLink := by
  unfold Obligations.GoodFrameRestoresTheLink
  rintro s u kind rfl
  have hafter := arrival_after_goodFrame kind s
  have hposted := (arrival_within kind s).posted
  have hdog : keepsBut [.cp] s (setWatchdog (s.cp.watchdog.restarted s.safety.config.watchdogMs) s) :=
    fun b hb => by cases b <;> simp [Block.same, setWatchdog] at hb ⊢
  refine ⟨arrival_patterns kind s, fun hstopped => ?_, fun hrunning => ⟨?_, hposted.reply_eq, hposted.masked_eq⟩,
    fun hlinked => ?_, fun hexpired hlost => ?_⟩
  · rw [goodFrame_of_stopped hstopped] at hafter
    intro b hb
    by_cases hcp : b = .cp
    · rw [hcp]
      exact (arrival_cp kind s).trans (congrArg State.cp (goodFrame_of_stopped hstopped))
    · exact hafter.same b (by simp_all)
  · rw [arrival_watchdog]
    cases hw : s.cp.watchdog with
    | stopped => exact absurd hw hrunning
    | counting n => rfl
    | expired => rfl
  · have hcp : (arrival kind s).cp = { s.cp with watchdog := s.cp.watchdog.restarted s.safety.config.watchdogMs } := by
      rw [arrival_cp, goodFrame_of_linked hlinked]
      rfl
    rw [goodFrame_of_linked hlinked] at hafter
    refine ⟨fun b hb => ?_, ?_⟩
    · exact Block.same_trans (hdog b (by simp_all)) (hafter.same b (by simp_all))
    · rw [hcp]
      exact ⟨rfl, rfl, rfl⟩
  · have hzr : (arrival kind s).zr = (goodFrame s).zr := hafter.zr_eq
    have hlift : QuietOnly s (goodFrame s) := by
      rw [goodFrame_of_lost hexpired hlost]
      refine QuietOnly.trans ?_ (liftQuiet_quietOnly _)
      exact .of_zr_eq rfl
    have hquiet : QuietOnly s (arrival kind s) := hlift.trans (.of_zr_eq hzr)
    have hoff (z : Zone) : quietOf (arrival kind s) z = false := by
      rw [← quietOf_liftQuiet _ z, ← goodFrame_of_lost hexpired hlost]
      cases z <;> simp only [quietOf, hzr]
    refine ⟨?_, fun z => ⟨hoff z, hquiet.muteOf_eq z, hquiet.listOf_eq z, hquiet.baseOf_eq z⟩, hquiet.cabin, hquiet.ducks,
      hquiet.trims, fun k => ?_, hquiet.clockLost, hquiet.lostMs, fun hroom => ?_, fun b hb => ?_⟩
    · rw [arrival_sc, if_pos ⟨hexpired, hlost⟩]
    · rw [hquiet.hps k, hoff]
    · rw [arrival_cp, goodFrame_of_lost hexpired hlost]
      exact (liftQuiet_within _).posted.mem_of_event (mem_post_of_event rfl hroom) rfl
    · exact Block.same_trans (hdog b (by simp_all)) ((arrival_within kind s).same b (by simp_all))

end Sys2Proof.Machine
end

section
/-! SUPPORT. The four reads (R13, R22, R43, R118): GET_PART_STATE, GET_INSTALL, GET_ZONE and GET_STATION. -/

-- One declaration at a time: together they would start more threads than the check's memory limit has stacks for.
set_option Elab.async false

namespace Sys2Proof.Machine

/-! ### GET_INSTALL -/

/-- The body of GET_INSTALL's reply. -/
def installRecord (i : Install) : Bytes :=
  codeField i.variant ++
    ((Amp.all.map (fun k => roleField i.ampRole[k] ++
      (if k.val % 2 = 1 then bit (isBridgedEven i k) else []))).flatten ++
    ((Dout.all.map (fun k => roleField i.doutRole[k])).flatten ++
    ((i.bridge.toList.map flagField).flatten ++
    (flagField i.hpFitted.hpl ++ flagField i.hpFitted.hpr ++
    (flagField i.micFitted.fl ++ flagField i.micFitted.fr ++
    (flagField i.micFitted.rl ++ flagField i.micFitted.rr ++
    opt8 (i.clockRole.map ClockRole.code)))))))

theorem answerGetInstall_eq (s : State) : answerGetInstall s = accept s (installRecord s.install) := by
  have heven (k : Amp) : isEvenAmp k = true ↔ k.val % 2 = 1 := beq_iff_eq
  unfold answerGetInstall installRecord
  simp only [heven, Hp.all, Mic.all, List.map_cons, List.map_nil, List.flatten_cons, List.flatten_nil, List.append_nil,
    List.append_assoc]
  rfl

theorem roleField_length (r : Option Role) : (roleField r).length = 2 := by
  unfold roleField
  split <;> rfl

theorem flatten_length_of_const {α : Type} {n : Nat} {f : α → Bytes} (l : List α) (h : ∀ a, (f a).length = n) :
    (l.map f).flatten.length = n * l.length := by
  simp [List.length_flatten, h, Function.comp_def, Nat.mul_comm]

theorem installRecord_length (i : Install) : (installRecord i).length = 52 := by
  have hdouts := flatten_length_of_const (n := 2) Dout.all (fun k => roleField_length i.doutRole[k])
  have hbridge := flatten_length_of_const (n := 1) i.bridge.toList (f := flagField) (fun _ => rfl)
  have hamps : (Amp.all.map (fun k => roleField i.ampRole[k] ++
      (if k.val % 2 = 1 then bit (isBridgedEven i k) else []))).flatten.length = 25 := by
    simp [Amp.all, roleField_length, bit, u8]
  unfold installRecord
  simp only [List.length_append, hamps, hdouts, hbridge, Vector.length_toList]
  rfl

theorem accepted_getInstall {o : OpState} (ho : o = .config ∨ o = .run) : accepted .getInstall o = true := by
  rcases ho with rfl | rfl <;> rfl

/-! ### GET_ZONE -/

theorem readZone_code (z : Zone) : readZone (byte (zoneCode z)) = some z := by
  rcases z with c | k
  · cases c <;> rfl
  · cases k <;> rfl

theorem readZone_none {b : Byte} (h : 5 ≤ b.toNat) : readZone b = none := by
  refine List.find?_eq_none.2 fun z _ => ?_
  have hlt : zoneCode z < 5 := by
    rcases z with c | k
    · cases c <;> decide
    · cases k <;> decide
  simp only [beq_iff_eq]
  omega

theorem accepted_getZone {o : OpState} (ho : o = .config ∨ o = .run) : accepted .getZone o = true := by
  rcases ho with rfl | rfl <;> rfl

theorem answerGetZone_code (z : Zone) (s : State) :
    answerGetZone [byte (zoneCode z)] s =
      accept s (zoneRecord s z ++ [Config.presence (basePresent s z), byte (listOf s z).length] ++
        ((listOf s z).map entryField).flatten ++ trimsField s.zr.trims) := by
  unfold answerGetZone
  simp only [readZone_code, List.append_assoc]
  rfl

/-! ### GET_STATION -/

/-- A station's record is read by the position that its station stands at first. -/
theorem answerStation_found {s : State} {sel x hi lo : Byte} {st : Station} {n : Nat} {e : ListEntry}
    (hname : (readStationName sel x hi lo).bind (resolveStation s) = some st)
    (hpos : s.slm.entries.findIdx? (fun y => y.station == st) = some n) (hentry : listEntry s st = some e) :
    answerStation [sel, x, hi, lo] s = accept s (stationRecord s n e) := by
  simp only [answerStation, hname, hpos, hentry]

theorem answerStation_unnamed {s : State} {sel x hi lo : Byte}
    (hname : (readStationName sel x hi lo).bind (resolveStation s) = none) :
    answerStation [sel, x, hi, lo] s = refuse s .outOfRange := by
  simp only [answerStation, hname]

theorem answerStation_unlisted {s : State} {sel x hi lo : Byte} {st : Station}
    (hname : (readStationName sel x hi lo).bind (resolveStation s) = some st) (hentry : listEntry s st = none) :
    answerStation [sel, x, hi, lo] s = refuse s .outOfRange := by
  simp only [answerStation, hname, hentry]
  split
  · contradiction
  · rfl

/-- A position names the station that the list holds there. -/
theorem resolve_position (s : State) (x : Byte) :
    (readStationName 0#8 x 0#8 0#8).bind (resolveStation s) = (s.slm.entries[x.toNat]?).map ListEntry.station := rfl

theorem readBand_code (b : Band) : readBand (byte (bandCode b)) = some b := by
  cases b <;> rfl

/-- Two bytes carry a number below 65536. -/
theorem nat16_u16 {n : Nat} (h : n < 65536) : nat16 (BitVec.ofNat 8 (n / 256)) (BitVec.ofNat 8 n) = n := by
  simp only [nat16, BitVec.toNat_ofNat]
  omega

/-- Band and index name a station of the grid. -/
theorem resolve_station (s : State) {st : Station} (h : st.inGrid = true) :
    (readStationName 1#8 (byte (bandCode st.band)) (BitVec.ofNat 8 (st.index / 256)) (BitVec.ofNat 8 st.index)).bind
      (resolveStation s) = some st := by
  have hgrid : st.index ≤ topIndex st.band := by simpa [Station.inGrid] using h
  have htop : topIndex st.band < 65536 := by cases st.band <;> decide
  have hread : readStation (byte (bandCode st.band)) (BitVec.ofNat 8 (st.index / 256)) (BitVec.ofNat 8 st.index) =
      some st := by
    simp only [readStation, readBand_code, nat16_u16 (Nat.lt_of_le_of_lt hgrid htop), if_pos hgrid]
  simp only [readStationName, hread]
  rfl

theorem accepted_getStation {o : OpState} (ho : o = .run) : accepted .getStation o = true := by
  rw [ho]
  rfl

/-- Settles O23, by each read's own rule. -/
theorem recordsAreReadUnchanged : Obligations.RecordsAreReadUnchanged := by
  unfold Obligations.RecordsAreReadUnchanged
  constructor
  · rintro s u1 u2 u3 z zb x n e body rfl rfl rfl rfl
    refine ⟨fun hop => ⟨?_, ?_⟩, fun hop => ⟨?_, fun hz => ?_⟩, fun hop => ⟨fun hx he hpos => ?_, fun hx => ?_,
      fun hgrid he hpos => ?_, fun hgrid he => ?_⟩⟩
    · exact installRecord_length _
    · exact congrArg Host.Outcome.next
        (request_accepting (act := answerGetInstall) rfl (accepted_getInstall hop) (answerGetInstall_eq _))
    · exact congrArg Host.Outcome.next
        (request_accepting (act := answerGetZone _) rfl (accepted_getZone hop) (answerGetZone_code z _))
    · refine congrArg Host.Outcome.next (request_refusing (act := answerGetZone [zb]) rfl (accepted_getZone hop) ?_)
      simp only [answerGetZone, readZone_none hz]
    · refine congrArg Host.Outcome.next
        (request_accepting (act := answerStation _) rfl (accepted_getStation hop) (answerStation_found ?_ hpos he))
      rw [resolve_position, hx]
      rfl
    · refine congrArg Host.Outcome.next
        (request_refusing (act := answerStation _) rfl (accepted_getStation hop) (answerStation_unnamed ?_))
      rw [resolve_position, List.getElem?_eq_none hx]
      rfl
    · exact congrArg Host.Outcome.next
        (request_accepting (act := answerStation _) rfl (accepted_getStation hop)
          (answerStation_found (resolve_station _ hgrid) hpos he))
    · exact congrArg Host.Outcome.next
        (request_refusing (act := answerStation _) rfl (accepted_getStation hop)
          (answerStation_unlisted (resolve_station _ hgrid) he))
  · rintro s u rfl hop
    refine congrArg Host.Outcome.next
      (request_accepting (act := answerPartState) rfl (accepted_anywhere (by simp) hop) ?_)
    unfold answerPartState
    simp only [List.append_assoc]
    rfl

end Sys2Proof.Machine
end

section
/-! SUPPORT. What the chime operations keep (R47, R86 to R93): of the Zone Router all but the cabin lists, of the queue each
entry's pattern, zones, repeats, cut and arrival. -/

-- One declaration at a time: together they would start more threads than the check's memory limit has stacks for.
set_option Elab.async false

namespace Sys2Proof.Machine

/-! ### Changes of the cabin lists -/

/-- From one state to another the Zone Router has changed in the cabin lists alone, and no list has come to hold a PROMPT
entry. -/
structure CabinListsOnly (s t : State) : Prop where
  cabin : t.zr.cabin = s.zr.cabin
  ducks : t.zr.ducks = s.zr.ducks
  trims : t.zr.trims = s.zr.trims
  hps : t.zr.hps = s.zr.hps
  zones : ∀ c, t.zr.zones.get c = { s.zr.zones.get c with list := listOf t (.cabin c) }
  noPrompt : ∀ c, (∀ e ∈ listOf s (.cabin c), e.cls ≠ .prompt) → ∀ e ∈ listOf t (.cabin c), e.cls ≠ .prompt

theorem CabinListsOnly.of_zr_eq {s t : State} (h : t.zr = s.zr) : CabinListsOnly s t := by
  constructor
  case noPrompt =>
    intro c hc
    simpa only [listOf, h] using hc
  all_goals intros; simp only [listOf, h]

theorem CabinListsOnly.trans {s t u : State} (h : CabinListsOnly s t) (h' : CabinListsOnly t u) : CabinListsOnly s u where
  cabin := h'.cabin.trans h.cabin
  ducks := h'.ducks.trans h.ducks
  trims := h'.trims.trans h.trims
  hps := h'.hps.trans h.hps
  zones c := by rw [h'.zones c, h.zones c]
  noPrompt c hc := h'.noPrompt c (h.noPrompt c hc)

theorem CabinListsOnly.foldl {α : Type} {f : State → α → State} (h : ∀ s a, CabinListsOnly s (f s a)) (l : List α)
    (s : State) : CabinListsOnly s (l.foldl f s) := by
  induction l generalizing s with
  | nil => exact .of_zr_eq rfl
  | cons a l ih => exact (h s a).trans (ih _)

section
variable {s t : State} (h : CabinListsOnly s t)
include h

theorem CabinListsOnly.quietOf_eq (z : Zone) : quietOf t z = quietOf s z := by
  cases z <;> simp only [quietOf, h.zones, h.hps]

theorem CabinListsOnly.muteOf_eq (z : Zone) : muteOf t z = muteOf s z := by
  cases z <;> simp only [muteOf, h.zones, h.hps]

theorem CabinListsOnly.baseOf_eq (z : Zone) : baseOf t z = baseOf s z := by
  cases z <;> simp only [baseOf, h.cabin, h.hps]

end

/-- A cabin zone takes a list that holds no PROMPT entry unless its list held one. -/
theorem changeList_cabinListsOnly (c : Cabin) {l : List Entry} {s : State}
    (hl : (∀ e ∈ listOf s (.cabin c), e.cls ≠ .prompt) → ∀ e ∈ l, e.cls ≠ .prompt) :
    CabinListsOnly s (changeList (.cabin c) l s) := by
  have hlist (d : Cabin) := listOf_changeList (.cabin c) (.cabin d) l s
  unfold changeList at hlist ⊢
  split at hlist
  · rw [if_pos (by assumption)]
    exact .of_zr_eq rfl
  · rw [if_neg (by assumption)]
    constructor
    case zones =>
      intro d
      rw [hlist d]
      show (s.zr.zones.set c { s.zr.zones.get c with list := l }).get d = _
      simp only [PerCabin.get_set, Zone.cabin.injEq]
      split
      · simp_all
      · rfl
    case noPrompt =>
      intro d hd
      rw [hlist d]
      split
      · rename_i hdc
        exact hl (hdc ▸ hd)
      · exact hd
    all_goals rfl

theorem mem_insertIn {x e : Entry} {l : List Entry} (h : x ∈ insertIn e l) : x = e ∨ x ∈ l := by
  unfold insertIn at h
  split at h
  · obtain ⟨y, hy, rfl⟩ := List.mem_map.1 h
    split
    · exact .inl rfl
    · exact .inr hy
  · rcases List.mem_append.1 h with hx | hx
    · exact .inr (List.takeWhile_subset _ hx)
    · rcases List.mem_cons.1 hx with rfl | hx
      · exact .inl rfl
      · exact .inr (List.dropWhile_subset _ hx)

theorem insertEntry_cabinListsOnly (c : Cabin) {e : Entry} (he : e.cls ≠ .prompt) (s : State) :
    CabinListsOnly s (insertEntry (.cabin c) e s) := by
  unfold insertEntry
  split
  · refine changeList_cabinListsOnly c fun hold x hx => ?_
    rcases mem_insertIn hx with rfl | hx
    · exact he
    · exact hold x hx
  · exact .of_zr_eq rfl

theorem mem_removeFrom {x : Entry} {cls : Class} {l : List Entry} (h : x ∈ removeFrom cls l) : x ∈ l := by
  unfold removeFrom at h
  split at h
  · exact h
  · exact List.mem_of_mem_filter h

theorem removeEntry_cabinListsOnly (c : Cabin) (cls : Class) (s : State) :
    CabinListsOnly s (removeEntry (.cabin c) cls s) :=
  changeList_cabinListsOnly c fun hold x hx => hold x (mem_removeFrom hx)

theorem insertChimes_cabinListsOnly (s : State) : CabinListsOnly s (insertChimes s) :=
  .foldl (fun s c => insertEntry_cabinListsOnly c (by decide) s) _ s

theorem removeChimes_cabinListsOnly (s : State) : CabinListsOnly s (removeChimes s) :=
  .foldl (fun s c => removeEntry_cabinListsOnly c .chime s) _ s

theorem removePrompts_cabinListsOnly (s : State) : CabinListsOnly s (removePrompts s) :=
  .foldl (fun s c => removeEntry_cabinListsOnly c .prompt s) _ s

/-- No cabin list holds a PROMPT entry after the removal of all (R52). -/
theorem removePrompts_noPrompt (s : State) (c : Cabin) : ∀ e ∈ listOf (removePrompts s) (.cabin c), e.cls ≠ .prompt := by
  have hfrom (l : List Entry) : ∀ e ∈ removeFrom .prompt l, e.cls ≠ .prompt := fun e he => by
    simpa using (List.mem_filter.1 he).2
  simp only [removePrompts, Cabin.all, List.foldl_cons, List.foldl_nil, listOf_removeEntry]
  cases c <;> exact hfrom _

/-- The quiet flags of the zones of the profile QUIET are set, and no other (R52). -/
theorem applyProfiles_quietOnly (s : State) : QuietOnly s (applyProfiles s) := by
  refine .foldl (fun s z => ?_) Zone.all s
  split
  · exact setQuiet_quietOnly z true s
  · exact .of_zr_eq rfl

/-- One zone's profile applied, by the configuration as it is at fail-safe entry. -/
theorem quietOf_applyProfile {s : State} {p : PerZone Profile} (hp : s.safety.config.profile = p) (z y : Zone) :
    let t := if s.safety.config.profile.get z = .quiet then setQuiet z true s else s
    t.safety.config.profile = p ∧ quietOf t y = if y = z then p.get z == .quiet || quietOf s y else quietOf s y := by
  subst hp
  dsimp only
  split
  · rename_i hquiet
    refine ⟨by rw [setQuiet_eq], ?_⟩
    rw [quietOf_setQuiet]
    simp [hquiet]
  · rename_i hquiet
    refine ⟨rfl, ?_⟩
    simp [hquiet]

theorem quietOf_foldl_applyProfile {p : PerZone Profile} (l : List Zone) {s : State} (hp : s.safety.config.profile = p)
    (y : Zone) :
    quietOf (l.foldl (fun s z => if s.safety.config.profile.get z = .quiet then setQuiet z true s else s) s) y =
      if y ∈ l then p.get y == .quiet || quietOf s y else quietOf s y := by
  induction l generalizing s with
  | nil => rfl
  | cons z l ih =>
    obtain ⟨hkeep, hquiet⟩ := quietOf_applyProfile hp z y
    rw [List.foldl_cons, ih hkeep, hquiet]
    by_cases hyz : y = z
    · subst hyz
      simp
    · simp [hyz]

theorem quietOf_applyProfiles (s : State) (z : Zone) :
    quietOf (applyProfiles s) z = (s.safety.config.profile.get z == .quiet || quietOf s z) := by
  have hall : z ∈ Zone.all := by
    rcases z with c | k
    · cases c <;> decide
    · cases k <;> decide
  exact (quietOf_foldl_applyProfile Zone.all rfl z).trans (if_pos hall)

/-! ### What the voices leave of the queue -/

/-- What the voices' looks leave of an entry: its pattern, zones, repeats, cut and arrival. -/
def ChimeEntry.core (e : ChimeEntry) : PatternId × CabinSet × Repeats × Bool × Nat :=
  (e.pattern, e.zones, e.remaining, e.cutShort, e.arrival)

/-- The cores of the queue's entries, in order. -/
def coresOf (s : State) : List (PatternId × CabinSet × Repeats × Bool × Nat) := s.chimes.queue.map ChimeEntry.core

/-- From one state to another the entries have changed in their voices and their marks alone, and the Zone Router in the
cabin lists. -/
structure CoresKept (s t : State) : Prop where
  lists : CabinListsOnly s t
  cores : coresOf t = coresOf s
  arrival : t.chimes.nextArrival = s.chimes.nextArrival

theorem CoresKept.refl {s : State} : CoresKept s s := ⟨.of_zr_eq rfl, rfl, rfl⟩

theorem CoresKept.trans {s t u : State} (h : CoresKept s t) (h' : CoresKept t u) : CoresKept s u :=
  ⟨h.lists.trans h'.lists, h'.cores.trans h.cores, h'.arrival.trans h.arrival⟩

/-- A change within the Zone Router, of the cabin lists alone. -/
theorem CoresKept.of_zr {s t : State} (h : CabinListsOnly s t) (hw : Within [.zr] s t) : CoresKept s t := by
  obtain ⟨hqueue, _, _, harrival, _⟩ := hw.same .chimes (by decide)
  exact ⟨h, congrArg (List.map ChimeEntry.core) hqueue, harrival⟩

theorem CoresKept.of_post (k : ReportKind) (n : Nat) (d : Bytes) (s : State) : CoresKept s (post k n d s) :=
  ⟨.of_zr_eq rfl, rfl, rfl⟩

theorem setVoice_queue (v : VoiceId) (x : Option Voice) (s : State) :
    (setVoice v x s).chimes.queue = s.chimes.queue ∧ (setVoice v x s).chimes.nextArrival = s.chimes.nextArrival := by
  cases v <;> exact ⟨rfl, rfl⟩

theorem setVoice_coresKept (v : VoiceId) (x : Option Voice) (s : State) : CoresKept s (setVoice v x s) := by
  obtain ⟨hqueue, harrival⟩ := setVoice_queue v x s
  exact ⟨.of_zr_eq rfl, congrArg (List.map ChimeEntry.core) hqueue, harrival⟩

theorem modEntry_coresKept {p : PatternId} {f : ChimeEntry → ChimeEntry} (hf : ∀ e, (f e).core = e.core) (s : State) :
    CoresKept s (modEntry p f s) := by
  refine ⟨.of_zr_eq rfl, ?_, rfl⟩
  simp only [coresOf, modEntry, State.modChimes_chimes, List.map_map]
  refine List.map_congr_left fun e _ => ?_
  simp only [Function.comp_apply]
  split
  · exact hf e
  · rfl

theorem noteReroute_coresKept (p : PatternId) (pos : SegmentPosition) (zs : List Cabin) (s : State) :
    CoresKept s (noteReroute p pos zs s) := by
  unfold noteReroute
  split
  · split
    · exact .refl
    · refine (modEntry_coresKept ?_ s).trans (.of_post _ _ _ _)
      exact fun _ => rfl
  · exact .refl

theorem beginTone_coresKept (v : VoiceId) (x : Voice) (s : State) : CoresKept s (beginTone v x s) :=
  (setVoice_coresKept v _ s).trans (noteReroute_coresKept _ _ _ _)

theorem insertChimes_coresKept (s : State) : CoresKept s (insertChimes s) :=
  .of_zr (insertChimes_cabinListsOnly s) (insertChimes_within s)

theorem removeChimes_coresKept (s : State) : CoresKept s (removeChimes s) :=
  .of_zr (removeChimes_cabinListsOnly s) (removeChimes_within s)

theorem takeEntry_coresKept (v : VoiceId) (s : State) : CoresKept s (takeEntry v s) := by
  unfold takeEntry
  split
  · exact .refl
  · rename_i e _
    have hmark : CoresKept (modEntry e.pattern (fun e => { e with voice := some v, played := true }) s)
        ((modEntry e.pattern (fun e => { e with voice := some v, played := true }) s).modChimes
          (fun c => { c with nextStart := c.nextStart + 1 })) := ⟨.of_zr_eq rfl, rfl, rfl⟩
    refine (((modEntry_coresKept ?_ s).trans hmark).trans (beginTone_coresKept v _ _)).trans (insertChimes_coresKept _)
    exact fun _ => rfl

theorem takeIfIdle_coresKept (v : VoiceId) (s : State) : CoresKept s (takeIfIdle v s) := by
  unfold takeIfIdle
  split
  · exact takeEntry_coresKept v s
  · exact .refl

theorem preempt_coresKept (s : State) : CoresKept s (preempt s) := by
  unfold preempt
  split
  · split
    · refine (((modEntry_coresKept ?_ s).trans (setVoice_coresKept _ none _)).trans
        (takeEntry_coresKept _ _)).trans (removeChimes_coresKept _)
      exact fun _ => rfl
    · exact .refl
  · exact .refl

theorem voicesLook_coresKept (s : State) : CoresKept s (voicesLook s) :=
  ((takeIfIdle_coresKept .v1 s).trans (takeIfIdle_coresKept .v2 _)).trans (preempt_coresKept _)

theorem joinTone_coresKept (v : VoiceId) (p : PatternId) (added : CabinSet) (s : State) :
    CoresKept s (joinTone v p added s) := by
  unfold joinTone
  split
  · exact .refl
  · exact ((setVoice_coresKept v _ s).trans (noteReroute_coresKept _ _ _ _)).trans (insertChimes_coresKept _)

/-! ### Reading the cores -/

/-- The entry of a pattern by the cores alone. -/
theorem entryFor_core (s : State) (p : PatternId) :
    (entryFor s p).map ChimeEntry.core = (coresOf s).find? (fun c => c.1 == p) := by
  rw [coresOf, List.find?_map]
  rfl

theorem CoresKept.entryFor_core {s t : State} (h : CoresKept s t) (p : PatternId) :
    (entryFor t p).map ChimeEntry.core = (entryFor s p).map ChimeEntry.core := by
  rw [Machine.entryFor_core, Machine.entryFor_core, h.cores]

theorem CoresKept.length_eq {s t : State} (h : CoresKept s t) : t.chimes.queue.length = s.chimes.queue.length := by
  simpa [coresOf] using congrArg List.length h.cores

/-- Each entry has the core of an entry before. -/
theorem CoresKept.mem {s t : State} (h : CoresKept s t) {y : ChimeEntry} (hy : y ∈ t.chimes.queue) :
    ∃ x ∈ s.chimes.queue, x.core = y.core := by
  have hmem : y.core ∈ coresOf s := h.cores ▸ List.mem_map_of_mem hy
  exact List.mem_map.1 hmem

end Sys2Proof.Machine
end

section
/-! SUPPORT. The sounds at fail-safe entry (R97): the cut of the CONTINUOUS chimes and the fail-safe chime's request. -/

-- One declaration at a time: together they would start more threads than the check's memory limit has stacks for.
set_option Elab.async false

namespace Sys2Proof.Machine

/-! ### An entry changed or removed -/

theorem modEntry_queue (p : PatternId) (f : ChimeEntry → ChimeEntry) (s : State) :
    (modEntry p f s).chimes.queue = s.chimes.queue.map (fun e => if e.pattern == p then f e else e) := rfl

theorem entryFor_pattern {s : State} {p : PatternId} {e : ChimeEntry} (h : entryFor s p = some e) : e.pattern = p := by
  simpa using List.find?_some h

theorem entryFor_eq_none_iff (s : State) (p : PatternId) :
    entryFor s p = none ↔ ∀ e ∈ s.chimes.queue, e.pattern ≠ p := by
  simp [entryFor, List.find?_eq_none]

/-- A change that leaves the patterns changes the entry found of its pattern, and leaves the entry of every other. -/
theorem entryFor_modEntry {p q : PatternId} {f : ChimeEntry → ChimeEntry} (hf : ∀ e, (f e).pattern = e.pattern) (s : State) :
    entryFor (modEntry p f s) q = if q = p then (entryFor s q).map f else entryFor s q := by
  have hkey : (fun e : ChimeEntry => e.pattern == q) ∘ (fun e => if e.pattern == p then f e else e) =
      fun e => e.pattern == q := by
    funext e
    simp only [Function.comp_apply]
    split
    · rw [hf]
    · rfl
  unfold entryFor
  rw [modEntry_queue, List.find?_map, hkey]
  cases hfound : s.chimes.queue.find? (fun e => e.pattern == q) with
  | none => simp
  | some e =>
    have he : e.pattern = q := entryFor_pattern hfound
    by_cases hqp : q = p <;> simp [he, hqp]

/-- Two patterns are kept apart by a removal. -/
theorem find?_filter_ne {l : List ChimeEntry} {p q : PatternId} (h : q ≠ p) :
    (l.filter (fun e => e.pattern != p)).find? (fun e => e.pattern == q) = l.find? (fun e => e.pattern == q) := by
  rw [List.find?_filter]
  congr 1
  funext e
  by_cases he : e.pattern = q <;> simp [he, h]

/-! ### An entry ended -/

theorem removeChimes_chimes (s : State) : (removeChimes s).chimes = s.chimes := by
  rw [removeChimes_eq]

theorem endEntry_queue (e : ChimeEntry) (cause : ChimeEnd) (s : State) :
    (endEntry e cause s).chimes.queue = s.chimes.queue.filter (fun x => x.pattern != e.pattern) ∧
      (endEntry e cause s).chimes.nextArrival = s.chimes.nextArrival := by
  unfold endEntry
  dsimp only
  rw [removeChimes_chimes, post_chimes]
  split
  · obtain ⟨hqueue, harrival⟩ := setVoice_queue ‹VoiceId› none s
    exact ⟨congrArg (List.filter _) hqueue, harrival⟩
  · exact ⟨rfl, rfl⟩

theorem voiceOf_setVoice (v w : VoiceId) (x : Option Voice) (s : State) :
    voiceOf (setVoice w x s) v = if v = w then x else voiceOf s v := by
  cases v <;> cases w <;> rfl

/-- An ended entry stops its own voice and no other. -/
theorem voiceOf_endEntry {e : ChimeEntry} {v : VoiceId} (cause : ChimeEnd) (s : State) (hv : e.voice ≠ some v) :
    voiceOf (endEntry e cause s) v = voiceOf s v := by
  have hother (w : VoiceId) (hw : e.voice = some w) : voiceOf (setVoice w none s) v = voiceOf s v := by
    rw [voiceOf_setVoice, if_neg fun h => hv (hw.trans (congrArg some h.symm))]
  have hchimes (t : State) (ht : voiceOf t v = voiceOf s v) :
      voiceOf (removeChimes (post .chimeEnded e.pattern.val
        (u8 cause.code ++ (cabinSetField e.zones ++ bit e.played)) (dropEntry e.pattern t))) v = voiceOf s v := by
    rw [← ht]
    cases v <;> simp only [voiceOf, removeChimes_chimes, post_chimes] <;> rfl
  unfold endEntry
  dsimp only
  split
  · exact hchimes _ (hother _ (by assumption))
  · exact hchimes s rfl

theorem endEntry_cabinListsOnly (e : ChimeEntry) (cause : ChimeEnd) (s : State) :
    CabinListsOnly s (endEntry e cause s) := by
  unfold endEntry
  dsimp only
  refine CabinListsOnly.trans ?_ (removeChimes_cabinListsOnly _)
  split <;> exact .of_zr_eq rfl

/-! ### One entry cut (R97 step (1)) -/

/-- An entry cut short: it plays its repeat to the end, and no more. -/
def ChimeEntry.lastRepeat (e : ChimeEntry) : ChimeEntry := { e with remaining := .count 1, cutShort := true }

/-- Whether an entry's voice stands in its repeat gap. -/
def InRepeatGap (s : State) (e : ChimeEntry) : Prop := (e.voice.bind (voiceOf s)).map Voice.phase = some .repeatGap

theorem cutEntry_of_counted {s : State} {e : ChimeEntry} (h : e.remaining ≠ .continuous) : cutEntry s e = s := if_neg h

theorem cutEntry_of_gap {s : State} {e : ChimeEntry} (h : e.remaining = .continuous) (hgap : InRepeatGap s e) :
    cutEntry s e = endEntry e .cutShort s := by
  unfold cutEntry InRepeatGap at *
  cases hv : e.voice with
  | none => simp [hv] at hgap
  | some v =>
    rw [hv] at hgap
    simp only [h, if_true, Option.bind_some] at hgap ⊢
    exact if_pos (beq_iff_eq.2 hgap)

theorem cutEntry_of_sounding {s : State} {e : ChimeEntry} (h : e.remaining = .continuous) (hgap : ¬ InRepeatGap s e) :
    cutEntry s e = modEntry e.pattern ChimeEntry.lastRepeat s := by
  unfold cutEntry InRepeatGap at *
  cases hv : e.voice with
  | none =>
    simp only [h, if_true]
    rfl
  | some v =>
    rw [hv] at hgap
    simp only [h, if_true, Option.bind_some] at hgap ⊢
    exact if_neg fun hin => hgap (beq_iff_eq.1 hin)

/-- The three things that a cut can do. -/
theorem cutEntry_cases (s : State) (e : ChimeEntry) :
    (e.remaining ≠ .continuous ∧ cutEntry s e = s) ∨
    (e.remaining = .continuous ∧ InRepeatGap s e ∧ cutEntry s e = endEntry e .cutShort s) ∨
    (e.remaining = .continuous ∧ ¬ InRepeatGap s e ∧
      cutEntry s e = modEntry e.pattern ChimeEntry.lastRepeat s) := by
  by_cases h : e.remaining = .continuous
  · by_cases hgap : InRepeatGap s e
    · exact .inr (.inl ⟨h, hgap, cutEntry_of_gap h hgap⟩)
    · exact .inr (.inr ⟨h, hgap, cutEntry_of_sounding h hgap⟩)
  · exact .inl ⟨h, cutEntry_of_counted h⟩

/-- Cuts remove entries and make CONTINUOUS ones counted, and of the Zone Router change the cabin lists alone. -/
structure CutOnly (s t : State) : Prop where
  lists : CabinListsOnly s t
  arrival : t.chimes.nextArrival = s.chimes.nextArrival
  length : t.chimes.queue.length ≤ s.chimes.queue.length
  mem : ∀ y ∈ t.chimes.queue,
    ∃ x ∈ s.chimes.queue, x.pattern = y.pattern ∧ (y.remaining = .continuous → x.remaining = .continuous)

theorem CutOnly.refl {s : State} : CutOnly s s := ⟨.of_zr_eq rfl, rfl, le_rfl, fun y hy => ⟨y, hy, rfl, id⟩⟩

theorem CutOnly.trans {s t u : State} (h : CutOnly s t) (h' : CutOnly t u) : CutOnly s u := by
  refine ⟨h.lists.trans h'.lists, h'.arrival.trans h.arrival, h'.length.trans h.length, fun y hy => ?_⟩
  obtain ⟨x, hx, hxy, hxc⟩ := h'.mem y hy
  obtain ⟨w, hw, hwx, hwc⟩ := h.mem x hx
  exact ⟨w, hw, hwx.trans hxy, fun hc => hwc (hxc hc)⟩

theorem cutEntry_cutOnly (s : State) (e : ChimeEntry) : CutOnly s (cutEntry s e) := by
  rcases cutEntry_cases s e with ⟨_, heq⟩ | ⟨_, _, heq⟩ | ⟨_, _, heq⟩
  · rw [heq]
    exact .refl
  · obtain ⟨hqueue, harrival⟩ := endEntry_queue e .cutShort s
    rw [heq]
    refine ⟨endEntry_cabinListsOnly e _ s, harrival, ?_, fun y hy => ⟨y, ?_, rfl, id⟩⟩
    · rw [hqueue]
      exact List.length_filter_le _ _
    · exact List.mem_of_mem_filter (hqueue ▸ hy)
  · rw [heq]
    refine ⟨.of_zr_eq rfl, rfl, Nat.le_of_eq (List.length_map _), fun y hy => ?_⟩
    obtain ⟨x, hx, rfl⟩ := List.mem_map.1 hy
    refine ⟨x, hx, ?_⟩
    split
    · exact ⟨rfl, fun hc => Repeats.noConfusion hc⟩
    · exact ⟨rfl, id⟩

theorem foldl_cutEntry_cutOnly (l : List ChimeEntry) (s : State) : CutOnly s (l.foldl cutEntry s) := by
  induction l generalizing s with
  | nil => exact .refl
  | cons e l ih => exact (cutEntry_cutOnly s e).trans (ih _)

/-- A CONTINUOUS entry that is cut leaves none of its pattern CONTINUOUS. -/
theorem cutEntry_ends {s : State} {e : ChimeEntry} (h : e.remaining = .continuous) :
    ∀ y ∈ (cutEntry s e).chimes.queue, y.pattern = e.pattern → y.remaining ≠ .continuous := by
  intro y hy hp
  rcases cutEntry_cases s e with ⟨hcount, _⟩ | ⟨_, _, heq⟩ | ⟨_, _, heq⟩
  · exact absurd h hcount
  · rw [heq, (endEntry_queue e .cutShort s).1] at hy
    simpa [hp] using (List.mem_filter.1 hy).2
  · rw [heq, modEntry_queue] at hy
    obtain ⟨x, _, rfl⟩ := List.mem_map.1 hy
    by_cases hx : x.pattern = e.pattern
    · simp [hx, ChimeEntry.lastRepeat]
    · simp [hx] at hp

theorem foldl_cutEntry_ends {l : List ChimeEntry} {s : State} {e : ChimeEntry} (he : e ∈ l)
    (h : e.remaining = .continuous) :
    ∀ y ∈ (l.foldl cutEntry s).chimes.queue, y.pattern = e.pattern → y.remaining ≠ .continuous := by
  induction l generalizing s with
  | nil => simp at he
  | cons a l ih =>
    rcases List.mem_cons.1 he with rfl | hl
    · intro y hy hp hc
      obtain ⟨x, hx, hxy, hxc⟩ := (foldl_cutEntry_cutOnly l (cutEntry s e)).mem y hy
      exact cutEntry_ends h x hx (hxy.trans hp) (hxc hc)
    · exact ih hl

/-- After the cuts no entry is CONTINUOUS. -/
theorem cuts_noContinuous (s : State) :
    ∀ y ∈ (s.chimes.queue.foldl cutEntry s).chimes.queue, y.remaining ≠ .continuous := by
  intro y hy hc
  obtain ⟨x, hx, hxy, hxc⟩ := (foldl_cutEntry_cutOnly s.chimes.queue s).mem y hy
  exact foldl_cutEntry_ends hx (hxc hc) y hy hxy.symm hc

/-! ### One pattern followed through the cuts -/

theorem entryFor_cutEntry_of_ne {s : State} {e : ChimeEntry} {p : PatternId} (h : e.pattern ≠ p) :
    entryFor (cutEntry s e) p = entryFor s p := by
  rcases cutEntry_cases s e with ⟨_, heq⟩ | ⟨_, _, heq⟩ | ⟨_, _, heq⟩
  · rw [heq]
  · rw [heq]
    unfold entryFor
    rw [(endEntry_queue e .cutShort s).1]
    exact find?_filter_ne h.symm
  · rw [heq, entryFor_modEntry (f := ChimeEntry.lastRepeat) (fun _ => rfl), if_neg h.symm]

theorem voiceOf_cutEntry_of_ne {s : State} {e : ChimeEntry} {v : VoiceId} (h : e.voice ≠ some v) :
    voiceOf (cutEntry s e) v = voiceOf s v := by
  rcases cutEntry_cases s e with ⟨_, heq⟩ | ⟨_, _, heq⟩ | ⟨_, _, heq⟩
  · rw [heq]
  · rw [heq, voiceOf_endEntry _ s h]
  · rw [heq]
    cases v <;> rfl

theorem entryFor_foldl_cutEntry {l : List ChimeEntry} {s : State} {p : PatternId} (h : ∀ e ∈ l, e.pattern ≠ p) :
    entryFor (l.foldl cutEntry s) p = entryFor s p := by
  induction l generalizing s with
  | nil => rfl
  | cons e l ih =>
    rw [List.foldl_cons, ih fun x hx => h x (List.mem_cons_of_mem _ hx),
      entryFor_cutEntry_of_ne (h e List.mem_cons_self)]

theorem voiceOf_foldl_cutEntry {l : List ChimeEntry} {s : State} {v : VoiceId} (h : ∀ e ∈ l, e.voice ≠ some v) :
    voiceOf (l.foldl cutEntry s) v = voiceOf s v := by
  induction l generalizing s with
  | nil => rfl
  | cons e l ih =>
    rw [List.foldl_cons, ih fun x hx => h x (List.mem_cons_of_mem _ hx),
      voiceOf_cutEntry_of_ne (h e List.mem_cons_self)]

/-- In a queue whose entries are of different patterns, each on its own voice, the entry of a pattern stands between
entries of other patterns and other voices. -/
theorem queue_split {s : State} {p : PatternId} {e : ChimeEntry} (hok : ChimesOk s) (h : entryFor s p = some e) :
    ∃ l r, s.chimes.queue = l ++ e :: r ∧ (∀ x ∈ l, x.pattern ≠ p) ∧ (∀ x ∈ r, x.pattern ≠ p) ∧
      ∀ x ∈ l, ∀ v, e.voice = some v → x.voice ≠ some v := by
  obtain ⟨_, hnodup, hvoice, _⟩ := hok
  obtain ⟨he, l, r, hsplit, hl⟩ := List.find?_eq_some_iff_append.1 h
  have hep : e.pattern = p := by simpa using he
  have hlp : ∀ x ∈ l, x.pattern ≠ p := fun x hx => by simpa using hl x hx
  refine ⟨l, r, hsplit, hlp, fun x hx hxp => ?_, fun x hx v hev hxv => ?_⟩
  · rw [hsplit, List.map_append, List.map_cons, List.nodup_append] at hnodup
    obtain ⟨_, hcons, _⟩ := hnodup
    exact (List.nodup_cons.1 hcons).1 (List.mem_map.2 ⟨x, hx, hxp.trans hep.symm⟩)
  · have hv : v ∈ [VoiceId.v1, .v2] := by cases v <;> simp
    have hxp := hvoice x (hsplit ▸ List.mem_append_left _ hx) v hv hxv
    have hep' := hvoice e (hsplit ▸ List.mem_append_right _ List.mem_cons_self) v hv hev
    exact hlp x hx ((Option.some.inj (hxp.symm.trans hep')).trans hep)

/-- The cut that meets the entry of a pattern finds it and its voice as they were. -/
theorem cut_reaches {s : State} {p : PatternId} {e : ChimeEntry} (hok : ChimesOk s) (h : entryFor s p = some e) :
    ∃ u, CutOnly s u ∧ entryFor u p = some e ∧ (InRepeatGap u e ↔ InRepeatGap s e) ∧
      entryFor (s.chimes.queue.foldl cutEntry s) p = entryFor (cutEntry u e) p ∧
      (s.chimes.queue.foldl cutEntry s).chimes.queue.length ≤ (cutEntry u e).chimes.queue.length := by
  obtain ⟨l, r, hsplit, hl, hr, hvoice⟩ := queue_split hok h
  refine ⟨l.foldl cutEntry s, foldl_cutEntry_cutOnly l s, (entryFor_foldl_cutEntry hl).trans h, ?_, ?_, ?_⟩
  · have hsame : e.voice.bind (voiceOf (l.foldl cutEntry s)) = e.voice.bind (voiceOf s) := by
      cases hv : e.voice with
      | none => rfl
      | some v => exact voiceOf_foldl_cutEntry fun x hx => hvoice x hx v hv
    rw [InRepeatGap, InRepeatGap, hsame]
  · rw [hsplit, List.foldl_append, List.foldl_cons, entryFor_foldl_cutEntry hr]
  · rw [hsplit, List.foldl_append, List.foldl_cons]
    exact (foldl_cutEntry_cutOnly r _).length

/-- An entry outside a repeat gap, or not CONTINUOUS, stays through the cuts with its zones and its arrival. -/
theorem cuts_keep_entry {s : State} {p : PatternId} {e : ChimeEntry} (hok : ChimesOk s) (h : entryFor s p = some e)
    (hstay : e.remaining ≠ .continuous ∨ ¬ InRepeatGap s e) :
    ∃ y, entryFor (s.chimes.queue.foldl cutEntry s) p = some y ∧ y.zones = e.zones ∧ y.arrival = e.arrival := by
  obtain ⟨u, _, hfound, hgap, hend, _⟩ := cut_reaches hok h
  rw [hend]
  rcases cutEntry_cases u e with ⟨_, heq⟩ | ⟨hc, hin, _⟩ | ⟨_, _, heq⟩
  · rw [heq]
    exact ⟨e, hfound, rfl, rfl⟩
  · exact absurd (hgap.1 hin) (hstay.resolve_left (not_not_intro hc))
  · refine ⟨e.lastRepeat, ?_, rfl, rfl⟩
    rw [heq, entryFor_modEntry (f := ChimeEntry.lastRepeat) (fun _ => rfl), if_pos (entryFor_pattern h).symm, hfound]
    rfl

/-- A CONTINUOUS entry in its repeat gap is removed, and leaves room. -/
theorem cuts_drop_entry {s : State} {p : PatternId} {e : ChimeEntry} (hok : ChimesOk s) (h : entryFor s p = some e)
    (hc : e.remaining = .continuous) (hin : InRepeatGap s e) :
    entryFor (s.chimes.queue.foldl cutEntry s) p = none ∧ (s.chimes.queue.foldl cutEntry s).chimes.queue.length < 8 := by
  obtain ⟨u, hcut, hfound, hgap, hend, hlen⟩ := cut_reaches hok h
  obtain ⟨hroom, _⟩ := hok
  have hep := entryFor_pattern h
  have hqueue : (cutEntry u e).chimes.queue = u.chimes.queue.filter (fun x => x.pattern != p) := by
    rw [cutEntry_of_gap hc (hgap.2 hin), (endEntry_queue e .cutShort u).1, hep]
  have hless : (u.chimes.queue.filter (fun x => x.pattern != p)).length < u.chimes.queue.length :=
    List.length_filter_lt_length_iff_exists.2 ⟨e, List.mem_of_find?_eq_some hfound, by simp [hep]⟩
  refine ⟨?_, ?_⟩
  · rw [hend, entryFor_eq_none_iff, hqueue]
    intro x hx
    simpa using (List.mem_filter.1 hx).2
  · have hle := hcut.length
    rw [hqueue] at hlen
    omega

theorem cuts_find_none {s : State} {p : PatternId} (h : entryFor s p = none) :
    entryFor (s.chimes.queue.foldl cutEntry s) p = none := by
  rw [entryFor_foldl_cutEntry ((entryFor_eq_none_iff s p).1 h), h]

end Sys2Proof.Machine
end

section
/-! SUPPORT. A chime taken by the queue (R87, R88), the fail-safe chime's request (R97 step (2)), and the watchdog's expiry
(R12, R20, R52). -/

-- One declaration at a time: together they would start more threads than the check's memory limit has stacks for.
set_option Elab.async false

namespace Sys2Proof.Machine

/-! ### A chime taken -/

/-- What a merge makes of an entry, its voice apart (R87). -/
def ChimeEntry.merged (t : Pattern) (zones : CabinSet) (e : ChimeEntry) : ChimeEntry :=
  { e with zones := e.zones.union zones, remaining := t.repeats, cutShort := false }

theorem mergeChime_coresKept (e : ChimeEntry) (t : Pattern) (zones : CabinSet) (s : State) :
    CoresKept (modEntry e.pattern (ChimeEntry.merged t zones) s) (mergeChime e t zones s) := by
  unfold mergeChime
  dsimp only
  split
  · exact joinTone_coresKept _ _ _ _
  · exact .refl

theorem placeChime_queue (e : ChimeEntry) (s : State) :
    ∃ l r, s.chimes.queue = l ++ r ∧ (placeChime e s).chimes.queue = l ++ e :: r :=
  ⟨_, _, List.takeWhile_append_dropWhile.symm, rfl⟩

/-- The entry placed is the entry found of its pattern, where there was none. -/
theorem entryFor_placeChime {e : ChimeEntry} {s : State} (h : entryFor s e.pattern = none) :
    entryFor (placeChime e s) e.pattern = some e := by
  obtain ⟨l, r, hold, hnew⟩ := placeChime_queue e s
  rw [entryFor_eq_none_iff, hold] at h
  unfold entryFor
  rw [hnew, List.find?_append, List.find?_eq_none.2 fun x hx => by simpa using h x (List.mem_append_left _ hx)]
  simp

theorem placeChime_cabinListsOnly (e : ChimeEntry) (s : State) : CabinListsOnly s (placeChime e s) := .of_zr_eq rfl

/-- A chime of a queued pattern merges into its entry (R87). -/
theorem takeChime_merges {s : State} {p : PatternId} {e : ChimeEntry} (t : Pattern) (zones : CabinSet)
    (h : entryFor s p = some e) :
    (entryFor (takeChime p t zones s).1 p).map ChimeEntry.core = some (p, e.zones.union zones, t.repeats, false, e.arrival) := by
  have hep := entryFor_pattern h
  have hlook := (mergeChime_coresKept e t zones s).trans (voicesLook_coresKept _)
  have htake : (takeChime p t zones s).1 = voicesLook (mergeChime e t zones s) := by simp only [takeChime, h]
  rw [htake, hlook.entryFor_core, entryFor_modEntry (f := ChimeEntry.merged t zones) (fun _ => rfl), if_pos hep.symm, h]
  subst hep
  rfl

/-- A chime of another pattern is queued anew where there is room (R87). -/
theorem takeChime_places {s : State} {p : PatternId} (t : Pattern) (zones : CabinSet) (h : entryFor s p = none)
    (hroom : s.chimes.queue.length < 8) :
    (entryFor (takeChime p t zones s).1 p).map ChimeEntry.core = some (p, zones, t.repeats, false, s.chimes.nextArrival) := by
  have htake : (takeChime p t zones s).1 = voicesLook (placeChime (newEntry s p t zones) s) := by
    simp only [takeChime, h, if_pos (show s.chimes.queue.length < Config.chimeCapacity from hroom)]
  have hplaced : entryFor (placeChime (newEntry s p t zones) s) p = some (newEntry s p t zones) :=
    entryFor_placeChime (e := newEntry s p t zones) h
  rw [htake, (voicesLook_coresKept _).entryFor_core, hplaced]
  rfl

/-- What a chime taken leaves: the Zone Router but for the cabin lists, and each entry of another pattern as one was before. -/
structure Taken (p : PatternId) (s t : State) : Prop where
  lists : CabinListsOnly s t
  mem : ∀ y ∈ t.chimes.queue, y.pattern = p ∨ ∃ x ∈ s.chimes.queue, x.pattern = y.pattern ∧ x.remaining = y.remaining

theorem Taken.refl {p : PatternId} {s : State} : Taken p s s := ⟨.of_zr_eq rfl, fun y hy => .inr ⟨y, hy, rfl, rfl⟩⟩

theorem Taken.trans {p : PatternId} {s t u : State} (h : Taken p s t) (h' : Taken p t u) : Taken p s u := by
  refine ⟨h.lists.trans h'.lists, fun y hy => ?_⟩
  rcases h'.mem y hy with hp | ⟨x, hx, hxy, hxr⟩
  · exact .inl hp
  · rcases h.mem x hx with hp | ⟨w, hw, hwx, hwr⟩
    · exact .inl (hxy ▸ hp)
    · exact .inr ⟨w, hw, hwx.trans hxy, hwr.trans hxr⟩

theorem CoresKept.taken {s t : State} (h : CoresKept s t) (p : PatternId) : Taken p s t := by
  refine ⟨h.lists, fun y hy => .inr ?_⟩
  obtain ⟨x, hx, hcore⟩ := h.mem hy
  exact ⟨x, hx, congrArg (fun c => c.1) hcore, congrArg (fun c => c.2.2.1) hcore⟩

theorem modEntry_taken (p : PatternId) {f : ChimeEntry → ChimeEntry} (hf : ∀ e, (f e).pattern = e.pattern) (s : State) :
    Taken p s (modEntry p f s) := by
  refine ⟨.of_zr_eq rfl, fun y hy => ?_⟩
  obtain ⟨x, hx, rfl⟩ := List.mem_map.1 (modEntry_queue p f s ▸ hy)
  by_cases hp : x.pattern = p
  · simp [hp, hf]
  · simp only [beq_iff_eq, hp, if_false]
    exact .inr ⟨x, hx, rfl, rfl⟩

theorem dropEntry_taken (p q : PatternId) (s : State) : Taken p s (dropEntry q s) :=
  ⟨.of_zr_eq rfl, fun y hy => .inr ⟨y, List.mem_of_mem_filter hy, rfl, rfl⟩⟩

theorem placeChime_taken (e : ChimeEntry) (s : State) : Taken e.pattern s (placeChime e s) := by
  obtain ⟨l, r, hold, hnew⟩ := placeChime_queue e s
  refine ⟨placeChime_cabinListsOnly e s, fun y hy => ?_⟩
  rw [hnew] at hy
  rcases List.mem_append.1 hy with hl | hr
  · exact .inr ⟨y, hold ▸ List.mem_append_left _ hl, rfl, rfl⟩
  · rcases List.mem_cons.1 hr with rfl | hr
    · exact .inl rfl
    · exact .inr ⟨y, hold ▸ List.mem_append_right _ hr, rfl, rfl⟩

theorem takeChime_taken (p : PatternId) (t : Pattern) (zones : CabinSet) (s : State) :
    Taken p s (takeChime p t zones s).1 := by
  have hplace (u : State) : Taken p u (voicesLook (placeChime (newEntry u p t zones) u)) :=
    (placeChime_taken (newEntry u p t zones) u).trans ((voicesLook_coresKept _).taken p)
  unfold takeChime
  split
  · rename_i e he
    obtain rfl := entryFor_pattern he
    exact ((modEntry_taken e.pattern (f := ChimeEntry.merged t zones) (fun _ => rfl) s).trans
      ((mergeChime_coresKept e t zones s).taken _)).trans ((voicesLook_coresKept _).taken _)
  · split
    · exact hplace s
    · split
      · exact .refl
      · split
        · rename_i e _ _
          have hdropped : Taken p s (post .chimeDropped e.pattern.val
              (cabinSetField e.zones ++ (u8 (priorityOf s e.pattern) ++ u8 p.val)) (dropEntry e.pattern s)) :=
            (dropEntry_taken p e.pattern s).trans ((CoresKept.of_post _ _ _ _).taken p)
          exact hdropped.trans (hplace _)
        · exact .refl

/-! ### The fail-safe chime (R97) -/

theorem failsafeChime_none {s : State} (h : s.safety.config.chime = none) : failsafeChime s = s := by
  simp only [failsafeChime, h]

theorem failsafeChime_some {s : State} {p : PatternId} {t : Pattern} (h : s.safety.config.chime = some p)
    (ht : s.patterns.table[p] = some t) (hserved : s.safety.config.chimeZones.toList.any (isServed s.install) = true) :
    failsafeChime s = (takeChime p t s.safety.config.chimeZones s).1 := by
  simp only [failsafeChime, h, ht, anyServed, hserved, if_true]

theorem failsafeChime_taken {s : State} {p : PatternId} (h : s.safety.config.chime = some p) :
    Taken p s (failsafeChime s) := by
  simp only [failsafeChime, h]
  split
  · exact .refl
  · split
    · exact takeChime_taken p _ _ s
    · exact .refl

theorem failsafeChime_cabinListsOnly (s : State) : CabinListsOnly s (failsafeChime s) := by
  cases h : s.safety.config.chime with
  | none =>
    rw [failsafeChime_none h]
    exact .of_zr_eq rfl
  | some p => exact (failsafeChime_taken h).lists

/-! ### The sounds at fail-safe entry -/

/-- The state in which the fail-safe chime is requested: the cuts made, the voices' look taken. -/
def afterCuts (s : State) : State := voicesLook (s.chimes.queue.foldl cutEntry s)

theorem failsafeSounds_eq (s : State) : failsafeSounds s = failsafeChime (afterCuts s) := rfl

theorem afterCuts_within (s : State) : Within [.zr, .chimes] s (afterCuts s) :=
  ((Within.foldl cutEntry_within s.chimes.queue s).trans (voicesLook_within _)).mono

theorem afterCuts_config (s : State) : (afterCuts s).safety = s.safety ∧ (afterCuts s).patterns = s.patterns ∧
    (afterCuts s).install = s.install ∧ (afterCuts s).chimes.nextArrival = s.chimes.nextArrival := by
  have hw := afterCuts_within s
  refine ⟨hw.safety_eq, hw.patterns_eq, hw.install_eq, ?_⟩
  exact (voicesLook_coresKept _).arrival.trans (foldl_cutEntry_cutOnly _ s).arrival

theorem failsafeSounds_cabinListsOnly (s : State) : CabinListsOnly s (failsafeSounds s) :=
  ((foldl_cutEntry_cutOnly _ s).lists.trans (voicesLook_coresKept _).lists).trans (failsafeChime_cabinListsOnly _)

theorem afterCuts_noContinuous (s : State) : ∀ y ∈ (afterCuts s).chimes.queue, y.remaining ≠ .continuous := by
  intro y hy
  obtain ⟨x, hx, hcore⟩ := (voicesLook_coresKept _).mem hy
  have hrem : x.remaining = y.remaining := congrArg (fun c => c.2.2.1) hcore
  exact hrem ▸ cuts_noContinuous s x hx

theorem afterCuts_pattern (s : State) :
    ∀ y ∈ (afterCuts s).chimes.queue, ∃ x ∈ s.chimes.queue, x.pattern = y.pattern := by
  intro y hy
  obtain ⟨x, hx, hcore⟩ := (voicesLook_coresKept _).mem hy
  obtain ⟨w, hw, hwx, _⟩ := (foldl_cutEntry_cutOnly _ s).mem x hx
  exact ⟨w, hw, hwx.trans (congrArg (fun c => c.1) hcore)⟩

/-- No CONTINUOUS chime is left but the fail-safe chime (R97). -/
theorem failsafeSounds_noContinuous (s : State) :
    ∀ e ∈ (failsafeSounds s).chimes.queue, e.remaining = .continuous → s.safety.config.chime = some e.pattern := by
  intro e he hc
  obtain ⟨hsafety, _⟩ := afterCuts_config s
  rw [failsafeSounds_eq] at he
  cases hchime : s.safety.config.chime with
  | none =>
    rw [failsafeChime_none (by rw [hsafety, hchime])] at he
    exact absurd hc (afterCuts_noContinuous s e he)
  | some p =>
    rcases (failsafeChime_taken (by rw [hsafety, hchime])).mem e he with hp | ⟨x, hx, _, hxr⟩
    · rw [hp]
    · exact absurd (hxr.trans hc) (afterCuts_noContinuous s x hx)

theorem failsafeSounds_pattern {s : State} (hchime : s.safety.config.chime = none) :
    ∀ e ∈ (failsafeSounds s).chimes.queue, ∃ y ∈ s.chimes.queue, y.pattern = e.pattern := by
  obtain ⟨hsafety, _⟩ := afterCuts_config s
  rw [failsafeSounds_eq, failsafeChime_none (by rw [hsafety, hchime])]
  exact afterCuts_pattern s

section
variable {s : State} {p : PatternId} {t : Pattern} (hchime : s.safety.config.chime = some p)
  (hpat : s.patterns.table[p] = some t) (hserved : s.safety.config.chimeZones.toList.any (isServed s.install) = true)
include hchime hpat hserved

/-- The fail-safe chime is requested for its zones after the cuts. -/
theorem failsafeSounds_takes : failsafeSounds s = (takeChime p t s.safety.config.chimeZones (afterCuts s)).1 := by
  obtain ⟨hsafety, hpatterns, hinstall, _⟩ := afterCuts_config s
  rw [failsafeSounds_eq, failsafeChime_some (t := t) (by rw [hsafety, hchime]) (by rw [hpatterns, hpat])
    (by rw [hsafety, hinstall, hserved]), hsafety]

/-- An entry that the cuts leave takes the fail-safe chime's zones and repeats. -/
theorem failsafeSounds_merges {e : ChimeEntry} (hok : ChimesOk s) (h : entryFor s p = some e)
    (hstay : e.remaining ≠ .continuous ∨ ¬ InRepeatGap s e) :
    (entryFor (failsafeSounds s) p).map ChimeEntry.core =
      some (p, e.zones.union s.safety.config.chimeZones, t.repeats, false, e.arrival) := by
  obtain ⟨y, hy, hzones, harrival⟩ := cuts_keep_entry hok h hstay
  have hcore : (entryFor (afterCuts s) p).map ChimeEntry.core = _ := (voicesLook_coresKept _).entryFor_core p
  rw [hy, Option.map_some, Option.map_eq_some_iff] at hcore
  obtain ⟨x, hx, hxy⟩ := hcore
  have hxz : x.zones = y.zones := congrArg (fun c => c.2.1) hxy
  have hxa : x.arrival = y.arrival := congrArg (fun c => c.2.2.2.2) hxy
  rw [failsafeSounds_takes hchime hpat hserved, takeChime_merges t _ hx, hxz, hxa, hzones, harrival]

/-- Where the cuts leave no entry of its pattern, and room, the fail-safe chime is queued anew. -/
theorem failsafeSounds_places (h : entryFor (s.chimes.queue.foldl cutEntry s) p = none)
    (hroom : (s.chimes.queue.foldl cutEntry s).chimes.queue.length < 8) :
    (entryFor (failsafeSounds s) p).map ChimeEntry.core =
      some (p, s.safety.config.chimeZones, t.repeats, false, s.chimes.nextArrival) := by
  have hlook := voicesLook_coresKept (s.chimes.queue.foldl cutEntry s)
  have hnone : entryFor (afterCuts s) p = none := by
    have hcore := hlook.entryFor_core p
    rwa [h, Option.map_none, Option.map_eq_none_iff] at hcore
  obtain ⟨_, _, _, harrival⟩ := afterCuts_config s
  rw [failsafeSounds_takes hchime hpat hserved, takeChime_places t _ hnone (hlook.length_eq.trans_lt hroom), harrival]

end

/-! ### The watchdog's expiry -/

theorem watchdogExpires_of_not_counting {s : State} (h : ∀ n, s.cp.watchdog ≠ .counting n) : watchdogExpires s = s := by
  unfold watchdogExpires
  split
  · exact absurd ‹_› (h _)
  · rfl

theorem watchdogExpires_of_counting {s : State} {n : Nat} (h : s.cp.watchdog = .counting n) :
    watchdogExpires s =
      if s.sc.opState = .run then enterFailsafe (setWatchdog .expired s) else setWatchdog .expired s := by
  simp only [watchdogExpires, h]

/-- The state at fail-safe entry as the sounds find it. -/
def beforeSounds (s : State) : State :=
  applyProfiles (removePrompts (post .failsafeEntered 0 (u16 s.safety.config.watchdogMs)
    (s.modSc (fun c => { c with opState := .failsafe, failsafeMs := 0 }))))

theorem enterFailsafe_eq (s : State) : enterFailsafe s = failsafeSounds (beforeSounds s) := rfl

theorem beforeSounds_within (s : State) : Within [.sc, .zr] s (beforeSounds s) :=
  ((((modSc_within _ s).trans (post_within _ _ _ _)).trans (removePrompts_within _)).trans (applyProfiles_within _)).mono

theorem removePrompts_chimes (s : State) : (removePrompts s).chimes = s.chimes := by
  refine foldl_keeps (P := fun t => t.chimes = s.chimes) (fun t c ht => ?_) Cabin.all rfl
  rw [removeEntry_eq]
  exact ht

theorem applyProfiles_chimes (s : State) : (applyProfiles s).chimes = s.chimes := by
  refine foldl_keeps (P := fun t => t.chimes = s.chimes) (fun t z ht => ?_) Zone.all rfl
  split
  · rw [setQuiet_eq]
    exact ht
  · exact ht

theorem beforeSounds_chimes (s : State) : (beforeSounds s).chimes = s.chimes := by
  rw [beforeSounds, applyProfiles_chimes, removePrompts_chimes]
  rfl

section
variable {s t : State} (h : t.chimes = s.chimes)
include h

theorem voiceOf_congr : voiceOf t = voiceOf s := by
  funext v
  cases v <;> simp only [voiceOf, h]

theorem entryFor_congr (p : PatternId) : entryFor t p = entryFor s p := by
  simp only [entryFor, h]

theorem inRepeatGap_congr (e : ChimeEntry) : InRepeatGap t e ↔ InRepeatGap s e := by
  rw [InRepeatGap, InRepeatGap, voiceOf_congr h]

theorem chimesOk_congr (hs : ChimesOk s) : ChimesOk t := by
  have hon : entryOn t = entryOn s := by
    funext v
    simp only [entryOn, h]
  unfold ChimesOk at hs ⊢
  rw [h, voiceOf_congr h, hon]
  exact hs

end

/-- Fail-safe entry by what it does to the zones: prompts removed, profiles applied, and then the chimes' entries. -/
theorem enterFailsafe_zones (s : State) :
    ∃ a, CabinListsOnly s a ∧ (∀ c, ∀ e ∈ listOf a (.cabin c), e.cls ≠ .prompt) ∧ QuietOnly a (beforeSounds s) ∧
      (∀ z, quietOf (beforeSounds s) z = (s.safety.config.profile.get z == .quiet || quietOf a z)) ∧
      CabinListsOnly (beforeSounds s) (enterFailsafe s) := by
  have hsafety := ((modSc_within (fun c => { c with opState := .failsafe, failsafeMs := 0 }) s).trans
    ((post_within .failsafeEntered 0 (u16 s.safety.config.watchdogMs) _).trans (removePrompts_within _))).safety_eq
  refine ⟨_, ?_, removePrompts_noPrompt _, applyProfiles_quietOnly _, fun z => ?_, failsafeSounds_cabinListsOnly _⟩
  · refine CabinListsOnly.trans ?_ (removePrompts_cabinListsOnly _)
    exact .of_zr_eq rfl
  · refine (quietOf_applyProfiles _ z).trans ?_
    rw [hsafety]

theorem enterFailsafe_noPrompt (s : State) (c : Cabin) : ∀ e ∈ listOf (enterFailsafe s) (.cabin c), e.cls ≠ .prompt := by
  obtain ⟨a, _, hnone, hquiet, _, hsounds⟩ := enterFailsafe_zones s
  refine hsounds.noPrompt c fun e he => hnone c e ?_
  rwa [hquiet.listOf_eq] at he

theorem enterFailsafe_flags (s : State) (z : Zone) :
    quietOf (enterFailsafe s) z = (s.safety.config.profile.get z == .quiet || quietOf s z) ∧
      muteOf (enterFailsafe s) z = muteOf s z ∧ baseOf (enterFailsafe s) z = baseOf s z := by
  obtain ⟨a, hprompts, _, hquiet, hflags, hsounds⟩ := enterFailsafe_zones s
  refine ⟨?_, ?_, ?_⟩
  · rw [hsounds.quietOf_eq, hflags, hprompts.quietOf_eq]
  · rw [hsounds.muteOf_eq, hquiet.muteOf_eq, hprompts.muteOf_eq]
  · rw [hsounds.baseOf_eq, hquiet.baseOf_eq, hprompts.baseOf_eq]

theorem enterFailsafe_settings (s : State) :
    (enterFailsafe s).zr.cabin = s.zr.cabin ∧ (enterFailsafe s).zr.ducks = s.zr.ducks ∧
      (enterFailsafe s).zr.trims = s.zr.trims ∧
      ∀ h : Hp, (enterFailsafe s).zr.hps.get h = { s.zr.hps.get h with quiet := quietOf (enterFailsafe s) (.hp h) } := by
  obtain ⟨a, hprompts, _, hquiet, _, hsounds⟩ := enterFailsafe_zones s
  refine ⟨?_, ?_, ?_, fun h => ?_⟩
  · rw [hsounds.cabin, hquiet.cabin, hprompts.cabin]
  · rw [hsounds.ducks, hquiet.ducks, hprompts.ducks]
  · rw [hsounds.trims, hquiet.trims, hprompts.trims]
  · rw [hsounds.quietOf_eq, hsounds.hps, hquiet.hps h, hprompts.hps]

/-- No CONTINUOUS chime is left but the fail-safe chime (R97). -/
theorem enterFailsafe_noContinuous (s : State) :
    ∀ e ∈ (enterFailsafe s).chimes.queue, e.remaining = .continuous → s.safety.config.chime = some e.pattern := by
  rw [enterFailsafe_eq, ← (beforeSounds_within s).safety_eq]
  exact failsafeSounds_noContinuous _

theorem enterFailsafe_pattern {s : State} (h : s.safety.config.chime = none) :
    ∀ e ∈ (enterFailsafe s).chimes.queue, ∃ y ∈ s.chimes.queue, y.pattern = e.pattern := by
  rw [← (beforeSounds_within s).safety_eq] at h
  rw [enterFailsafe_eq, ← beforeSounds_chimes s]
  exact failsafeSounds_pattern h

/-- FAILSAFE_ENTERED is queued where there is room (R20). -/
theorem enterFailsafe_tells {s : State} (hroom : s.cp.reports.length < 24) :
    (⟨.failsafeEntered, 0, reportData (u16 s.safety.config.watchdogMs)⟩ : Report) ∈ (enterFailsafe s).cp.reports := by
  have hafter : Posted (post .failsafeEntered 0 (u16 s.safety.config.watchdogMs)
      (s.modSc (fun c => { c with opState := .failsafe, failsafeMs := 0 }))).cp (enterFailsafe s).cp :=
    (((removePrompts_within _).trans (applyProfiles_within _)).trans (failsafeSounds_within _)).posted
  exact hafter.mem_of_event (mem_post_of_event (s := s.modSc _) rfl hroom) rfl

/-- An entry's core without its pattern. -/
theorem entryFor_tail {t : State} {p : PatternId} {c : CabinSet × Repeats × Bool × Nat}
    (h : (entryFor t p).map ChimeEntry.core = some (p, c)) :
    (entryFor t p).map (fun y => (y.zones, y.remaining, y.cutShort, y.arrival)) = some c := by
  have hsnd := congrArg (Option.map Prod.snd) h
  rw [Option.map_map] at hsnd
  exact hsnd

section
variable {s : State} {p : PatternId} {t : Pattern} (hchime : s.safety.config.chime = some p) (hok : ChimesOk s)
  (hpat : s.patterns.table[p] = some t) (hserved : s.safety.config.chimeZones.toList.any (isServed s.install) = true)
include hchime hok hpat hserved

/-- The fail-safe chime merges into its pattern's entry (R97). -/
theorem enterFailsafe_merges {e : ChimeEntry} (h : entryFor s p = some e)
    (hstay : e.remaining ≠ .continuous ∨ ¬ InRepeatGap s e) :
    (entryFor (enterFailsafe s) p).map (fun y => (y.zones, y.remaining, y.cutShort, y.arrival)) =
      some (e.zones.union s.safety.config.chimeZones, t.repeats, false, e.arrival) := by
  have hw := beforeSounds_within s
  have hch := beforeSounds_chimes s
  have hmerge := failsafeSounds_merges (s := beforeSounds s) (p := p) (t := t) (by rw [hw.safety_eq, hchime])
    (by rw [hw.patterns_eq, hpat]) (by rw [hw.safety_eq, hw.install_eq, hserved]) (chimesOk_congr hch hok)
    ((entryFor_congr hch p).trans h) (hstay.imp_right fun hn hin => hn ((inRepeatGap_congr hch e).1 hin))
  rw [hw.safety_eq] at hmerge
  exact entryFor_tail hmerge

/-- Where none of its pattern stands, or one that the cuts remove, the fail-safe chime is queued anew (R97). -/
theorem enterFailsafe_places
    (hfree : entryFor s p = none ∧ s.chimes.queue.length < 8 ∨
      ∃ e, entryFor s p = some e ∧ e.remaining = .continuous ∧ InRepeatGap s e) :
    (entryFor (enterFailsafe s) p).map (fun y => (y.zones, y.remaining, y.cutShort, y.arrival)) =
      some (s.safety.config.chimeZones, t.repeats, false, s.chimes.nextArrival) := by
  have hw := beforeSounds_within s
  have hch := beforeSounds_chimes s
  have hcut : entryFor ((beforeSounds s).chimes.queue.foldl cutEntry (beforeSounds s)) p = none ∧
      ((beforeSounds s).chimes.queue.foldl cutEntry (beforeSounds s)).chimes.queue.length < 8 := by
    rcases hfree with ⟨hnone, hroom⟩ | ⟨e, he, hc, hin⟩
    · refine ⟨cuts_find_none ((entryFor_congr hch p).trans hnone), ?_⟩
      exact (foldl_cutEntry_cutOnly _ _).length.trans_lt (by rwa [hch])
    · exact cuts_drop_entry (chimesOk_congr hch hok) ((entryFor_congr hch p).trans he) hc
        ((inRepeatGap_congr hch e).2 hin)
  have hplace := failsafeSounds_places (s := beforeSounds s) (p := p) (t := t) (by rw [hw.safety_eq, hchime])
    (by rw [hw.patterns_eq, hpat]) (by rw [hw.safety_eq, hw.install_eq, hserved]) hcut.1 hcut.2
  rw [hw.safety_eq, hch] at hplace
  exact entryFor_tail hplace

end

section
variable (s : State)

theorem listOf_settle : listOf (settle s) = listOf s := rfl
theorem quietOf_settle : quietOf (settle s) = quietOf s := rfl
theorem muteOf_settle : muteOf (settle s) = muteOf s := rfl
theorem baseOf_settle : baseOf (settle s) = baseOf s := rfl
theorem entryFor_settle : entryFor (settle s) = entryFor s := rfl

end

/-- Settles O19: fail-safe entry posts its report, removes the prompts, applies the profiles, and then cuts the CONTINUOUS
chimes and requests the fail-safe chime. -/
theorem expiryEntersFailsafe : Obligations.ExpiryEntersFailsafe := by
  unfold Obligations.ExpiryEntersFailsafe
  intro s
  have hexec : exec .watchdogExpiry s = .next (settle (watchdogExpires s)) := rfl
  refine ⟨fun hidle => ?_, fun n hn hrun => ?_, fun n hn hrun => ?_⟩
  · rw [hexec, watchdogExpires_of_not_counting hidle]
  · rw [hexec, watchdogExpires_of_counting hn, if_neg hrun]
    rfl
  · have hw := enterFailsafe_within (setWatchdog .expired s)
    obtain ⟨hcabin, hducks, htrims, hhps⟩ := enterFailsafe_settings (setWatchdog .expired s)
    have hnoPrompt := enterFailsafe_noPrompt (setWatchdog .expired s)
    have hflags := enterFailsafe_flags (setWatchdog .expired s)
    have hcounted := enterFailsafe_noContinuous (setWatchdog .expired s)
    refine ⟨settle (enterFailsafe (setWatchdog .expired s)), ?_, ?_⟩
    · rw [hexec, watchdogExpires_of_counting hn, if_pos hrun]
    simp only [settle_cp, settle_sc, settle_zr, settle_queue, listOf_settle, quietOf_settle, muteOf_settle, baseOf_settle,
      entryFor_settle]
    refine ⟨enterFailsafe_sc _, hw.posted.watchdog_eq,
      hw.posted.reply_eq, hw.posted.masked_eq, fun hroom => enterFailsafe_tells (s := setWatchdog .expired s) hroom,
      hnoPrompt, hflags, hcabin, hducks, htrims, hhps, hcounted, enterFailsafe_pattern (s := setWatchdog .expired s),
      fun id hchime hok pat hpat hserved => ⟨fun e he hstay => ?_, fun hfree => ?_⟩, fun b hb => ?_⟩
    · exact enterFailsafe_merges (s := setWatchdog .expired s) hchime hok hpat hserved he hstay
    · refine enterFailsafe_places (s := setWatchdog .expired s) hchime hok hpat hserved (hfree.imp_right fun hany => ?_)
      obtain ⟨e, he, hin⟩ := (Option.any_eq_true _ _).1 hany
      obtain ⟨hc, hgap⟩ := Bool.and_eq_true_iff.1 hin
      exact ⟨e, he, beq_iff_eq.1 hc, beq_iff_eq.1 hgap⟩
    · refine Block.same_trans (t := setWatchdog .expired s) ?_ ((hw.settled).same b (by simp_all))
      cases b <;> simp [Block.same, setWatchdog] at hb ⊢

end Sys2Proof.Machine
end

section
/-! SUPPORT. The frame of every command beside the Control Port, the few that act on it themselves among them, and what an
installation write keeps (R22). -/

-- One declaration at a time: together they would start more threads than the check's memory limit has stacks for.
set_option Elab.async false

namespace Sys2Proof.Machine

/-! ### Every command's frame -/

theorem keepsBut.trans {bs : List Block} {s t u : State} (h : keepsBut bs s t) (h' : keepsBut bs t u) : keepsBut bs s u :=
  fun b hb => Block.same_trans (h b hb) (h' b hb)

theorem keepsBut.mono {as bs : List Block} {s t : State} (h : keepsBut as s t) (hs : as ⊆ bs := by decide) :
    keepsBut bs s t := fun b hb => h b (fun hm => hb (hs hm))

theorem keepsBut.refl {bs : List Block} {s : State} : keepsBut bs s s := fun b _ => b.same_refl s

/-- A change of the Control Port alone. -/
theorem modCp_keepsBut (g : ControlPort → ControlPort) (s : State) : keepsBut [.cp] s (s.modCp g) :=
  fun b hb => by cases b <;> simp [Block.same] at hb ⊢

/-- A change of the Control Port that the settling of the paths follows. -/
theorem keepsBut_replied (kind : Byte) (status : Status) (body : Bytes) (s : State) :
    keepsBut [.cp] s (settle (setReply kind status body s)) :=
  (modCp_keepsBut _ s).trans (settle_within _).same

/-- How a command was handled that may change the named blocks and the Control Port: as an event, or as a frame that
arrived. -/
inductive Touched (bs : List Block) (s : State) : State → Prop where
  | event {t : State} (h : keepsBut (.cp :: bs) s t) : Touched bs s t
  | frame {t : State} (kind : Byte) (h : keepsBut (.cp :: bs) (arrival kind s) t) : Touched bs s t

theorem Touched.of_request {bs : List Block} {k : Kind} {body : Bytes} {act : State → Answer} {s : State}
    (ha : ∀ u, keepsBut (.cp :: bs) u (act u).state) : Touched bs s (request k body act s) :=
  .frame k.code (request_keeps (P := keepsBut (.cp :: bs) (arrival k.code s))
    (fun _ _ _ _ hu => hu.trans (keepsBut.mono (keepsBut_replied _ _ _ _) (by simp))) (fun b _ => b.same_refl _)
    (fun u _ hu => hu.trans (ha u)))

theorem Handled.touched {bs : List Block} {s t : State} (h : Handled bs s t) : Touched bs s t := by
  cases h with
  | event h => exact .event h.same
  | frame kind reply status body h =>
    exact .frame kind (h.same.trans (keepsBut.mono (keepsBut_replied _ _ _ _) (by simp)))

/-- The blocks that a command may change beside the Control Port, the arrival of its frame apart: those of `Instr.touches`,
which START_AUDIO and STANDBY do not all change. -/
def Instr.changes : Instr → List Block
  | .startAudio _ => [.sc, .os, .clp, .zr, .rx, .af, .tw, .slm]
  | .standby _ => [.sc, .safety, .patterns, .os, .rx, .af, .slm, .tw, .chimes, .zr, .clp]
  | i => Instr.touches i

theorem answerStartAudio_keepsBut (s : State) :
    keepsBut [.cp, .sc, .os, .clp, .zr, .rx, .af, .tw, .slm] s (answerStartAudio s).state := by
  unfold answerStartAudio
  split
  · exact .refl
  · split
    · exact .refl
    · split
      · exact .refl
      · rw [accept_state]
        have running := (modSc_within (fun c => { c with opState := .run }) s).same
        have counting := modCp_keepsBut (fun cp => { cp with watchdog := .counting s.safety.config.watchdogMs })
          (s.modSc (fun c => { c with opState := .run }))
        exact (running.mono.trans counting.mono).trans (startAudio_within s).same.mono

theorem answerStandby_keepsBut (s : State) :
    keepsBut [.cp, .sc, .safety, .patterns, .os, .rx, .af, .slm, .tw, .chimes, .zr, .clp] s (answerStandby s).state := by
  unfold answerStandby
  split
  · exact .refl
  · split
    · exact .refl
    · rw [accept_state]
      have closed := (((modSc_within (fun c => { c with opState := .standby }) s).trans (endLoad_within _)).trans
        (modSafety_within (fun f => { f with windowOpen := false }) _)).same
      exact (closed.mono.trans (modCp_keepsBut _ _).mono).trans (enterStandby_within s).same.mono

theorem answerMask_keepsBut (body : Bytes) (s : State) : keepsBut [.cp] s (answerMask body s).state := by
  unfold answerMask
  split
  · exact .refl
  · exact modCp_keepsBut _ s

/-- A reset keeps the pins and the waiting commands. -/
theorem keepsBut_of_reset {s t : State} (hpins : t.pins = s.pins) (hpending : t.pending = s.pending) :
    keepsBut (.cp :: Instr.changes .powerOnReset) s t :=
  fun b hb => by
    cases b with
    | pins => exact hpins
    | pending => exact hpending
    | _ => simp [Instr.changes, Instr.touches] at hb

theorem watchdogExpires_keepsBut (s : State) : keepsBut [.cp, .sc, .zr, .chimes] s (watchdogExpires s) := by
  unfold watchdogExpires
  split
  · dsimp only
    split
    · exact (modCp_keepsBut _ s).mono.trans (enterFailsafe_within _).same
    · exact (modCp_keepsBut _ s).mono
  · exact .refl

/-- Every command changes the blocks that it names, the Control Port and what its frame's arrival changes, and no other. -/
theorem exec_touched (i : Instr) (s t : State) (h : exec i s = .next t) : Touched (Instr.changes i) s t := by
  have next {u : State} (hu : exec i s = .next u) : u = t := Host.Outcome.next.inj (hu.symm.trans h)
  by_cases hi : Instr.portPlain i = true
  · have hc : Instr.changes i = Instr.touches i := by cases i <;> first | rfl | simp [Instr.portPlain] at hi
    exact hc ▸ (exec_handled i s t h hi).touched
  cases i with
  | powerOnReset => exact next rfl ▸ .event (keepsBut_of_reset rfl rfl)
  | frameError received => exact next rfl ▸ .event (modCp_keepsBut _ s)
  | fetchReports body => exact next rfl ▸ .of_request (fun u => modCp_keepsBut _ u)
  | setReportMask body => exact next rfl ▸ .of_request (answerMask_keepsBut body)
  | startAudio body => exact next rfl ▸ .of_request answerStartAudio_keepsBut
  | standby body => exact next rfl ▸ .of_request answerStandby_keepsBut
  | restart body => exact next rfl ▸ .of_request (fun u => keepsBut_of_reset rfl rfl)
  | watchdogExpiry =>
    exact next rfl ▸ .event ((watchdogExpires_keepsBut s).trans (settle_within _).same.mono)
  | _ => exact absurd rfl hi

/-! ### Blocks that a frame's arrival leaves alone -/

theorem Touched.install_eq {bs : List Block} {s t : State} (h : Touched bs s t) (hb : .install ∉ bs) :
    t.install = s.install := by
  cases h with
  | event h => exact h .install (by simpa using hb)
  | frame kind h => exact (h .install (by simpa using hb)).trans (arrival_install kind s)

theorem Touched.safety_eq {bs : List Block} {s t : State} (h : Touched bs s t) (hb : .safety ∉ bs) :
    t.safety = s.safety := by
  cases h with
  | event h => exact h .safety (by simpa using hb)
  | frame kind h => exact (h .safety (by simpa using hb)).trans (arrival_safety kind s)

/-- A step: a millisecond, or the front command on the state with the queue's rest. -/
theorem step_cases {s t : State} (h : Machine.step s = .next t) :
    (s.pending = [] ∧ t = elapse s) ∨ ∃ i rest, s.pending = i :: rest ∧ exec i (s.setPending rest) = .next t := by
  unfold Machine.step at h
  split at h
  · exact .inl ⟨by assumption, (Host.Outcome.next.inj h).symm⟩
  · exact .inr ⟨_, _, by assumption, h⟩

/-! ### A write to the installation record (R22) -/

theorem Install.heldBy_refl (i : Install) : i.heldBy i := by simp [Install.heldBy]

/-- A field that is set holds back one that is not: the write of an UNSET field leaves every written field as it was. -/
theorem Install.heldBy_write {i : Install} {f : InstallField} (v : InstallValue) (h : installSet i f = false) :
    i.heldBy (i.write f v) := by
  have entry {α : Type} {n : Nat} (w : Vector (Option α) n) (k : Fin n) (x : α) (hk : w[k].isSome = false) (j : Fin n) :
      w[j] = none ∨ (w.set k (some x))[j] = w[j] := by
    by_cases hj : k = j
    · exact .inl (by simpa [hj] using hk)
    · exact .inr (by simp [Fin.val_inj, hj])
  unfold Install.write
  split <;> simp only [installSet] at h
  · simp_all [Install.heldBy]
  · simpa [Install.heldBy] using entry _ _ _ h
  · simpa [Install.heldBy] using entry _ _ _ h
  · simpa [Install.heldBy] using entry _ _ _ h
  · simp only [Install.heldBy, PerHp.get_set]
    grind [Option.isSome_eq_false_iff, Option.isNone_iff_eq_none]
  · simp only [Install.heldBy, PerMic.get_set]
    grind [Option.isSome_eq_false_iff, Option.isNone_iff_eq_none]
  · simp_all [Install.heldBy]
  · exact i.heldBy_refl

/-- An installation record is another one, or it with one UNSET field written that R23 does not refuse. -/
def Install.WrittenTo (i j : Install) : Prop :=
  j = i ∨ ∃ f v, installSet i f = false ∧ installConflict i f v = false ∧ j = i.write f v

theorem Install.WrittenTo.heldBy {i j : Install} (h : i.WrittenTo j) : i.heldBy j := by
  obtain rfl | ⟨f, v, hset, _, rfl⟩ := h
  · exact j.heldBy_refl
  · exact Install.heldBy_write v hset

theorem answerInstall_writtenTo (body : Bytes) (s : State) :
    s.install.WrittenTo (answerInstall body s).state.install := by
  unfold answerInstall
  split
  · split
    · exact .inl rfl
    · rename_i f _
      split
      · exact .inl rfl
      · rename_i v _
        split
        · exact .inl rfl
        · split
          · exact .inl rfl
          · rename_i hset hconflict
            refine .inr ⟨f, v, by simpa using hset, by simpa using hconflict, ?_⟩
            rw [accept_state, (installEffect_within f v _).install_eq]
            rfl
  · exact .inl rfl

theorem execSetInstall_writtenTo (body : Bytes) (s : State) :
    s.install.WrittenTo (request .setInstall body (answerInstall body) s).install := by
  unfold request answerTo
  rw [← arrival_install Kind.setInstall.code s]
  split
  · exact .inl rfl
  · split
    · exact .inl rfl
    · exact answerInstall_writtenTo body _

/-- SET_INSTALL alone writes the installation record, a power-on reset apart: every other command keeps it (R21, R22). -/
theorem exec_writtenTo {i : Instr} {s t : State} (h : exec i s = .next t) (hi : i ≠ .powerOnReset) :
    s.install.WrittenTo t.install := by
  have next {u : State} (hu : exec i s = .next u) : u = t := Host.Outcome.next.inj (hu.symm.trans h)
  by_cases hb : (Instr.changes i).contains .install = false
  · exact .inl ((exec_touched i s t h).install_eq (by simpa using hb))
  cases i with
  | powerOnReset => exact absurd rfl hi
  | setInstall body => exact next rfl ▸ execSetInstall_writtenTo body s
  | restart body =>
    refine .inl (next rfl ▸ ?_)
    exact request_keeps (P := fun u => u.install = s.install) (fun _ _ _ _ hu => hu) (arrival_install _ s) (fun _ _ hu => hu)
  | _ => exact absurd rfl hb

/-- Settles O14: a step writes an UNSET field at most (`exec_writtenTo`), and such a write leaves every written field as it
was. -/
theorem installationIsWrittenOnce : Obligations.InstallationIsWrittenOnce := by
  unfold Obligations.InstallationIsWrittenOnce
  intro s t hfront h
  obtain ⟨_, rfl⟩ | ⟨i, rest, hp, hx⟩ := step_cases h
  · exact s.install.heldBy_refl
  · exact (exec_writtenTo hx (fun hi => hfront (by simp [hp, hi]))).heldBy

end Sys2Proof.Machine
end

section
/-! SUPPORT. The lock (R26 to R28): what every command keeps of the safety configuration, pattern memory and the pattern
table, and of the roles that name a zone (R23). -/

-- One declaration at a time: together they would start more threads than the check's memory limit has stacks for.
set_option Elab.async false

namespace Sys2Proof.Machine

/-! ### What the lock guards -/

/-- The lock, the safety configuration, pattern memory and the pattern table stand as they were; the edit window and the load
cursor may have moved. -/
structure Guarded (s t : State) : Prop where
  locked : t.safety.locked = s.safety.locked
  config : t.safety.config = s.safety.config
  memory : t.patterns.memory = s.patterns.memory
  table : t.patterns.table = s.patterns.table

theorem Guarded.of_eq {s t : State} (hs : t.safety = s.safety) (hp : t.patterns = s.patterns) : Guarded s t :=
  ⟨by rw [hs], by rw [hs], by rw [hp], by rw [hp]⟩

theorem Guarded.refl {s : State} : Guarded s s := .of_eq rfl rfl

theorem Guarded.trans {s t u : State} (h : Guarded s t) (h' : Guarded t u) : Guarded s u :=
  ⟨h'.locked.trans h.locked, h'.config.trans h.config, h'.memory.trans h.memory, h'.table.trans h.table⟩

theorem arrival_guarded (kind : Byte) (s : State) : Guarded s (arrival kind s) := by
  have hp := arrival_patterns kind s
  exact ⟨by rw [arrival_safety], by rw [arrival_safety], by rw [hp], by rw [hp]⟩

theorem Touched.guarded {bs : List Block} {s t : State} (h : Touched bs s t) (hs : .safety ∉ bs) (hp : .patterns ∉ bs) :
    Guarded s t := by
  have same {v : State} (hk : keepsBut (.cp :: bs) v t) : Guarded v t :=
    .of_eq (hk .safety (by simpa using hs)) (hk .patterns (by simpa using hp))
  cases h with
  | event h => exact same h
  | frame kind h => exact (arrival_guarded kind s).trans (same h)

theorem request_guarded {k : Kind} {body : Bytes} {act : State → Answer} {s : State}
    (ha : ∀ u, u.safety.locked = s.safety.locked → Guarded u (act u).state) : Guarded s (request k body act s) :=
  request_keeps (P := Guarded s) (fun _ _ _ _ hu => ⟨hu.1, hu.2, hu.3, hu.4⟩) (arrival_guarded _ s) (fun u _ hu => hu.trans (ha u hu.locked))

/-- While LOCKED the owner of an edit refuses (R26). -/
theorem whileEditing_locked {act : State → Answer} {s : State} (h : s.safety.locked = true) :
    whileEditing act s = refuse s .locked := by
  simp [whileEditing, h]

theorem answerOpenEdit_guarded (s : State) : Guarded s (answerOpenEdit s).state := by
  unfold answerOpenEdit
  split <;> exact ⟨rfl, rfl, rfl, rfl⟩

theorem answerPatternLoad_guarded (body : Bytes) (s : State) : Guarded s (answerPatternLoad body s).state := by
  unfold answerPatternLoad
  split
  · split <;> exact ⟨rfl, rfl, rfl, rfl⟩
  · exact .refl

theorem answerStandby_guarded (s : State) : Guarded s (answerStandby s).state := by
  unfold answerStandby
  split
  · exact .refl
  · split
    · exact .refl
    · have hw := enterStandby_within s
      rw [accept_state]
      exact ⟨by rw [hw.safety_eq]; rfl, by rw [hw.safety_eq]; rfl, by rw [hw.patterns_eq]; rfl, by rw [hw.patterns_eq]; rfl⟩

/-- The requests that write the safety configuration, the lock, pattern memory or the pattern table, each in the edit
window of an UNLOCKED part alone (R26). -/
def Instr.isEdit : Instr → Bool
  | .setSafety _ | .lockSafety _ | .patternSegment _ | .definePattern _ => true
  | _ => false

/-- No command but a power-on reset changes what the lock guards, unless it edits and the part is UNLOCKED. -/
theorem exec_guarded {i : Instr} {s t : State} (h : exec i s = .next t) (hi : i ≠ .powerOnReset)
    (hedit : s.safety.locked = true ∨ Instr.isEdit i = false) : Guarded s t := by
  have next {u : State} (hu : exec i s = .next u) : u = t := Host.Outcome.next.inj (hu.symm.trans h)
  by_cases hb : (Instr.changes i).contains .safety = false ∧ (Instr.changes i).contains .patterns = false
  · exact (exec_touched i s t h).guarded (by simpa using hb.1) (by simpa using hb.2)
  have refused {act : State → Answer} (hi : Instr.isEdit i = true) (u : State) (hu : u.safety.locked = s.safety.locked) :
      Guarded u (whileEditing act u).state := by
    rw [whileEditing_locked (hu.trans (hedit.resolve_right (by simp [hi]))), refuse_state]
    exact .refl
  cases i with
  | powerOnReset => exact absurd rfl hi
  | openSafetyEdit body => exact next rfl ▸ request_guarded (fun u _ => answerOpenEdit_guarded u)
  | setSafety body => exact next rfl ▸ request_guarded (refused rfl)
  | lockSafety body => exact next rfl ▸ request_guarded (refused rfl)
  | patternLoad body =>
    exact next rfl ▸ request_guarded (fun u _ => whileEditing_keeps .refl (answerPatternLoad_guarded body u))
  | patternSegment body => exact next rfl ▸ request_guarded (refused rfl)
  | definePattern body => exact next rfl ▸ request_guarded (refused rfl)
  | standby body => exact next rfl ▸ request_guarded (fun u _ => answerStandby_guarded u)
  | restart body => exact next rfl ▸ request_guarded (fun u _ => ⟨rfl, rfl, rfl, rfl⟩)
  | _ => exact absurd ⟨rfl, rfl⟩ hb

/-! ### Roles that name a zone -/

theorem servedBy_eq_some {i : Install} {c : Chan} {z : Cabin × Position} :
    servedBy i c = some z ↔ roleOf i c = some (.zone z.1 z.2) := by
  unfold servedBy
  split
  · rename_i h
    simp [h, Prod.ext_iff]
  · rename_i h
    exact iff_of_false (by simp) (fun hz => h _ _ hz)

theorem evenOf_pairOf {k : Amp} (h : isEvenAmp k = true) : evenOf (pairOf k) = k := by
  simp only [isEvenAmp, beq_iff_eq] at h
  ext
  simp only [evenOf, pairOf]
  omega

/-- R23 refuses to bridge a pair whose even channel's role names a zone. -/
theorem isBridgedEven_write {i : Install} {f : InstallField} {v : InstallValue} {k : Amp} {z : Cabin} {p : Position}
    (h : installConflict i f v = false) (hk : i.ampRole[k] = some (.zone z p)) (hb : isBridgedEven i k = false) :
    isBridgedEven (i.write f v) k = false := by
  by_cases he : isEvenAmp k = true
  · simp only [isBridgedEven, he, Bool.true_and, beq_eq_false_iff_ne, ne_eq] at hb ⊢
    unfold Install.write
    split <;> try exact hb
    rename_i q b
    by_cases hq : q = pairOf k
    · subst hq
      cases b with
      | false => simp
      | true => simp [installConflict, evenOf_pairOf he, hk] at h
    · simpa [Vector.getElem_set, Fin.val_inj, hq] using hb
  · simp [isBridgedEven, he]

/-- A pair is BRIDGED only where its even channel's role names no zone (R23), so that a write keeps every zone that a channel
serves. -/
theorem Install.WrittenTo.servedBy_eq {i j : Install} (h : i.WrittenTo j) {c : Chan} (hc : servedBy i c ≠ none) :
    servedBy j c = servedBy i c := by
  obtain ⟨z, hz⟩ := Option.ne_none_iff_exists'.1 hc
  rw [hz, servedBy_eq_some]
  rw [servedBy_eq_some] at hz
  obtain ⟨-, hamp, hdout, -⟩ := h.heldBy
  cases c with
  | hp g => simp [roleOf] at hz
  | dout k =>
    have hk : i.doutRole[k] = some (.zone z.1 z.2) := hz
    exact ((hdout k).resolve_left (by simp [hk])).trans hk
  | amp k =>
    simp only [roleOf] at hz ⊢
    split at hz
    · cases hz
    · rename_i hbridge
      have hbr : isBridgedEven j k = false := by
        obtain rfl | ⟨f, v, _, hconflict, rfl⟩ := h
        · simpa using hbridge
        · exact isBridgedEven_write hconflict hz (by simpa using hbridge)
      simp only [hbr, Bool.false_eq_true, if_false]
      exact ((hamp k).resolve_left (by simp [hz])).trans hz

/-! ### What reports the lock -/

theorem setSlot_reports_le (i : Fin 16) (c : Option Condition) (s : State) :
    (setSlot i c s).cp.reports.length ≤ s.cp.reports.length + 1 := by
  unfold setSlot
  dsimp only
  split
  · exact Nat.le_succ _
  · exact post_length_le .conditionChanged i.val _ (s.modCu _)

theorem evaluateSlot_reports_le (q : Quantity) (v : Int) (s : State) (i : Fin 16) :
    (evaluateSlot q v s i).cp.reports.length ≤ s.cp.reports.length + 1 := by
  unfold evaluateSlot
  split
  · exact Nat.le_succ _
  · split
    · exact setSlot_reports_le ..
    · exact Nat.le_succ _

theorem foldl_evaluateSlot_reports_le (q : Quantity) (v : Int) (l : List (Fin 16)) (s : State) :
    (l.foldl (evaluateSlot q v) s).cp.reports.length ≤ s.cp.reports.length + l.length := by
  induction l generalizing s with
  | nil => exact Nat.le_refl _
  | cons i l ih =>
    have hrest := ih (evaluateSlot q v s i)
    have hslot := evaluateSlot_reports_le q v s i
    rw [List.foldl_cons, List.length_cons]
    omega

/-- A receipt posts at most one report for each slot (R76, R78). -/
theorem receipt_reports_le (q : Quantity) (v : Int) (s : State) :
    (receipt q v s).cp.reports.length ≤ s.cp.reports.length + 16 := by
  unfold receipt
  have h := foldl_evaluateSlot_reports_le q (clampQuantity q v) slotsInOrder (storeValue q (clampQuantity q v) s)
  rwa [show slotsInOrder.length = 16 from rfl,
    show (storeValue q (clampQuantity q v) s).cp = s.cp from State.modCu_cp _ _] at h

/-- GET_PART_STATE reports the lock in the sixth byte of its body (R13, R28). -/
theorem partState_reports_lock {s : State} (hlock : s.safety.locked = true) (hop : s.sc.opState ≠ .failsafe) :
    ∃ u, exec (.getPartState []) s = .next u ∧ (u.cp.reply.bind (fun r => r.body[5]?)) = some 1#8 := by
  have hready : Ready .getPartState s := by
    refine accepted_anywhere (by simp) ?_
    simp [atRequest, arrival_sc, hop]
  refine ⟨_, congrArg Host.Outcome.next (request_accepting (act := answerPartState) rfl hready rfl), ?_⟩
  have hl : (atRequest .getPartState s).safety.locked = true := by
    rw [atRequest, arrival_safety, hlock]
  simp [State.accepting, State.replying, u16, u8, bit, hl]

/-- PART_READY reports the lock in its second data byte (R14, R28). -/
theorem partReady_reports_lock {s : State} (hlock : s.safety.locked = true) (hboot : s.sc.opState = .boot)
    (hempty : s.cp.reports = []) :
    ∃ u, exec .initialisationComplete s = .next u ∧
      (u.cp.reports.any (fun r => r.kind == .partReady && r.data[1]? == some 1#8)) = true := by
  refine ⟨_, exec_initialisationComplete s hboot, ?_⟩
  rw [settle_cp, List.any_eq_true]
  have hroom (u : State) (hu : u.cp = s.cp) : (receipt .callActive 0 u).cp.reports.length < 24 := by
    have hle := receipt_reports_le .callActive 0 u
    rw [hu, hempty, List.length_nil] at hle
    omega
  refine ⟨_, mem_post_of_event rfl (hroom _ rfl), ?_⟩
  simp [reportData, hlock]

/-- Settles O17: what the lock guards stands through every command (`exec_guarded`), and a write to the installation record
keeps every zone that a channel serves (`Install.WrittenTo.servedBy_eq`). -/
theorem lockHolds : Obligations.LockHolds := by
  unfold Obligations.LockHolds
  intro s t hlock hfront h
  have hkept : Guarded s t ∧ s.install.WrittenTo t.install := by
    obtain ⟨_, rfl⟩ | ⟨i, rest, hp, hx⟩ := step_cases h
    · exact ⟨⟨rfl, rfl, rfl, rfl⟩, .inl rfl⟩
    · have hi : i ≠ .powerOnReset := fun hi => hfront (by simp [hp, hi])
      have hg : Guarded (s.setPending rest) t := exec_guarded hx hi (.inl hlock)
      have hw : (s.setPending rest).install.WrittenTo t.install := exec_writtenTo hx hi
      exact ⟨⟨hg.1, hg.2, hg.3, hg.4⟩, hw⟩
  obtain ⟨⟨hlocked, hconfig, hmemory, htable⟩, hinstall⟩ := hkept
  exact ⟨hlocked.trans hlock, hconfig, hmemory, htable, fun c hc => hinstall.servedBy_eq hc,
    partState_reports_lock hlock, partReady_reports_lock hlock⟩

end Sys2Proof.Machine
end

section
/-! SUPPORT. The zone settings of section 3.3 (R36, R38, R40 to R42, R135): which operations leave every one of them as it
was. -/

-- One declaration at a time: together they would start more threads than the check's memory limit has stacks for.
set_option Elab.async false

namespace Sys2Proof.Machine

/-! ### The settings of the Zone Router -/

/-- The settings that have a range: the cabin's but its source, each headphone's steps and ceiling, the class ducks and the
trims. -/
def ZoneRouter.settings (r : ZoneRouter) : CabinSettings × (Hp → Nat × Nat × Nat) × Ducks × PerSource Int :=
  ({ r.cabin with base := none },
    fun h => ((r.hps.get h).volBase, (r.hps.get h).volCall, (r.hps.get h).ceiling), r.ducks, r.trims)

/-- From one state to another every setting that has a range is the same. -/
structure SettingsKept (s t : State) : Prop where
  same : t.zr.settings = s.zr.settings

theorem SettingsKept.refl {s : State} : SettingsKept s s := ⟨rfl⟩

theorem SettingsKept.trans {s t u : State} (h : SettingsKept s t) (h' : SettingsKept t u) : SettingsKept s u :=
  ⟨h'.same.trans h.same⟩

theorem SettingsKept.ite {s a b : State} {c : Prop} [Decidable c] (ha : SettingsKept s a) (hb : SettingsKept s b) :
    SettingsKept s (if c then a else b) := by
  split <;> assumption

theorem SettingsKept.foldl {α : Type} {f : State → α → State} (h : ∀ s a, SettingsKept s (f s a)) (l : List α)
    (s : State) : SettingsKept s (l.foldl f s) := by
  induction l generalizing s with
  | nil => exact .refl
  | cons a l ih => exact (h s a).trans (ih _)

theorem SettingsKept.of_zr {s t : State} (h : t.zr = s.zr) : SettingsKept s t :=
  ⟨congrArg ZoneRouter.settings h⟩

theorem Within.settings {bs : List Block} {s t : State} (h : Within bs s t) (hb : .zr ∉ bs := by decide) :
    SettingsKept s t := .of_zr (h.zr_eq hb)

theorem CabinListsOnly.settings {s t : State} (h : CabinListsOnly s t) : SettingsKept s t :=
  ⟨by simp only [ZoneRouter.settings, h.cabin, h.ducks, h.trims, h.hps]⟩

theorem QuietOnly.settings {s t : State} (h : QuietOnly s t) : SettingsKept s t :=
  ⟨by simp only [ZoneRouter.settings, h.cabin, h.ducks, h.trims, h.hps]⟩

/-- A headphone's record changed in none of its levels. -/
theorem modHp_settings (h : Hp) {f : HpZone → HpZone} (s : State)
    (hf : ∀ r, (f r).volBase = r.volBase ∧ (f r).volCall = r.volCall ∧ (f r).ceiling = r.ceiling) :
    SettingsKept s (modHp h f s) := by
  have levels (g : Hp) : ((modHp h f s).zr.hps.get g).volBase = (s.zr.hps.get g).volBase ∧
      ((modHp h f s).zr.hps.get g).volCall = (s.zr.hps.get g).volCall ∧
      ((modHp h f s).zr.hps.get g).ceiling = (s.zr.hps.get g).ceiling := by
    simp only [modHp, State.modZr_zr, PerHp.get_set]
    split
    · subst_vars; exact hf _
    · exact ⟨rfl, rfl, rfl⟩
  refine ⟨Prod.ext rfl (Prod.ext (funext fun g => ?_) rfl)⟩
  obtain ⟨hbase, hcall, hceiling⟩ := levels g
  exact Prod.ext hbase (Prod.ext hcall hceiling)

/-! ### Lists and flags -/

theorem setList_settings (z : Zone) (l : List Entry) (s : State) : SettingsKept s (setList z l s) := by
  cases z with
  | cabin c => exact ⟨rfl⟩
  | hp h => exact modHp_settings h (f := fun r => { r with list := l }) s (fun _ => ⟨rfl, rfl, rfl⟩)

theorem changeList_settings (z : Zone) (l : List Entry) (s : State) : SettingsKept s (changeList z l s) :=
  .ite .refl ((setList_settings z l s).trans (postZone_within z _).settings)

theorem insertEntry_settings (z : Zone) (e : Entry) (s : State) : SettingsKept s (insertEntry z e s) :=
  .ite (changeList_settings _ _ s) .refl

theorem removeEntry_settings (z : Zone) (c : Class) (s : State) : SettingsKept s (removeEntry z c s) :=
  changeList_settings _ _ s

theorem setMuteFlag_settings (z : Zone) (m : Bool) (s : State) : SettingsKept s (setMuteFlag z m s) := by
  refine .ite .refl (SettingsKept.trans ?_ (postZone_within z _).settings)
  cases z with
  | cabin c => exact ⟨rfl⟩
  | hp h => exact modHp_settings h (f := fun r => { r with mute := m }) s (fun _ => ⟨rfl, rfl, rfl⟩)

theorem setHpBase_settings (h : Hp) (src : Option Source) (s : State) : SettingsKept s (setHpBase h src s) :=
  modHp_settings h s (fun _ => ⟨rfl, rfl, rfl⟩)

theorem reduceLists_settings (s : State) : SettingsKept s (reduceLists s) :=
  .foldl (fun s _ => changeList_settings _ _ s) Zone.all s

theorem startPrompts_settings (zs : List Cabin) (s : State) : SettingsKept s (startPrompts zs s) :=
  .foldl (fun s _ => insertEntry_settings _ _ s) zs s

theorem endPrompts_settings (zs : List Cabin) (s : State) : SettingsKept s (endPrompts zs s) :=
  .foldl (fun s _ => removeEntry_settings _ _ s) zs s

theorem arrival_settings (kind : Byte) (s : State) : SettingsKept s (arrival kind s) := by
  have hgood : SettingsKept s (goodFrame s) := by
    unfold goodFrame linkRestored
    split
    · exact .refl
    · exact ⟨rfl⟩
    · refine SettingsKept.trans (t := setWatchdog (.counting s.safety.config.watchdogMs) s) ⟨rfl⟩ ?_
      split
      · exact ((modSc_within _ _).trans (post_within _ _ _ _)).settings.trans (liftQuiet_quietOnly _).settings
      · exact .refl
  exact hgood.trans (arrival_after_goodFrame kind s).settings

/-! ### The frame clock and the jacks -/

theorem restoreClock_settings (s : State) : SettingsKept s (restoreClock s) :=
  SettingsKept.trans (t := s.modZr (fun r => { r with clockLost := false, lostMs := 0 })) ⟨rfl⟩
    ((post_within _ _ _ _).trans (restartCanceller_within _)).settings

theorem senseJacks_settings (s : State) : SettingsKept s (senseJacks s) := by
  refine ⟨Prod.ext rfl (Prod.ext (funext fun g => ?_) rfl)⟩
  cases g <;> rfl

theorem initialised_settings (s : State) : SettingsKept s (initialised s) :=
  (((modSc_within _ s).settings.trans (senseJacks_settings _)).trans (receipt_within _ _ _).settings).trans
    (postPartReady_within _).settings

theorem installEffect_settings (f : InstallField) (v : InstallValue) (s : State) :
    SettingsKept s (installEffect f v s) := by
  unfold installEffect
  split
  · exact ⟨rfl⟩
  · exact ⟨rfl⟩
  · exact ⟨rfl⟩
  · exact modHp_settings _ s (fun _ => ⟨rfl, rfl, rfl⟩)
  · exact (remakeSelection_within _ s).settings
  · exact .ite (restoreClock_settings s) .refl
  · exact .refl

/-! ### Announcements and calls -/

theorem beginAnnouncement_settings (s : State) : SettingsKept s (beginAnnouncement s) := by
  have inserted (g : TrafficWatch → TrafficWatch) (zs : List Cabin) :
      SettingsKept s ((insertTraffic false zs s).modTw g) :=
    (SettingsKept.foldl (fun s _ => insertEntry_settings _ _ s) zs s).trans (modTw_within g _).settings
  unfold beginAnnouncement
  dsimp only
  split <;> split
  · exact inserted _ _
  · exact (inserted _ _).trans (post_within _ _ _ _).settings
  · exact (inserted _ _).trans (postDeferred_within _).settings
  · exact (inserted _ _).trans ((post_within _ _ _ _).trans (postDeferred_within _)).settings

theorem endAnnouncement_settings (cause : EndCause) (s : State) : SettingsKept s (endAnnouncement cause s) := by
  have removed : SettingsKept s (removeTraffic s) := .foldl (fun s _ => removeEntry_settings _ _ s) Cabin.all s
  unfold endAnnouncement
  split
  · exact .refl
  · exact removed.trans ((modTw_within _ _).trans (post_within _ _ _ _)).settings

theorem placeCall_settings (s : State) (z : Zone) : SettingsKept s (placeCall s z) := by
  unfold placeCall
  dsimp only
  split
  · refine SettingsKept.trans (.ite ?_ .refl) (insertEntry_settings _ _ _)
    exact (removeEntry_settings _ _ s).trans (modAnnouncement_within _ _).settings
  · exact insertEntry_settings _ _ s

theorem placeCalls_settings (zs : List Zone) (s : State) : SettingsKept s (placeCalls zs s) :=
  .ite ((SettingsKept.foldl placeCall_settings zs s).trans (postDeferred_within _).settings)
    (.foldl placeCall_settings zs s)

theorem liftCall_settings (s : State) (z : Zone) : SettingsKept s (liftCall s z) := by
  have lifted := removeEntry_settings z .call s
  unfold liftCall
  dsimp only
  split
  · exact .ite ((lifted.trans (insertEntry_settings _ _ _)).trans (modAnnouncement_within _ _).settings) lifted
  · exact lifted

theorem liftCalls_settings (zs : List Zone) (s : State) : SettingsKept s (liftCalls zs s) :=
  .foldl liftCall_settings zs s

theorem leaveIdle_settings (new : CallState) (s : State) : SettingsKept s (leaveIdle new s) := by
  have placed := (modClp_within (fun c => { c with state := new, restarts := 0 }) s).settings.trans
    (placeCalls_settings (routeZones s.clp.route) _)
  unfold leaveIdle
  dsimp only
  exact (SettingsKept.ite (placed.trans (startCanceller_within _).settings) placed).trans
    ((remakeSelection_within _ _).trans (receipt_within _ _ _)).settings

theorem callEnds_settings (s : State) : SettingsKept s (callEnds s) := by
  have lifted := (modClp_within (fun c => { c with state := .idle, uplinkMute := false }) s).settings.trans
    (liftCalls_settings (routeZones s.clp.route) _)
  exact lifted.trans ((bypassCanceller_within _).trans (receipt_within _ _ _)).settings

theorem changeCall_settings (new : CallState) (s : State) : SettingsKept s (changeCall new s) := by
  unfold changeCall
  split
  · exact .refl
  · exact leaveIdle_settings _ s
  · exact callEnds_settings s
  · exact ((modClp_within _ s).trans (receipt_within _ _ _)).settings

theorem moveRoute_settings (new : Route) (cause : RouteCause) (s : State) :
    SettingsKept s (moveRoute new cause s) := by
  have entries (old : Route) (u : State) : SettingsKept u (moveEntries old new u) :=
    .ite .refl ((liftCalls_settings _ u).trans (placeCalls_settings _ _))
  have moved := ((modClp_within (fun c => { c with route := new }) s).settings.trans (entries s.clp.route _)).trans
    ((reselect_within _).trans (postRoute_within s.clp.route cause _)).settings
  have reported (b : Bool) := SettingsKept.ite (c := b = true) (moved.trans (postMicFault_within _).settings) moved
  unfold moveRoute
  dsimp only
  exact (reported _).trans (moveCanceller_within new _).settings

theorem jackChanges_settings (h : Hp) (inserted : Bool) (s : State) :
    SettingsKept s (jackChanges h inserted s) := by
  refine (modHp_settings h (f := fun r => { r with jack := inserted }) s (fun _ => ⟨rfl, rfl, rfl⟩)).trans ?_
  have fallback (u : State) : SettingsKept u (jackFallback h u) := .ite (moveRoute_settings _ _ u) .refl
  exact (SettingsKept.ite .refl (fallback _)).trans (post_within _ _ _ _).settings

end Sys2Proof.Machine
end

section
/-! SUPPORT. The zone settings under the chimes, the receivers and alternate following: all of them stand (R36, R86 to R97,
R104 to R135). -/

-- One declaration at a time: together they would start more threads than the check's memory limit has stacks for.
set_option Elab.async false

namespace Sys2Proof.Machine

/-! ### Chimes -/

theorem voicesLook_settings (s : State) : SettingsKept s (voicesLook s) := (voicesLook_coresKept s).lists.settings

theorem endEntry_settings (e : ChimeEntry) (cause : ChimeEnd) (s : State) : SettingsKept s (endEntry e cause s) :=
  (endEntry_cabinListsOnly e cause s).settings

theorem repeatEnd_settings (v : VoiceId) (x : Voice) (s : State) : SettingsKept s (repeatEnd v x s) := by
  unfold repeatEnd
  split
  · exact (setVoice_within v _ s).settings
  · split
    · exact (repeatGap_within v x s).settings
    · exact .ite ((modEntry_within _ _ s).trans (repeatGap_within v x _)).settings
        ((endEntry_settings _ _ s).trans (voicesLook_settings _))

theorem gapEnd_settings (v : VoiceId) (x : Voice) (s : State) : SettingsKept s (gapEnd v x s) :=
  .ite (beginTone_within v _ s).settings (repeatEnd_settings v x s)

theorem toneEnd_settings (v : VoiceId) (x : Voice) (s : State) : SettingsKept s (toneEnd v x s) :=
  .ite (gapEnd_settings v x s) (setVoice_within v _ s).settings

theorem voicePhaseEnds_settings (v : VoiceId) (s : State) : SettingsKept s (voicePhaseEnds v s) := by
  unfold voicePhaseEnds phaseEnd
  split
  · exact .refl
  · split
    · exact toneEnd_settings v _ s
    · exact gapEnd_settings v _ s
    · exact (nextRepeat_within v _ s).settings

theorem refuse_settings {s : State} {status : Status} : SettingsKept s (refuse s status).state := .refl

theorem answerChime_settings (body : Bytes) (s : State) : SettingsKept s (answerChime body s).state := by
  have taken (p : PatternId) (t : Pattern) (z : CabinSet) : SettingsKept s (takeChime p t z s).1 :=
    (takeChime_taken p t z s).lists.settings
  unfold answerChime
  dsimp only
  repeat' split
  any_goals with_reducible exact refuse_settings
  · exact taken _ _ _
  · exact taken _ _ _

theorem answerCancel_settings (body : Bytes) (s : State) : SettingsKept s (answerCancel body s).state := by
  unfold answerCancel
  repeat' split
  any_goals with_reducible exact refuse_settings
  · exact .refl
  · exact (endEntry_settings _ _ s).trans (voicesLook_settings _)

theorem watchdogExpires_settings (s : State) : SettingsKept s (watchdogExpires s) := by
  unfold watchdogExpires
  split
  · have expired : SettingsKept s (setWatchdog .expired s) := ⟨rfl⟩
    refine .ite (expired.trans ?_) expired
    obtain ⟨a, hprompts, _, hquiet, _, hsounds⟩ := enterFailsafe_zones (setWatchdog .expired s)
    exact (hprompts.settings.trans hquiet.settings).trans hsounds.settings
  · exact .refl

/-! ### The traffic watch and RX-A's tunes -/

theorem afterClear_settings (cause : ClearCause) (s : State) : SettingsKept s (afterClear cause s) := by
  have cleared := ((Within.ite (c := s.af.state = .low) (modAf_within (fun f => { f with state := .idle, timer := none }) s)
    .refl).trans (modTw_within (fun w => { w with codeHeld := none }) _)).settings
  unfold afterClear
  dsimp only
  split
  · exact cleared.trans (endAnnouncement_settings _ _)
  · exact cleared.trans (endAnnouncement_settings _ _)
  · exact .ite (cleared.trans (modTw_within _ _).settings) cleared

theorem watchFlags_settings (old new : DataRecord) (flags : Bool) (s : State) :
    SettingsKept s (watchFlags old new flags s) := by
  have held : Within [.tw] s (if new.code != old.code then
      s.modTw (fun w => { w with codeHeld := new.code.map (fun _ => 0) }) else s) := .ite (modTw_within _ s) .refl
  have bridged := (held.trans (Within.ite (c := (flags && new.trafficOn) = true) (bs := [.tw])
    (modTw_within (fun w => { w with bridge := none }) _) .refl)).settings
  unfold watchFlags
  dsimp only
  exact .ite (.ite (bridged.trans (beginAnnouncement_settings _)) bridged)
    (.ite (bridged.trans (endAnnouncement_settings _ _)) bridged)

theorem tuneA_settings (st : Station) (purpose : TunePurpose) (mute : TunerMute) (cause : ClearCause) (s : State) :
    SettingsKept s (tuneA st purpose mute cause s) :=
  ((changeReceiver_within _ _ s).trans (modRx_within _ _)).settings.trans (afterClear_settings cause _)

theorem retune_settings (st : Station) (s : State) : SettingsKept s (retune st s) := tuneA_settings _ _ _ _ s

theorem tuneFor_settings (k : Kind) (st : Station) (s : State) : SettingsKept s (tuneFor k st s) :=
  ((abandonAttempt_within s).trans (abortSeek_within k _)).settings.trans (retune_settings st _)

theorem beginSeek_settings (up : Bool) (s : State) : SettingsKept s (beginSeek up s) :=
  (((changeReceiver_within _ _ s).trans (modRx_within _ _)).settings.trans (afterClear_settings _ _)).trans
    (seekMove_within up _).settings

theorem watchOn_settings (s : State) : SettingsKept s (watchOn s) := by
  have begun : ∀ {c : Prop} [Decidable c], SettingsKept s
      (if c then beginAnnouncement (s.modTw (fun w => { w with on := true, note := none }))
      else s.modTw (fun w => { w with on := true, note := none })) :=
    .ite ((modTw_within _ s).settings.trans (beginAnnouncement_settings _)) (modTw_within _ s).settings
  unfold watchOn
  dsimp only
  split
  · exact .ite (begun.trans (judgeCarrier_within _).settings) begun
  · exact begun

theorem trafficTimerEnds_settings (x : Rx) (s : State) : SettingsKept s (trafficTimerEnds x s) := by
  unfold trafficTimerEnds
  dsimp only
  refine .ite ?_ .refl
  cases x with
  | a =>
    exact ((changeReceiver_within _ _ s).trans (learnRecord_within _ _ _ _ _)).settings.trans (watchFlags_settings _ _ _ _)
  | b => exact ((changeReceiver_within _ _ s).trans (learnRecord_within _ _ _ _ _)).settings

/-! ### Alternate following -/

theorem tryNext_settings (s : State) : SettingsKept s (tryNext s) := by
  unfold tryNext
  split
  · exact (((post_within _ _ _ s).trans (releaseCheck_within _)).trans (modAf_within _ _)).settings
  · dsimp only
    split
    · exact (modAf_within _ s).settings.trans (tuneA_settings _ _ _ _ _)
    · exact (((modAf_within _ s).trans (orderB_within _ _ _)).trans (modAf_within _ _)).settings
    · exact ((((modAf_within _ s).trans (setHolder_within _ _)).trans (postHolder_within _ _)).trans
        ((orderB_within _ _ _).trans (modAf_within _ _))).settings

theorem beginAttempt_settings (s : State) : SettingsKept s (beginAttempt s) :=
  (modAf_within _ s).settings.trans (tryNext_settings _)

theorem tuneBack_settings (mute : TunerMute) (s : State) : SettingsKept s (tuneBack mute s) := tuneA_settings _ _ _ _ s

theorem reverted_settings (cause : RevertCause) (s : State) : SettingsKept s (reverted cause s) :=
  ((post_within _ _ _ s).settings.trans (tuneBack_settings _ _)).trans (modAf_within _ _).settings

theorem judgeCheck_settings (s : State) : SettingsKept s (judgeCheck s) := by
  refine .ite ?_ .refl
  split
  · exact .refl
  · have passed : SettingsKept s (checkPassed s) :=
      ((releaseCheck_within s).trans (modAf_within _ _)).settings.trans (tuneA_settings _ _ _ _ _)
    exact .ite passed (tryNext_settings s)

theorem judgeVerify_settings (s : State) : SettingsKept s (judgeVerify s) := by
  refine .ite ?_ .refl
  split
  · exact .refl
  · exact .ite (switched_within _ s).settings (reverted_settings _ s)

theorem requestRear_settings (st : Station) (s : State) : SettingsKept s (requestRear st s) := by
  have ordered := ((setHolder_within (.rear st) s).trans (postHolder_within st _)).trans (orderB_within st .tuning _)
  exact .ite .refl (.ite (ordered.settings.trans (tryNext_settings _)) ordered.settings)

theorem endFollowing_settings (s : State) : SettingsKept s (endFollowing s) := by
  unfold endFollowing
  split
  · exact (reverted_settings _ s).trans (followIdle_within _).settings
  · exact .ite (((releaseCheck_within s).settings.trans (tuneBack_settings _ _)).trans (followIdle_within _).settings)
      ((releaseCheck_within s).trans (followIdle_within _)).settings
  · exact (followIdle_within s).settings

theorem blindDecided_settings (m : Measurement) (s : State) : SettingsKept s (blindDecided m s) :=
  .ite (tuneBack_settings _ s) (((lockA_within _ s).trans (modAf_within _ _)).trans (handOn_within .a _ _)).settings

theorem returnSettled_settings (m : Measurement) (s : State) : SettingsKept s (returnSettled m s) := by
  have returned := ((lockA_within (quality s.rx.a.station.band m) s).trans
    (handOn_within .a (quality s.rx.a.station.band m) _)).settings
  unfold returnSettled
  dsimp only
  exact .ite (returned.trans (tryNext_settings _)) returned

/-! ### RX-B and data groups -/

theorem settlesB_settings (m : Measurement) (s : State) : SettingsKept s (settlesB m s) := by
  have measured (q : Nat) (u : State) : SettingsKept u (checkMeasured q u) :=
    .ite (tryNext_settings u) (modAf_within _ u).settings
  exact .ite (.ite ((modB_within _ s).trans (sweepMeasured_within _ _)).settings
    (.ite ((modB_within _ s).settings.trans (measured _ _)) .refl)) .refl

theorem takeGroup_settings (x : Rx) (code : Nat) (p : Payload) (s : State) :
    SettingsKept s (takeGroup x code p s) := by
  have handed (old new : DataRecord) (flags : Bool) (u : State) : SettingsKept u (handRecord x old new flags u) := by
    unfold handRecord
    cases x with
    | a =>
      exact ((learnRecord_within .a old new flags u).settings.trans (watchFlags_settings _ _ _ _)).trans
        (judgeVerify_settings _)
    | b =>
      exact ((learnRecord_within .b old new flags u).settings.trans (judgeCheck_settings _)).trans
        (dwellFilled_within _).settings
  unfold takeGroup
  dsimp only
  refine .ite ?_ .refl
  split
  · exact (changeReceiver_within _ _ s).settings
  · cases x with
    | a => exact (changeReceiver_within _ _ s).settings.trans (afterClear_settings _ _)
    | b => exact (changeReceiver_within _ _ s).settings
  · exact (changeReceiver_within _ _ s).settings.trans (handed _ _ _ _)

theorem changeHpBase_settings (h : Hp) (src : Option Source) (s : State) : SettingsKept s (changeHpBase h src s) :=
  .ite ((setHpBase_settings h src s).trans (releaseB_within _).settings) (setHpBase_settings h src s)

end Sys2Proof.Machine
end

section
/-! SUPPORT. The ranges of the settings (R25, R36, R38, R40 to R42, R135), of the safety configuration (R25, R27) and of
pattern memory (R81 to R83): what every command keeps of them. -/

-- One declaration at a time: together they would start more threads than the check's memory limit has stacks for.
set_option Elab.async false

namespace Sys2Proof.Machine

/-! ### The requests that leave every setting as it was -/

theorem request_settings {k : Kind} {body : Bytes} {act : State → Answer} {s : State}
    (ha : ∀ u, SettingsKept u (act u).state) : SettingsKept s (request k body act s) :=
  request_keeps (P := SettingsKept s) (fun _ _ _ _ hu => ⟨hu.same⟩) (arrival_settings _ s)
    (fun u _ hu => hu.trans (ha u))

theorem answerInstall_settings (body : Bytes) (s : State) : SettingsKept s (answerInstall body s).state := by
  unfold answerInstall
  repeat' split
  any_goals with_reducible exact refuse_settings
  exact (modInstall_within _ s).settings.trans (installEffect_settings _ _ _)

theorem answerSelect_settings (body : Bytes) (s : State) : SettingsKept s (answerSelect body s).state := by
  unfold answerSelect
  repeat' split
  any_goals with_reducible exact refuse_settings
  · exact ⟨rfl⟩
  · exact changeHpBase_settings _ _ s

theorem answerMute_settings (body : Bytes) (s : State) : SettingsKept s (answerMute body s).state := by
  unfold answerMute
  repeat' split
  any_goals with_reducible exact refuse_settings
  exact setMuteFlag_settings _ _ s

theorem answerPrompts_settings {act : List Cabin → State → State} (h : ∀ zs s, SettingsKept s (act zs s)) (body : Bytes)
    (s : State) : SettingsKept s (answerPrompts act body s).state := by
  unfold answerPrompts
  repeat' split
  any_goals with_reducible exact refuse_settings
  exact h _ s

theorem answerTune_settings (body : Bytes) (s : State) : SettingsKept s (answerTune body s).state := by
  unfold answerTune
  repeat' split
  any_goals with_reducible exact refuse_settings
  exact tuneFor_settings _ _ s

theorem answerStep_settings (body : Bytes) (s : State) : SettingsKept s (answerStep body s).state := by
  unfold answerStep
  split
  · exact tuneFor_settings _ _ s
  · exact .refl

theorem answerSeek_settings (body : Bytes) (s : State) : SettingsKept s (answerSeek body s).state := by
  unfold answerSeek
  repeat' split
  any_goals with_reducible exact refuse_settings
  exact (abandonAttempt_within s).settings.trans (beginSeek_settings _ _)

theorem answerFollow_settings (body : Bytes) (s : State) : SettingsKept s (answerFollow body s).state := by
  unfold answerFollow
  repeat' split
  any_goals with_reducible exact refuse_settings
  all_goals rw [accept_state]
  · exact (modAf_within _ s).settings
  · exact (endFollowing_settings s).trans (modAf_within _ _).settings

theorem answerTrafficWatch_settings (body : Bytes) (s : State) :
    SettingsKept s (answerTrafficWatch body s).state := by
  unfold answerTrafficWatch
  dsimp only
  split
  · split
    · exact .ite (.ite (modTw_within _ s).settings ((modTw_within _ s).settings.trans (watchOn_settings _)))
        (((modTw_within _ s).trans (modTw_within _ _)).settings.trans (endAnnouncement_settings _ _))
    · exact .refl
  · exact .refl

theorem answerRearTune_settings (body : Bytes) (s : State) : SettingsKept s (answerRearTune body s).state := by
  unfold answerRearTune
  repeat' split
  any_goals with_reducible exact refuse_settings
  · exact changeHpBase_settings _ _ s
  · exact (setHpBase_settings _ _ s).trans (requestRear_settings _ _)

theorem answerCallState_settings (body : Bytes) (s : State) : SettingsKept s (answerCallState body s).state := by
  unfold answerCallState
  repeat' split
  any_goals with_reducible exact refuse_settings
  exact changeCall_settings _ s

theorem answerCallRoute_settings (body : Bytes) (s : State) : SettingsKept s (answerCallRoute body s).state := by
  unfold answerCallRoute
  dsimp only
  repeat' split
  any_goals with_reducible exact refuse_settings
  · exact .refl
  · exact moveRoute_settings _ _ s
  · exact .refl
  · exact moveRoute_settings _ _ s

theorem startAudio_settings (s : State) : SettingsKept s (startAudio s) := by
  have running : SettingsKept s
      (setWatchdog (.counting s.safety.config.watchdogMs) (s.modSc (fun c => { c with opState := .run }))) := ⟨rfl⟩
  unfold startAudio
  exact ((running.trans ((Within.foldl startOnResult_within Amp.all _).trans (startOthers_within _)).settings).trans
    (retune_settings _ _)).trans (startHolder_within _).settings

theorem answerStartAudio_settings (s : State) : SettingsKept s (answerStartAudio s).state := by
  unfold answerStartAudio
  split
  · exact .refl
  · split
    · exact .refl
    · split
      · exact .refl
      · rw [accept_state]
        exact startAudio_settings s

theorem enterStandby_settings (s : State) : SettingsKept s (enterStandby s) := by
  have closed : SettingsKept s (setWatchdog .stopped
      ((endLoad (s.modSc (fun c => { c with opState := .standby }))).modSafety (fun f => { f with windowOpen := false }))) :=
    ⟨rfl⟩
  unfold enterStandby
  dsimp only
  refine SettingsKept.trans ?_ ((settle_within _).trans (standbyOff_within false _)).settings
  refine SettingsKept.trans ?_ (reduceLists_settings _)
  refine SettingsKept.trans closed ?_
  exact ((((((modOs_within _ _).trans (modRx_within _ _)).trans (followIdle_within _)).trans
    (standbyHolder_within _)).trans (modTw_within _ _)).trans (silenceChimes_within _)).settings

theorem answerStandby_settings (s : State) : SettingsKept s (answerStandby s).state := by
  unfold answerStandby
  split
  · exact .refl
  · split
    · exact .refl
    · rw [accept_state]
      exact enterStandby_settings s

/-- The commands that set a zone setting or reset them all (R21, R38, R40 to R42, R135). -/
def Instr.setsSettings : Instr → Bool
  | .powerOnReset | .restart _ | .setVolume _ | .setBalanceFader _ | .setSourceTrim _ | .setClassDuck _
  | .setSpeedLift _ | .setRearQuiet _ | .setRearCeiling _ => true
  | _ => false

/-- Every other command leaves the zone settings as they were. -/
theorem exec_settings {i : Instr} {s t : State} (h : exec i s = .next t) (hi : Instr.setsSettings i = false) :
    SettingsKept s t := by
  have next {u : State} (hu : exec i s = .next u) : u = t := Host.Outcome.next.inj (hu.symm.trans h)
  have settled {u : State} (hu : SettingsKept s u) : SettingsKept s (settle u) := ⟨hu.same⟩
  by_cases hb : (Instr.changes i).contains .zr = false
  · have hzr : .zr ∉ Instr.changes i := by simpa using hb
    cases exec_touched i s t h with
    | event h => exact .of_zr (h .zr (by simpa using hzr))
    | frame kind h => exact (arrival_settings kind s).trans (.of_zr (h .zr (by simpa using hzr)))
  cases i with
  | powerOnReset => simp [Instr.setsSettings] at hi
  | restart _ => simp [Instr.setsSettings] at hi
  | setVolume _ => simp [Instr.setsSettings] at hi
  | setBalanceFader _ => simp [Instr.setsSettings] at hi
  | setSourceTrim _ => simp [Instr.setsSettings] at hi
  | setClassDuck _ => simp [Instr.setsSettings] at hi
  | setSpeedLift _ => simp [Instr.setsSettings] at hi
  | setRearQuiet _ => simp [Instr.setsSettings] at hi
  | setRearCeiling _ => simp [Instr.setsSettings] at hi
  | initialisationComplete => exact next rfl ▸ .ite (settled (initialised_settings s)) .refl
  | setInstall body => exact next rfl ▸ request_settings (answerInstall_settings body)
  | startAudio body => exact next rfl ▸ request_settings answerStartAudio_settings
  | standby body => exact next rfl ▸ request_settings answerStandby_settings
  | selectSource body => exact next rfl ▸ request_settings (answerSelect_settings body)
  | setMute body => exact next rfl ▸ request_settings (answerMute_settings body)
  | promptStart body => exact next rfl ▸ request_settings (answerPrompts_settings startPrompts_settings body)
  | promptEnd body => exact next rfl ▸ request_settings (answerPrompts_settings endPrompts_settings body)
  | chimeRequest body => exact next rfl ▸ request_settings (answerChime_settings body)
  | chimeCancel body => exact next rfl ▸ request_settings (answerCancel_settings body)
  | tune body => exact next rfl ▸ request_settings (answerTune_settings body)
  | step body => exact next rfl ▸ request_settings (answerStep_settings body)
  | seek body => exact next rfl ▸ request_settings (answerSeek_settings body)
  | setFollow body => exact next rfl ▸ request_settings (answerFollow_settings body)
  | setTrafficWatch body => exact next rfl ▸ request_settings (answerTrafficWatch_settings body)
  | trafficSkip body => exact next rfl ▸ request_settings (fun u => endAnnouncement_settings _ u)
  | rearTune body => exact next rfl ▸ request_settings (answerRearTune_settings body)
  | callState body => exact next rfl ▸ request_settings (answerCallState_settings body)
  | callRoute body => exact next rfl ▸ request_settings (answerCallRoute_settings body)
  | watchdogExpiry => exact next rfl ▸ settled (watchdogExpires_settings s)
  | clockLoss =>
    exact next rfl ▸ .ite (settled (SettingsKept.trans (t := s.modZr (fun r => { r with clockLost := true, lostMs := 0 }))
      ⟨rfl⟩ (post_within _ _ _ _).settings)) .refl
  | clockReturn => exact next rfl ▸ .ite (settled (restoreClock_settings s)) .refl
  | voicePhaseEnd v => exact next rfl ▸ settled (voicePhaseEnds_settings v s)
  | rxBSettleEnd m => exact next rfl ▸ settled (settlesB_settings m s)
  | dataGroup x code p => exact next rfl ▸ settled (takeGroup_settings x code p s)
  | trafficTimerRunout x => exact next rfl ▸ settled (trafficTimerEnds_settings x s)
  | lowTimerRunout => exact next rfl ▸ .ite (settled (beginAttempt_settings s)) .refl
  | checkTimeout => exact next rfl ▸ .ite (settled (tryNext_settings s)) .refl
  | blindCheckDecision m => exact next rfl ▸ .ite (settled (blindDecided_settings m s)) .refl
  | afReturnSettleEnd m => exact next rfl ▸ .ite (settled (returnSettled_settings m s)) .refl
  | verifyTimeout => exact next rfl ▸ .ite (settled (reverted_settings _ s)) .refl
  | bridgeTimerRunout => exact next rfl ▸ .ite (settled (endAnnouncement_settings _ s)) .refl
  | jackStateChange p inserted =>
    exact next rfl ▸ .ite (settled ((modPins_within _ s).settings.trans (jackChanges_settings p inserted _)))
      (modPins_within _ s).settings
  | _ => exact absurd rfl hb

end Sys2Proof.Machine
end

section
/-! SUPPORT. The ranges of the settings (R36, R38, R40 to R42, R135), of the safety configuration (R25, R27) and of pattern
memory (R81 to R83) through every command. -/

-- One declaration at a time: together they would start more threads than the check's memory limit has stacks for.
set_option Elab.async false

namespace Sys2Proof.Machine

/-! ### Zone settings in range -/

/-- The cabin's settings in the ranges of section 3.3. -/
structure CabinSettings.InRange (c : CabinSettings) : Prop where
  volBase : c.volBase ≤ 40
  volCall : c.volCall ≤ 40
  volPrompt : c.volPrompt ≤ 40
  volTraffic : c.volTraffic ≤ 40
  balance : -20 ≤ c.balance ∧ c.balance ≤ 20
  fader : -20 ≤ c.fader ∧ c.fader ≤ 20
  speedLift : c.speedLift ≤ 4
  rearQuiet : ∀ d ∈ c.rearQuiet.toList, d.inRange = true

/-- A headphone's two steps and its ceiling in range (R38, R135). -/
def HpLevelsOk (volBase volCall ceiling : Nat) : Prop := volBase ≤ ceiling ∧ volCall ≤ ceiling ∧ ceiling ≤ 40

/-- The class ducks in range (R42). -/
def Ducks.InRange (d : Ducks) : Prop := d.call.inRange = true ∧ d.prompt.inRange = true ∧ d.traffic.inRange = true

/-- The trims in range (R41). -/
def trimsInRange (p : PerSource Int) : Prop :=
  ∀ x ∈ [Source.fgt, .bgt, .meda, .medb, .call, .prompt], -48 ≤ p.get 0 x ∧ p.get 0 x ≤ 24

/-- Every setting of the Zone Router in its range. -/
structure ZoneRouter.InRange (r : ZoneRouter) : Prop where
  cabin : r.cabin.InRange
  hps : ∀ h, HpLevelsOk (r.hps.get h).volBase (r.hps.get h).volCall (r.hps.get h).ceiling
  ducks : r.ducks.InRange
  trims : trimsInRange r.trims

theorem forall_mem_hpAll {P : Hp → Prop} : (∀ h ∈ Hp.all, P h) ↔ ∀ h, P h :=
  ⟨fun hp h => hp h (by cases h <;> simp [Hp.all]), fun hp h _ => hp h⟩

theorem settingsOk_iff (s : State) : SettingsOk s ↔ s.zr.InRange := by
  constructor
  · rintro ⟨hvol, hbf, hlift, hdepth, htrims, hhps⟩
    simp only [List.forall_mem_cons, List.not_mem_nil, false_imp_iff, implies_true, and_true] at hvol hbf
    simp only [List.cons_append, List.nil_append, List.forall_mem_cons] at hdepth
    obtain ⟨hbase, hcall, hprompt, htraffic⟩ := hvol
    obtain ⟨hdcall, hdprompt, hdtraffic, hquiet⟩ := hdepth
    exact ⟨⟨hbase, hcall, hprompt, htraffic, hbf.1, hbf.2, hlift, hquiet⟩, forall_mem_hpAll.1 hhps,
      ⟨hdcall, hdprompt, hdtraffic⟩, htrims⟩
  · rintro ⟨hcabin, hhps, ⟨hdcall, hdprompt, hdtraffic⟩, htrims⟩
    refine ⟨?_, ?_, hcabin.speedLift, ?_, htrims, forall_mem_hpAll.2 hhps⟩
    · simpa using ⟨hcabin.volBase, hcabin.volCall, hcabin.volPrompt, hcabin.volTraffic⟩
    · simpa using ⟨hcabin.balance, hcabin.fader⟩
    · simpa [List.forall_mem_cons, hdcall, hdprompt, hdtraffic] using hcabin.rearQuiet

/-- The ranges are of the settings alone. -/
theorem SettingsKept.settingsOk {s t : State} (h : SettingsKept s t) (hs : SettingsOk s) : SettingsOk t := by
  rw [settingsOk_iff] at hs ⊢
  obtain ⟨hc, hhps, hducks, htrims⟩ := hs
  have hcabin : ({ t.zr.cabin with base := none } : CabinSettings) = { s.zr.cabin with base := none } :=
    congrArg Prod.fst h.same
  refine ⟨?_, fun g => ?_, ?_, ?_⟩
  · have hin : ({ t.zr.cabin with base := none } : CabinSettings).InRange := hcabin ▸ ⟨hc.1, hc.2, hc.3, hc.4, hc.5, hc.6, hc.7, hc.8⟩
    exact ⟨hin.1, hin.2, hin.3, hin.4, hin.5, hin.6, hin.7, hin.8⟩
  · have hg := congrFun (congrArg (fun x => x.2.1) h.same) g
    simp only [ZoneRouter.settings, Prod.mk.injEq] at hg
    obtain ⟨hbase, hcall, hceiling⟩ := hg
    rw [hbase, hcall, hceiling]
    exact hhps g
  · rw [show t.zr.ducks = s.zr.ducks from congrArg (fun x => x.2.2.1) h.same]
    exact hducks
  · rw [show t.zr.trims = s.zr.trims from congrArg (fun x => x.2.2.2) h.same]
    exact htrims

theorem reset_zr_inRange : ZoneRouter.reset.InRange where
  cabin := by constructor <;> decide
  hps := by intro h; cases h <;> exact ⟨by decide, by decide, by decide⟩
  ducks := ⟨rfl, rfl, rfl⟩
  trims := by unfold trimsInRange; decide

/-! ### The requests that set a setting -/

theorem modCabin_settingsOk {f : CabinSettings → CabinSettings} {s : State} (hf : ∀ c, c.InRange → (f c).InRange)
    (h : SettingsOk s) : SettingsOk (modCabin f s) := by
  rw [settingsOk_iff] at h ⊢
  obtain ⟨hcabin, hhps, hducks, htrims⟩ := h
  exact ⟨hf _ hcabin, hhps, hducks, htrims⟩

theorem modHp_settingsOk {g : Hp} {f : HpZone → HpZone} {s : State}
    (hf : HpLevelsOk (s.zr.hps.get g).volBase (s.zr.hps.get g).volCall (s.zr.hps.get g).ceiling →
      HpLevelsOk (f (s.zr.hps.get g)).volBase (f (s.zr.hps.get g)).volCall (f (s.zr.hps.get g)).ceiling)
    (h : SettingsOk s) : SettingsOk (modHp g f s) := by
  rw [settingsOk_iff] at h ⊢
  obtain ⟨hcabin, hhps, hducks, htrims⟩ := h
  refine ⟨hcabin, fun k => ?_, hducks, htrims⟩
  simp only [modHp, State.modZr_zr, PerHp.get_set]
  split
  · exact hf (hhps g)
  · exact hhps k

theorem CabinSettings.setStep_inRange {c : CabinSettings} (cls : Class) {n : Nat} (hn : n ≤ 40) (h : c.InRange) :
    (c.setStep cls n).InRange := by
  obtain ⟨h1, h2, h3, h4, h5, h6, h7, h8⟩ := h
  cases cls <;> constructor <;> assumption

theorem setCabinStep_settingsOk (cls : Class) {n : Nat} (hn : n ≤ 40) {s : State} (h : SettingsOk s) :
    SettingsOk (setCabinStep cls n s) := by
  have hset := modCabin_settingsOk (f := fun c => c.setStep cls n) (fun _ hc => CabinSettings.setStep_inRange cls hn hc) h
  unfold setCabinStep
  dsimp only
  split
  · exact (restartCanceller_within _).settings.settingsOk hset
  · exact hset

theorem refuse_settingsOk {s : State} {status : Status} (h : SettingsOk s) : SettingsOk (refuse s status).state := h

theorem answerVolume_settingsOk (body : Bytes) (s : State) (h : SettingsOk s) :
    SettingsOk (answerVolume body s).state := by
  unfold answerVolume
  dsimp only
  repeat' split
  any_goals with_reducible exact refuse_settingsOk h
  · exact setCabinStep_settingsOk _ (Nat.min_le_right _ _) h
  · exact modHp_settingsOk (fun hr => ⟨Nat.min_le_right _ _, hr.2⟩) h
  · exact modHp_settingsOk (fun hr => ⟨hr.1, Nat.min_le_right _ _, hr.2.2⟩) h

theorem clampInt_bounds (x : Int) {lo hi : Int} (h : lo ≤ hi) : lo ≤ clampInt x lo hi ∧ clampInt x lo hi ≤ hi := by
  unfold clampInt
  omega

theorem readDepth_inRange (n : Nat) : (readDepth n).inRange = true := by
  unfold readDepth
  split
  · rfl
  · simp [Depth.inRange]

theorem answerBalance_settingsOk (body : Bytes) (s : State) (h : SettingsOk s) :
    SettingsOk (answerBalance body s).state := by
  unfold answerBalance
  split
  · exact modCabin_settingsOk
      (fun _ hc => { hc with balance := clampInt_bounds _ (by decide), fader := clampInt_bounds _ (by decide) }) h
  · exact h

theorem answerTrim_settingsOk (body : Bytes) (s : State) (h : SettingsOk s) : SettingsOk (answerTrim body s).state := by
  unfold answerTrim
  repeat' split
  any_goals with_reducible exact refuse_settingsOk h
  rw [accept_state]
  rw [settingsOk_iff] at h ⊢
  obtain ⟨hcabin, hhps, hducks, htrims⟩ := h
  refine ⟨hcabin, hhps, hducks, fun x hx => ?_⟩
  have hx' := htrims x hx
  rename_i tb _ src _ _
  have ht := clampInt_bounds tb.toInt (lo := -48) (hi := 24) (by decide)
  cases src <;> cases x <;> first | exact ht | exact hx'

theorem answerDuck_settingsOk (body : Bytes) (s : State) (h : SettingsOk s) : SettingsOk (answerDuck body s).state := by
  unfold answerDuck
  dsimp only
  repeat' split
  any_goals with_reducible exact refuse_settingsOk h
  rw [accept_state]
  rw [settingsOk_iff] at h ⊢
  obtain ⟨hcabin, hhps, ⟨hdcall, hdprompt, hdtraffic⟩, htrims⟩ := h
  refine ⟨hcabin, hhps, ?_, htrims⟩
  rename_i db _ cls _ _ _
  have hd := readDepth_inRange db.toNat
  cases cls with
  | chime => exact ⟨hdcall, hdprompt, hdtraffic⟩
  | call => exact ⟨hd, hdprompt, hdtraffic⟩
  | prompt => exact ⟨hdcall, hd, hdtraffic⟩
  | traffic => exact ⟨hdcall, hdprompt, hd⟩
  | base => exact ⟨hdcall, hdprompt, hdtraffic⟩

theorem answerSpeedLift_settingsOk (body : Bytes) (s : State) (h : SettingsOk s) :
    SettingsOk (answerSpeedLift body s).state := by
  unfold answerSpeedLift
  split
  · exact modCabin_settingsOk (fun _ hc => { hc with speedLift := Nat.min_le_right _ _ }) h
  · exact h

theorem answerRearQuiet_settingsOk (body : Bytes) (s : State) (h : SettingsOk s) :
    SettingsOk (answerRearQuiet body s).state := by
  unfold answerRearQuiet
  dsimp only
  repeat' split
  any_goals with_reducible exact refuse_settingsOk h
  · exact modCabin_settingsOk (fun _ hc => { hc with rearQuiet := by simp [readDepth_inRange] }) h
  · exact modCabin_settingsOk (fun _ hc => { hc with rearQuiet := by simp }) h

theorem answerCeiling_settingsOk (body : Bytes) (s : State) (h : SettingsOk s) :
    SettingsOk (answerCeiling body s).state := by
  unfold answerCeiling
  dsimp only
  repeat' split
  any_goals with_reducible exact refuse_settingsOk h
  exact modHp_settingsOk (fun _ => ⟨Nat.min_le_right _ _, Nat.min_le_right _ _, Nat.min_le_right _ _⟩) h

theorem request_settingsOk {k : Kind} {body : Bytes} {act : State → Answer} {s : State}
    (ha : ∀ u, SettingsOk u → SettingsOk (act u).state) (h : SettingsOk s) : SettingsOk (request k body act s) :=
  request_keeps (fun _ _ _ _ hu => hu) ((arrival_settings k.code s).settingsOk h) (fun u _ => ha u)

theorem exec_settingsOk {i : Instr} {s t : State} (hs : SettingsOk s) (h : exec i s = .next t) : SettingsOk t := by
  have next {u : State} (hu : exec i s = .next u) : u = t := Host.Outcome.next.inj (hu.symm.trans h)
  by_cases hi : Instr.setsSettings i = false
  · exact (exec_settings h hi).settingsOk hs
  cases i with
  | powerOnReset => exact next rfl ▸ (settingsOk_iff _).2 reset_zr_inRange
  | restart body => exact next rfl ▸ request_settingsOk (fun u _ => (settingsOk_iff _).2 reset_zr_inRange) hs
  | setVolume body => exact next rfl ▸ request_settingsOk (answerVolume_settingsOk body) hs
  | setBalanceFader body => exact next rfl ▸ request_settingsOk (answerBalance_settingsOk body) hs
  | setSourceTrim body => exact next rfl ▸ request_settingsOk (answerTrim_settingsOk body) hs
  | setClassDuck body => exact next rfl ▸ request_settingsOk (answerDuck_settingsOk body) hs
  | setSpeedLift body => exact next rfl ▸ request_settingsOk (answerSpeedLift_settingsOk body) hs
  | setRearQuiet body => exact next rfl ▸ request_settingsOk (answerRearQuiet_settingsOk body) hs
  | setRearCeiling body => exact next rfl ▸ request_settingsOk (answerCeiling_settingsOk body) hs
  | _ => exact absurd rfl hi

end Sys2Proof.Machine
end

section
/-! SUPPORT. The ranges of the safety configuration (R25, R27) and the form of pattern memory (R81 to R83) through every
command, and every invariant right after a power-on reset. -/

-- One declaration at a time: together they would start more threads than the check's memory limit has stacks for.
set_option Elab.async false

namespace Sys2Proof.Machine

/-! ### The safety configuration in range (R25) -/

/-- Every safety field in the range of section 2.7. -/
structure SafetyConfig.InRange (c : SafetyConfig) : Prop where
  watchdog : 200 ≤ c.watchdogMs ∧ c.watchdogMs ≤ 5000 ∧ c.watchdogMs % 100 = 0
  chimeZones : c.chimeZones.isEmpty = false
  chimeDuck : c.chimeDuck.inRange = true
  chimeFloor : -160 ≤ c.chimeFloor ∧ c.chimeFloor ≤ 0
  chimeCeiling : -120 ≤ c.chimeCeiling ∧ c.chimeCeiling ≤ 24
  chimeLift : c.chimeLift ≤ 8
  fallback : c.fallback.length ≤ 4 ∧ c.fallback.Nodup

theorem safetyOk_iff (s : State) :
    SafetyOk s ↔ s.safety.config.InRange ∧
      (s.safety.locked = true → s.safety.config.chimeFloor ≤ s.safety.config.chimeCeiling) :=
  ⟨fun ⟨hw, hz, hd, hf, hc, hl, hlen, hnodup, hlock⟩ => ⟨⟨hw, hz, hd, hf, hc, hl, hlen, hnodup⟩, hlock⟩,
    fun ⟨⟨hw, hz, hd, hf, hc, hl, hlen, hnodup⟩, hlock⟩ => ⟨hw, hz, hd, hf, hc, hl, hlen, hnodup, hlock⟩⟩

/-- A safety write whose value is in its field's range. -/
def SafetyWrite.InRange : SafetyWrite → Prop
  | .watchdog ms => 200 ≤ ms ∧ ms ≤ 5000 ∧ ms % 100 = 0
  | .profile _ _ | .chime _ => True
  | .chimeZones z => z.isEmpty = false
  | .chimeDuck d => d.inRange = true
  | .chimeFloor q => -160 ≤ q ∧ q ≤ 0
  | .chimeCeiling q => -120 ≤ q ∧ q ≤ 24
  | .chimeLift n => n ≤ 8
  | .fallback l => l.length ≤ 4 ∧ l.Nodup

theorem SafetyConfig.InRange.write {c : SafetyConfig} {w : SafetyWrite} (h : c.InRange) (hw : w.InRange) :
    (c.write w).InRange := by
  cases w with
  | watchdog ms => exact { h with watchdog := hw }
  | profile z p => exact { h with }
  | chime p => exact { h with }
  | chimeZones z => exact { h with chimeZones := hw }
  | chimeDuck d => exact { h with chimeDuck := hw }
  | chimeFloor q => exact { h with chimeFloor := hw }
  | chimeCeiling q => exact { h with chimeCeiling := hw }
  | chimeLift n => exact { h with chimeLift := hw }
  | fallback l => exact { h with fallback := hw }

theorem readCabinSet_nonempty {b : Byte} {z : CabinSet} (h : readCabinSet b = some z) : z.isEmpty = false := by
  revert h z
  revert b
  unfold readCabinSet
  decide

theorem readChans_length {codes : Bytes} {l : List Chan} (h : readChans codes = some l) : l.length = codes.length := by
  induction codes generalizing l with
  | nil => cases h; rfl
  | cons b bs ih =>
    unfold readChans at h
    split at h
    · rename_i cs hcs
      cases h
      simp [ih hcs]
    · cases h

/-- What SET_SAFETY's body is read as is in its field's range (R25). -/
theorem readSafety_inRange {body : Bytes} {w : SafetyWrite} (h : readSafety body = some w) : w.InRange := by
  unfold readSafety at h
  repeat' split at h
  all_goals simp only [reduceCtorEq, Option.some.injEq, Option.map_eq_some_iff] at h
  · subst h
    rename_i hcount _ _ hread hnodup
    exact ⟨by rw [readChans_length hread]; omega, hnodup⟩
  · subst h
    simp only [SafetyWrite.InRange, clampNat]
    omega
  · obtain ⟨p, _, rfl⟩ := h
    trivial
  · obtain ⟨z, hz, rfl⟩ := h
    exact readCabinSet_nonempty hz
  · subst h
    exact readDepth_inRange _
  · subst h
    exact clampInt_bounds _ (by decide)
  · subst h
    exact clampInt_bounds _ (by decide)
  · subst h
    exact Nat.min_le_right _ _
  · subst h
    trivial

theorem Guarded.safetyOk {s t : State} (h : Guarded s t) (hs : SafetyOk s) : SafetyOk t := by
  rw [safetyOk_iff] at hs ⊢
  rwa [h.config, h.locked]

theorem arrival_safetyOk {kind : Byte} {s : State} (h : SafetyOk s) : SafetyOk (arrival kind s) :=
  (arrival_guarded kind s).safetyOk h

/-- What an edit keeps that its owner's rule keeps on an UNLOCKED part. -/
theorem edit_keeps {P : State → Prop} {k : Kind} {body : Bytes} {act : State → Answer} {s : State}
    (hreply : ∀ r st b u, P u → P (settle (setReply r st b u))) (harr : P (arrival k.code s))
    (ha : ∀ u, u.safety.locked = false → P u → P (act u).state) : P (request k body (whileEditing act) s) := by
  refine request_keeps hreply harr (fun u _ hu => ?_)
  unfold whileEditing
  split
  · exact hu
  · rename_i hlock
    split
    · exact hu
    · exact ha u (by simpa using hlock) hu

theorem answerSafety_safetyOk (body : Bytes) (s : State) (hlock : s.safety.locked = false) (h : SafetyOk s) :
    SafetyOk (answerSafety body s).state := by
  rw [safetyOk_iff] at h ⊢
  unfold answerSafety
  split
  · exact h
  · rename_i w hw
    exact ⟨h.1.write (readSafety_inRange hw), fun hl => absurd (hlock.symm.trans hl) (by decide)⟩

/-- The limits pass their check before the part is LOCKED (R27). -/
theorem answerLock_safetyOk (s : State) (h : SafetyOk s) : SafetyOk (answerLock s).state := by
  rw [safetyOk_iff] at h ⊢
  unfold answerLock
  split
  · rename_i hpass
    refine ⟨h.1, fun _ => ?_⟩
    simp only [safetyPasses, limitsPass, Bool.and_eq_true, decide_eq_true_eq] at hpass
    exact hpass.1.1
  · exact h

theorem reset_safetyOk (s : State) (h : s.safety = Safety.reset) : SafetyOk s := by
  rw [safetyOk_iff, h]
  exact ⟨by constructor <;> decide, by decide⟩

theorem exec_safetyOk {i : Instr} {s t : State} (hs : SafetyOk s) (h : exec i s = .next t) : SafetyOk t := by
  have next {u : State} (hu : exec i s = .next u) : u = t := Host.Outcome.next.inj (hu.symm.trans h)
  by_cases hi : i ≠ .powerOnReset ∧ Instr.isEdit i = false
  · exact (exec_guarded h hi.1 (.inr hi.2)).safetyOk hs
  cases i with
  | powerOnReset => exact next rfl ▸ reset_safetyOk _ rfl
  | setSafety body =>
    exact next rfl ▸ edit_keeps (fun _ _ _ _ hu => hu) (arrival_safetyOk hs) (answerSafety_safetyOk body)
  | lockSafety body =>
    exact next rfl ▸ edit_keeps (fun _ _ _ _ hu => hu) (arrival_safetyOk hs) (fun u _ => answerLock_safetyOk u)
  | patternSegment body =>
    exact (safetyOk_iff t).2 ((exec_touched _ s t h).safety_eq (by simp [Instr.changes, Instr.touches]) ▸ (safetyOk_iff s).1 hs)
  | definePattern body =>
    exact (safetyOk_iff t).2 ((exec_touched _ s t h).safety_eq (by simp [Instr.changes, Instr.touches]) ▸ (safetyOk_iff s).1 hs)
  | _ => exact absurd ⟨by simp, rfl⟩ hi

/-! ### Pattern memory in its form (R81 to R83) -/

/-- The load cursor at a slot of pattern memory, at END, or absent (R82). -/
def cursorOk (load : Option Cursor) : Prop := ∀ n, load = some (.slot n) → n < Config.segmentSlots

theorem patternsOk_iff (s : State) : PatternsOk s ↔ Memory.wf s.patterns.memory ∧ cursorOk s.patterns.load := by
  have hcursor : (match s.patterns.load with
      | some (.slot n) => decide (n < 512)
      | _ => true) = true ↔ cursorOk s.patterns.load := by
    unfold cursorOk
    split
    · simp_all [Config.segmentSlots]
    · simp_all
  exact ⟨fun ⟨hp, hb, hc⟩ => ⟨⟨hp, hb⟩, hcursor.1 hc⟩, fun ⟨⟨hp, hb⟩, hc⟩ => ⟨hp, hb, hcursor.2 hc⟩⟩

theorem patternsOk_of_eq {s t : State} (h : t.patterns = s.patterns) (hs : PatternsOk s) : PatternsOk t := by
  rw [patternsOk_iff] at hs ⊢
  rwa [h]

/-- With load mode OFF the form is of pattern memory alone. -/
theorem patternsOk_unloaded {s t : State} (hm : t.patterns.memory = s.patterns.memory) (hl : t.patterns.load = none)
    (hs : PatternsOk s) : PatternsOk t := by
  rw [patternsOk_iff] at hs ⊢
  rw [hm, hl]
  exact ⟨hs.1, fun n hn => by cases hn⟩

theorem arrival_patternsOk {kind : Byte} {s : State} (h : PatternsOk s) : PatternsOk (arrival kind s) := by
  by_cases hk : kind = 0x1d#8
  · exact patternsOk_of_eq (by rw [arrival_patterns, if_pos hk]) h
  · exact patternsOk_unloaded (by rw [arrival_patterns]) (by rw [arrival_patterns, if_neg hk]) h

theorem answerPatternLoad_patternsOk (body : Bytes) (s : State) (h : PatternsOk s) :
    PatternsOk (answerPatternLoad body s).state := by
  unfold answerPatternLoad
  split
  · split
    · rename_i hslot
      rw [accept_state]
      rw [patternsOk_iff] at h ⊢
      exact ⟨h.1, fun n hn => by cases hn; exact hslot⟩
    · exact h
  · exact h

/-- Behind the end of memory no segment is written (R83). -/
theorem writeSegments_atEnd (gs : List Segment) (l : List (Nat × Segment)) :
    writeSegments gs .atEnd l = (0, .atEnd, l) := by
  cases gs <;> rfl

theorem answerPatternSegment_patternsOk (body : Bytes) (s : State) (h : PatternsOk s) :
    PatternsOk (answerPatternSegment body s).state := by
  unfold answerPatternSegment
  split
  · exact h
  · rename_i c hc
    split
    · exact h
    · rename_i gs _
      dsimp only
      rw [patternsOk_iff] at h ⊢
      obtain ⟨hwf, hcur⟩ := h
      simp only [State.modPatterns_patterns]
      cases c with
      | slot n =>
        have hn := hcur n hc
        exact ⟨writeSegments_wf gs n _ hn hwf,
          fun m hm => writeSegments_cursor_below gs n _ hn m (Option.some.inj hm)⟩
      | atEnd =>
        rw [writeSegments_atEnd]
        exact ⟨hwf, fun m hm => by simp at hm⟩

theorem answerDefine_patternsOk (body : Bytes) (s : State) (h : PatternsOk s) :
    PatternsOk (answerDefine body s).state := by
  have set (p : PatternId) (t : Option Pattern) : PatternsOk (setPattern p t s) := h
  have refused (status : Status) : PatternsOk (refuse s status).state := h
  unfold answerDefine
  dsimp only
  repeat' split
  any_goals with_reducible exact refused _
  · exact set _ _
  · exact h
  · exact h
  · exact set _ _

theorem answerLock_patternsOk (s : State) (h : PatternsOk s) : PatternsOk (answerLock s).state := by
  unfold answerLock
  split
  · exact patternsOk_unloaded (s := s) rfl rfl h
  · exact h

theorem answerStandby_patternsOk (s : State) (h : PatternsOk s) : PatternsOk (answerStandby s).state := by
  unfold answerStandby
  split
  · exact h
  · split
    · exact h
    · rw [accept_state]
      have hp := (enterStandby_within s).patterns_eq
      exact patternsOk_unloaded (s := s) (by rw [hp]; rfl) (by rw [hp]; rfl) h

theorem request_patternsOk {k : Kind} {body : Bytes} {act : State → Answer} {s : State}
    (ha : ∀ u, PatternsOk u → PatternsOk (act u).state) (h : PatternsOk s) : PatternsOk (request k body act s) :=
  request_keeps (fun _ _ _ _ hu => hu) (arrival_patternsOk h) (fun u _ => ha u)

theorem exec_patternsOk {i : Instr} {s t : State} (hs : PatternsOk s) (h : exec i s = .next t) : PatternsOk t := by
  have next {u : State} (hu : exec i s = .next u) : u = t := Host.Outcome.next.inj (hu.symm.trans h)
  by_cases hb : (Instr.changes i).contains .patterns = false
  · have hp : .patterns ∉ Instr.changes i := by simpa using hb
    cases exec_touched i s t h with
    | event h => exact patternsOk_of_eq (h .patterns (by simpa using hp)) hs
    | frame kind h => exact patternsOk_of_eq (h .patterns (by simpa using hp)) (arrival_patternsOk hs)
  cases i with
  | powerOnReset => exact next rfl ▸ (patternsOk_iff _).2 ⟨reset_memory_wf, fun n hn => by cases hn⟩
  | lockSafety body =>
    exact next rfl ▸ request_patternsOk (fun u hu => whileEditing_keeps hu (answerLock_patternsOk u hu)) hs
  | patternLoad body =>
    exact next rfl ▸ request_patternsOk (fun u hu => whileEditing_keeps hu (answerPatternLoad_patternsOk body u hu)) hs
  | patternSegment body =>
    exact next rfl ▸
      request_patternsOk (fun u hu => whileEditing_keeps hu (answerPatternSegment_patternsOk body u hu)) hs
  | definePattern body =>
    exact next rfl ▸ request_patternsOk (fun u hu => whileEditing_keeps hu (answerDefine_patternsOk body u hu)) hs
  | standby body => exact next rfl ▸ request_patternsOk answerStandby_patternsOk hs
  | restart body =>
    exact next rfl ▸ request_patternsOk (fun u hu => patternsOk_unloaded (s := u) rfl rfl hu) hs
  | _ => exact absurd rfl hb

/-- Settles O58: each of the three is kept by every command (`exec_settingsOk`, `exec_safetyOk`, `exec_patternsOk`), and a
millisecond touches none of what they speak of. -/
theorem settingsStayInRange : Obligations.SettingsStayInRange := by
  unfold Obligations.SettingsStayInRange
  intro s t h
  obtain ⟨_, rfl⟩ | ⟨i, rest, _, hx⟩ := step_cases h
  · exact ⟨id, id, id⟩
  · exact ⟨fun hs => exec_settingsOk (s := s.setPending rest) hs hx, fun hs => exec_safetyOk (s := s.setPending rest) hs hx,
      fun hs => exec_patternsOk (s := s.setPending rest) hs hx⟩

/-! ### Right after a power-on reset -/

/-- Settles O60: with no path, no voice, no entry but BASE and nothing installed, each invariant is a finite fact about the
power-on values. -/
theorem invariantsHoldAtReset : Obligations.InvariantsHoldAtReset := by
  unfold Obligations.InvariantsHoldAtReset
  refine ⟨?_, ?_, ?_, ?_, ?_, ?_, ?_, ?_, ?_, (settingsOk_iff _).2 reset_zr_inRange, reset_safetyOk _ rfl,
    (patternsOk_iff _).2 ⟨reset_memory_wf, fun n hn => by cases hn⟩, statesOk_of_stopped rfl rfl, ?_⟩
  · exact reset_inOrder none
  · decide
  · exact ⟨fun p hp => (List.not_mem_nil hp).elim, fun v hv => (List.not_mem_nil hv).elim⟩
  · decide
  · decide
  · decide
  · decide
  · decide
  · decide
  · exact powerOnReset_channelsOk State.reset

end Sys2Proof.Machine
end

section
/-! SUPPORT. Paths in the states in which nothing plays (R54, R62), and RESTART (R21). -/

-- One declaration at a time: together they would start more threads than the check's memory limit has stacks for.
set_option Elab.async false

namespace Sys2Proof.Machine

/-! ### A request's next state by its own rule's answer -/

theorem exec_next_accepting {i : Instr} {k : Kind} {body : Bytes} {act : State → Answer} {s v : State} {b : Bytes}
    (hi : exec i s = .next (request k body act s)) (hlen : lengthAllowed k body = true) (hready : Ready k s)
    (hact : act (atRequest k s) = accept v b) : exec i s = .next (v.accepting k b) :=
  hi.trans (congrArg Host.Outcome.next (request_accepting hlen hready hact))

theorem exec_next_refusing {i : Instr} {k : Kind} {body : Bytes} {act : State → Answer} {s : State} {st : Status}
    (hi : exec i s = .next (request k body act s)) (hlen : lengthAllowed k body = true) (hready : Ready k s)
    (hact : act (atRequest k s) = refuse (atRequest k s) st) : exec i s = .next ((atRequest k s).refusing k st) :=
  hi.trans (congrArg Host.Outcome.next (request_refusing hlen hready hact))

/-! ### Paths where nothing plays -/

theorem pathTarget_of_silent {s : State} (h : s.sc.opState ∈ [OpState.boot, .config, .standby]) (z : Zone) (c : Class)
    (src : Option Source) (ch : Chan) : pathTarget s z c src ch = .mute := by
  have hz : zoneMuted s z c = true := by
    simp only [List.mem_cons, List.not_mem_nil, or_false] at h
    rcases h with h | h | h <;> simp [zoneMuted, h]
  unfold pathTarget
  split
  · rfl
  · simp [hz]

/-- In BOOT, CONFIG and STANDBY every target is MUTE (R62). -/
theorem settle_targets_mute {s : State} (h : s.sc.opState ∈ [OpState.boot, .config, .standby]) :
    ∀ p ∈ (settle s).ge.paths, p.target = .mute := by
  intro p hp
  obtain ⟨q, _, rfl⟩ : ∃ q ∈ formedPaths s, retargeted s q = p := List.mem_map.1 hp
  unfold retargeted
  split
  · rfl
  · exact pathTarget_of_silent h _ _ _ _

/-- A called path starts from MUTE where none stood before (R54). -/
theorem settle_audible_mute {s : State} (h : s.ge.paths = []) : ∀ p ∈ (settle s).ge.paths, p.audible = .mute := by
  intro p hp
  obtain ⟨q, hq, rfl⟩ : ∃ q ∈ formedPaths s, retargeted s q = p := List.mem_map.1 hp
  have haudible : (retargeted s q).audible = q.audible := by
    unfold retargeted
    split <;> rfl
  simp only [formedPaths, h, retiringPaths, List.filter_nil, List.map_nil, List.append_nil, List.mem_map] at hq
  obtain ⟨r, hr, rfl⟩ := hq
  rw [haudible, show keepAudible [] r = r from rfl]
  simp only [calledPaths, List.mem_flatMap, List.mem_map] at hr
  obtain ⟨_, _, _, _, _, _, rfl⟩ := hr
  rfl

/-! ### RESTART (R21) -/

theorem accepted_restart {o : OpState} (h : o ∈ [OpState.config, .run, .standby]) : accepted .restart o = true := by
  revert h
  cases o <;> decide

/-- Settles O10: RESTART is accepted with `restarted`, whose blocks are those that R21 names; with no path left every path
that is formed starts at MUTE. -/
theorem restartKeepsWhatItNames : Obligations.RestartKeepsWhatItNames := by
  unfold Obligations.RestartKeepsWhatItNames
  rintro s u rfl hop
  have hexec := exec_next_accepting (i := .restart []) (act := answerRestart) rfl rfl (accepted_restart hop) rfl
  have hamps (k : Amp) : (restartedOutputs (atRequest .restart s)).amps[k] =
      { AmpChannel.reset with
        state := installedState (atRequest .restart s).install k, result := (atRequest .restart s).os.amps[k].result } := by
    simp [restartedOutputs, restartedAmp]
  have hdouts (k : Dout) : (restartedOutputs (atRequest .restart s)).douts[k] =
      installedDout (atRequest .restart s).install k := by
    simp [restartedOutputs]
  have hvoicing (c : Fin 18) : ((atRequest .restart s).ge.voicing.map ChannelVoicing.restarted)[c] =
      ((atRequest .restart s).ge.voicing[c]).restarted := by
    simp
  refine ⟨_, hexec, rfl, rfl, rfl, rfl, rfl, rfl, rfl, rfl, rfl, rfl, rfl, rfl, rfl, hamps, hdouts, rfl, hvoicing,
    fun p hp => ⟨settle_targets_mute (List.mem_cons_self ..) p hp, settle_audible_mute rfl p hp⟩, rfl, rfl⟩

end Sys2Proof.Machine
end

section
/-! SUPPORT. The edit window and the lock (R26, R27), and SET_SAFETY's fields (R25). -/

-- One declaration at a time: together they would start more threads than the check's memory limit has stacks for.
set_option Elab.async false

namespace Sys2Proof.Machine

/-! ### The five edits and their window (R26) -/

/-- The requests that the edit window guards. -/
abbrev editKinds : List Kind := [Kind.setSafety, .lockSafety, .patternLoad, .patternSegment, .definePattern]

theorem accepted_edit {k : Kind} {o : OpState} (hk : k = .openSafetyEdit ∨ k ∈ editKinds) (ho : o = .config ∨ o = .run) :
    accepted k o = true := by
  simp only [editKinds, List.mem_cons, List.not_mem_nil, or_false] at hk
  rcases hk with rfl | rfl | rfl | rfl | rfl | rfl <;> rcases ho with rfl | rfl <;> rfl

/-- Each of the five asks the lock and the window before its owner's rule. -/
theorem exec_edit {i : Instr} {k : Kind} {body : Bytes} (h : i.request = some (k, body)) (hk : k ∈ editKinds) :
    ∃ act, ∀ s, exec i s = .next (request k body (whileEditing act) s) := by
  simp only [editKinds, List.mem_cons, List.not_mem_nil, or_false] at hk
  rcases hk with rfl | rfl | rfl | rfl | rfl <;> cases i <;> cases h <;> exact ⟨_, fun _ => rfl⟩

theorem whileEditing_closed {act : State → Answer} {s : State} (hl : s.safety.locked = false)
    (hw : s.safety.windowOpen = false) : whileEditing act s = refuse s .editClosed := by
  simp [whileEditing, hl, hw]

theorem whileEditing_open {act : State → Answer} {s : State} (hl : s.safety.locked = false)
    (hw : s.safety.windowOpen = true) : whileEditing act s = act s := by
  simp [whileEditing, hl, hw]

/-- The three checks of R27, read as what they ask. -/
theorem safetyPasses_iff (s : State) :
    safetyPasses s = true ↔
      s.safety.config.chimeFloor ≤ s.safety.config.chimeCeiling ∧
        (∀ p : PatternId, s.safety.config.chime = some p → s.patterns.table[p].isSome = true) ∧
        ∀ c ∈ s.safety.config.fallback, (servedBy s.install c).isSome = true := by
  have hchime : chimePasses s = true ↔
      ∀ p : PatternId, s.safety.config.chime = some p → s.patterns.table[p].isSome = true := by
    unfold chimePasses
    split <;> simp_all
  have hfallback : (failingFallback s).isEmpty = true ↔
      ∀ c ∈ s.safety.config.fallback, (servedBy s.install c).isSome = true := by
    simp [failingFallback, Option.isSome_iff_ne_none]
  simp only [safetyPasses, limitsPass, Bool.and_eq_true, decide_eq_true_eq, hchime, hfallback, and_assoc]

theorem answerLock_of_passing {s : State} (h : safetyPasses s = true) :
    answerLock s = accept { s with
      safety := { s.safety with locked := true, windowOpen := false }
      patterns := { s.patterns with load := none } } (u16 s.safety.config.watchdogMs) := by
  simp only [answerLock, h, if_true]
  rfl

theorem answerLock_of_failing {s : State} (h : safetyPasses s ≠ true) :
    answerLock s = { state := s, status := .badSafety, body := badSafetyBody s } := if_neg h

/-- Settles O15: the lock and the window are tested before an edit's own rule (`whileEditing`), and LOCK_SAFETY's rule is the
three checks of `safetyPasses_iff`. -/
theorem safetyWindowAndLock : Obligations.SafetyWindowAndLock := by
  unfold Obligations.SafetyWindowAndLock
  constructor
  · rintro i k body s u w hi hk rfl rfl hop
    obtain ⟨act, hexec⟩ := exec_edit hi hk
    have hready : Ready k s := accepted_edit (.inr hk) hop
    have hopen : Ready .openSafetyEdit s := accepted_edit (.inl rfl) (by simpa [atRequest, arrival_sc] using hop)
    refine ⟨fun hlen hl => ?_, fun hlen hl hw => ?_, fun hl => ?_, fun hl => ?_⟩
    · exact exec_next_refusing (hexec s) hlen hready (whileEditing_locked hl)
    · exact exec_next_refusing (hexec s) hlen hready (whileEditing_closed hl hw)
    · exact exec_next_refusing (act := answerOpenEdit) rfl rfl hopen (if_pos hl)
    · exact exec_next_accepting (act := answerOpenEdit) rfl rfl hopen (if_neg (by simp [hl]))
  · rintro s u rfl hop hl hw
    have hready : Ready .lockSafety s := accepted_edit (.inr (by simp)) hop
    have hown := whileEditing_open (act := answerLock) hl hw
    split
    · rename_i hpass
      exact exec_next_accepting (act := whileEditing answerLock) rfl rfl hready
        (hown.trans (answerLock_of_passing ((safetyPasses_iff _).2 hpass)))
    · rename_i hfail
      have hact := hown.trans (answerLock_of_failing (fun h => hfail ((safetyPasses_iff _).1 h)))
      refine ⟨badSafetyBody (atRequest .lockSafety s), congrArg Host.Outcome.next
        ((request_acts .lockSafety [] (whileEditing answerLock) s rfl hready).trans ?_)⟩
      rw [hact]

/-! ### SET_SAFETY (R25) -/

/-- SET_SAFETY in the open window of an UNLOCKED part stores what its body is read as. -/
theorem setSafety_stores {s u : State} (hu : u = atRequest .setSafety s) (hop : u.sc.opState = .config ∨ u.sc.opState = .run)
    (hl : u.safety.locked = false) (hw : u.safety.windowOpen = true) {body : Bytes} {w : SafetyWrite}
    (hlen : lengthAllowed .setSafety body = true) (hread : readSafety body = some w) :
    exec (.setSafety body) s =
      .next (({ u with safety := { u.safety with config := u.safety.config.write w } } : State).accepting .setSafety
        (body.take 1 ++ safetyValueField w)) := by
  subst hu
  refine exec_next_accepting (act := whileEditing (answerSafety body)) rfl hlen (accepted_edit (.inr (by simp)) hop) ?_
  rw [whileEditing_open hl hw]
  simp only [answerSafety, hread]
  rfl

theorem setSafety_refuses {s u : State} (hu : u = atRequest .setSafety s) (hop : u.sc.opState = .config ∨ u.sc.opState = .run)
    (hl : u.safety.locked = false) (hw : u.safety.windowOpen = true) {body : Bytes}
    (hlen : lengthAllowed .setSafety body = true) (hread : readSafety body = none) :
    exec (.setSafety body) s = .next (u.refusing .setSafety .outOfRange) := by
  subst hu
  refine exec_next_refusing (act := whileEditing (answerSafety body)) rfl hlen (accepted_edit (.inr (by simp)) hop) ?_
  rw [whileEditing_open hl hw]
  simp only [answerSafety, hread]

/-! ### What SET_SAFETY's body is read as -/

theorem lengthAllowed_safetyField {f hi lo : Byte} : lengthAllowed .setSafety [f, hi, lo] = true := by
  simp [lengthAllowed]

theorem lengthAllowed_fallback {count : Byte} {codes : Bytes} (h : codes.length ≤ 4) :
    lengthAllowed .setSafety (12#8 :: count :: codes) = true := by
  simp only [lengthAllowed, List.head?_cons, if_true, List.length_cons, Bool.and_eq_true, decide_eq_true_eq]
  omega

theorem readSafety_profile (z : Zone) (p : Profile) :
    readSafety [byte (zoneCode z + 1), 0#8, byte p.code] = some (.profile z p) := by
  rcases z with c | h
  · cases c <;> cases p <;> rfl
  · cases h <;> cases p <;> rfl

theorem readSafety_profile_none (z : Zone) {lo : Byte} (h : 2 ≤ lo.toNat) :
    readSafety [byte (zoneCode z + 1), 0#8, lo] = none := by
  have hp : ofCode [Profile.hold, .quiet] Profile.code lo = none := by
    simp only [ofCode, List.find?_eq_none, List.mem_cons, List.not_mem_nil, or_false, beq_iff_eq]
    rintro p (rfl | rfl) <;> simp only [Profile.code] <;> omega
  rcases z with c | h
  · cases c <;> simp [readSafety, zoneCode, hp]
  · cases h <;> simp [readSafety, zoneCode, hp]

theorem readSafety_pattern (id : PatternId) : readSafety [6#8, 0#8, byte id.val] = some (.chime (some id)) := by
  revert id
  decide

theorem readSafety_pattern_none {lo : Byte} (h : 32 ≤ lo.toNat) (hne : lo ≠ 255#8) :
    readSafety [6#8, 0#8, lo] = none := by
  revert lo
  decide

theorem readSafety_zones {lo : Byte} (h0 : 0 < lo.toNat) (h8 : lo.toNat < 8) :
    readSafety [7#8, 0#8, lo] = some (.chimeZones ⟨lo.getLsbD 0, lo.getLsbD 1, lo.getLsbD 2⟩) ∧
      u16 (bitsOf [lo.getLsbD 0, lo.getLsbD 1, lo.getLsbD 2]) = [0#8, lo] := by
  revert lo
  decide

theorem readSafety_zones_none {lo : Byte} (h : lo = 0#8 ∨ 8 ≤ lo.toNat) : readSafety [7#8, 0#8, lo] = none := by
  revert lo
  decide

theorem readSafety_unknown {f hi lo : Byte} (h : 13 ≤ f.toNat) : readSafety [f, hi, lo] = none := by
  have hne : f.toNat ≠ 12 := by omega
  simp only [readSafety, hne, if_false]
  split
  any_goals omega
  exact if_neg (by omega)

theorem readRoledChan_code {c : Chan} (h : c ∈ Chan.roled) : readRoledChan (byte (chanCode c)) = some c := by
  revert c
  decide

theorem readRoledChan_none {b : Byte} (h : b = 0#8 ∨ 17 ≤ b.toNat) : readRoledChan b = none := by
  revert b
  decide

theorem readChans_codes {l : List Chan} (h : ∀ c ∈ l, c ∈ Chan.roled) :
    readChans (l.map (fun c => byte (chanCode c))) = some l := by
  induction l with
  | nil => rfl
  | cons c l ih =>
    simp only [List.forall_mem_cons] at h
    simp [readChans, readRoledChan_code h.1, ih h.2]

theorem readChans_none {codes : Bytes} (h : ∃ c ∈ codes, c = 0#8 ∨ 17 ≤ c.toNat) : readChans codes = none := by
  induction codes with
  | nil => simp at h
  | cons b bs ih =>
    obtain ⟨c, hc, hbad⟩ := h
    unfold readChans
    rcases List.mem_cons.1 hc with rfl | hc
    · rw [readRoledChan_none hbad]
    · rw [ih ⟨c, hc, hbad⟩]
      split
      · rename_i heq
        cases heq
      · rfl

theorem readSafety_fallback {l : List Chan} (h : ∀ c ∈ l, c ∈ Chan.roled) (hlen : l.length ≤ 4) :
    readSafety (12#8 :: byte l.length :: l.map (fun c => byte (chanCode c))) =
      if l.Nodup then some (.fallback l) else none := by
  have hcount : (byte l.length).toNat = l.length := by
    simp only [BitVec.toNat_ofNat]
    omega
  simp only [readSafety, show (12#8 : Byte).toNat = 12 from rfl, if_true, hcount, List.length_map, readChans_codes h]
  exact if_neg (by omega)

theorem readSafety_fallback_none {count : Byte} {codes : Bytes}
    (h : 4 < count.toNat ∨ codes.length ≠ count.toNat ∨ ∃ c ∈ codes, c = 0#8 ∨ 17 ≤ c.toNat) :
    readSafety (12#8 :: count :: codes) = none := by
  simp only [readSafety, show (12#8 : Byte).toNat = 12 from rfl, if_true]
  split
  · rfl
  · rename_i hcount
    rw [readChans_none (by simpa [not_or.1 hcount] using h)]

theorem fallback_field (l : List Chan) :
    safetyValueField (.fallback l) = byte l.length :: l.map (fun c => byte (chanCode c)) := by
  have hcodes : (l.map (fun c => u8 (chanCode c))).flatten = l.map (fun c => byte (chanCode c)) :=
    List.flatMap_def.symm.trans (List.map_eq_flatMap ..).symm
  exact congrArg (byte l.length :: ·) hcodes

/-- Settles O16: each field's body is read as the write that its kind lays down, or as none (`readSafety_profile` and the lemmas
after it), and SET_SAFETY stores the one and refuses the other. -/
theorem safetyFieldsAreStored : Obligations.SafetyFieldsAreStored := by
  unfold Obligations.SafetyFieldsAreStored
  intro s u f hi lo z p id x ms l codes hu hop hl hw hx hms
  have stores {body : Bytes} {w : SafetyWrite} {reply : Bytes} (hlen : lengthAllowed .setSafety body = true)
      (hread : readSafety body = some w) (hreply : body.take 1 ++ safetyValueField w = reply) :
      exec (.setSafety body) s = .next (({ u with
        safety := { u.safety with config := u.safety.config.write w } } : State).accepting .setSafety reply) :=
    hreply ▸ setSafety_stores hu hop hl hw hlen hread
  have refuses {body : Bytes} (hlen : lengthAllowed .setSafety body = true) (hread : readSafety body = none) :
      exec (.setSafety body) s = .next (u.refusing .setSafety .outOfRange) :=
    setSafety_refuses hu hop hl hw hlen hread
  have flen {f hi lo : Byte} : lengthAllowed .setSafety [f, hi, lo] = true := lengthAllowed_safetyField
  refine ⟨?_, ?_, ?_, ?_, ?_, ?_, ?_, ?_, ?_, ?_, ?_, ?_, ?_, ?_, ?_, ?_⟩
  · subst hms
    exact stores (w := .watchdog _) flen rfl rfl
  · exact stores flen (readSafety_profile z p) (by cases p <;> rfl)
  · exact stores (w := .chime none) flen rfl rfl
  · refine stores flen (readSafety_pattern id) ?_
    have hid : id.val / 256 = 0 := by omega
    simp [safetyValueField, u16, hid]
  · intro h0 h8
    obtain ⟨hread, hfield⟩ := readSafety_zones h0 h8
    exact stores flen hread (congrArg (7#8 :: ·) hfield)
  · intro hfull
    exact stores (w := .chimeDuck .full) flen (by simp [readSafety, readDepth, hfull]) rfl
  · intro hnum
    exact stores (w := .chimeDuck (.num (min (nat16 hi lo) 240))) flen (by simp [readSafety, readDepth, hnum]) rfl
  · subst hx
    exact stores (w := .chimeFloor _) flen rfl rfl
  · subst hx
    exact stores (w := .chimeCeiling _) flen rfl rfl
  · exact stores (w := .chimeLift _) flen rfl rfl
  · intro hroled hlen
    have hread := readSafety_fallback hroled hlen
    have hallowed : lengthAllowed .setSafety (12#8 :: byte l.length :: l.map (fun c => byte (chanCode c))) = true :=
      lengthAllowed_fallback (by simpa using hlen)
    split
    · rename_i hnodup
      exact stores hallowed (hread.trans (if_pos hnodup)) (congrArg (12#8 :: ·) (fallback_field l))
    · rename_i hnodup
      exact refuses hallowed (hread.trans (if_neg hnodup))
  · intro hlen hbad
    exact refuses (lengthAllowed_fallback hlen) (readSafety_fallback_none hbad)
  · intro hf
    exact refuses flen (readSafety_unknown hf)
  · intro hlo
    exact refuses flen (readSafety_profile_none z hlo)
  · intro hlo hne
    exact refuses flen (readSafety_pattern_none hlo hne)
  · intro hlo
    exact refuses flen (readSafety_zones_none hlo)

end Sys2Proof.Machine
end

section
/-! SUPPORT. SET_INSTALL's fields, and what a stored value changes in the blocks that read it (R22 to R24). -/

-- One declaration at a time: together they would start more threads than the check's memory limit has stacks for.
set_option Elab.async false

namespace Sys2Proof.Machine

/-! ### SET_INSTALL's own rule (R22) -/

theorem answerInstall_stores {s : State} {field hi lo : Byte} {f : InstallField} {v : InstallValue}
    (hf : readInstallField field = some f) (hv : readInstallValue f hi lo = some v) (hset : installSet s.install f = false)
    (hconflict : installConflict s.install f v = false) :
    answerInstall [field, hi, lo] s =
      accept (installEffect f v (s.modInstall (fun i => i.write f v))) [field, hi, lo] := by
  simp [answerInstall, hf, hv, hset, hconflict]

/-- SET_INSTALL in CONFIG stores what its body is read as in a field that is UNSET. -/
theorem setInstall_stores {s u : State} (hu : u = atRequest .setInstall s) (hop : u.sc.opState = .config)
    {field hi lo : Byte} {f : InstallField} {v : InstallValue}
    (hf : readInstallField field = some f) (hv : readInstallValue f hi lo = some v) (hset : installSet u.install f = false)
    (hconflict : installConflict u.install f v = false) :
    exec (.setInstall [field, hi, lo]) s =
      .next ((installEffect f v (u.modInstall (fun i => i.write f v))).accepting .setInstall [field, hi, lo]) := by
  subst hu
  exact exec_next_accepting (act := answerInstall [field, hi, lo]) rfl rfl (congrArg (accepted .setInstall) hop)
    (answerInstall_stores hf hv hset hconflict)

theorem setInstall_refuses {s u : State} (hu : u = atRequest .setInstall s) (hop : u.sc.opState = .config)
    {field hi lo : Byte} {st : Status} (h : answerInstall [field, hi, lo] u = refuse u st) :
    exec (.setInstall [field, hi, lo]) s = .next (u.refusing .setInstall st) := by
  subst hu
  exact exec_next_refusing (act := answerInstall [field, hi, lo]) rfl rfl (congrArg (accepted .setInstall) hop) h

theorem answerInstall_unknown {s : State} {field hi lo : Byte} (hf : readInstallField field = none) :
    answerInstall [field, hi, lo] s = refuse s .outOfRange := by
  simp [answerInstall, hf]

theorem answerInstall_badValue {s : State} {field hi lo : Byte} {f : InstallField} (hf : readInstallField field = some f)
    (hv : readInstallValue f hi lo = none) : answerInstall [field, hi, lo] s = refuse s .outOfRange := by
  simp [answerInstall, hf, hv]

theorem answerInstall_set {s : State} {field hi lo : Byte} {f : InstallField} {v : InstallValue}
    (hf : readInstallField field = some f) (hv : readInstallValue f hi lo = some v) (hset : installSet s.install f = true) :
    answerInstall [field, hi, lo] s = refuse s .alreadySet := by
  simp [answerInstall, hf, hv, hset]

theorem answerInstall_conflict {s : State} {field hi lo : Byte} {f : InstallField} {v : InstallValue}
    (hf : readInstallField field = some f) (hv : readInstallValue f hi lo = some v) (hset : installSet s.install f = false)
    (hconflict : installConflict s.install f v = true) : answerInstall [field, hi, lo] s = refuse s .conflict := by
  simp [answerInstall, hf, hv, hset, hconflict]

/-! ### What SET_INSTALL's body is read as -/

theorem readInstallField_ampRole (k : Amp) : readInstallField (byte (k.val + 1)) = some (.ampRole k) := by
  revert k
  decide

theorem readInstallField_doutRole (d : Dout) : readInstallField (byte (d.val + 11)) = some (.doutRole d) := by
  revert d
  decide

theorem readInstallField_bridge (p : Fin 5) : readInstallField (byte (p.val + 17)) = some (.bridge p) := by
  revert p
  decide

theorem readInstallField_hpFitted (h : Hp) : readInstallField (byte (zoneCode (.hp h) + 19)) = some (.hpFitted h) := by
  cases h <;> rfl

theorem readInstallField_micFitted (m : Mic) :
    readInstallField (byte (itemPlace (.mic m) + 11)) = some (.micFitted m) := by
  cases m <;> rfl

theorem readInstallField_none {b : Byte} (h : 29 ≤ b.toNat) : readInstallField b = none := by
  revert b
  decide

theorem readRole_zone (c : Cabin) (p : Position) : readRole (byte (zoneCode (.cabin c))) (byte p.code) = some (.zone c p) := by
  cases c <;> cases p <;> rfl

theorem readInstallValue_role {c : Cabin} {p : Position} :
    (readRole (byte (zoneCode (.cabin c))) (byte p.code)).map InstallValue.role = some (.role (.zone c p)) := by
  rw [readRole_zone, Option.map_some]

theorem readInstallValue_hpFitted (h : Hp) (b : Bool) :
    readInstallValue (.hpFitted h) 0#8 (byte b.toNat) = some (.flag b) := by
  cases b <;> rfl

theorem readInstallValue_micFitted (m : Mic) (b : Bool) :
    readInstallValue (.micFitted m) 0#8 (byte b.toNat) = some (.flag b) := by
  cases b <;> rfl

/-! ### What a stored value changes -/

/-- The selection reads the installation record, and the call context but for the selection itself. -/
theorem selectionOf_congr {s t : State} {x : Selection} (hinstall : t.install = s.install)
    (hclp : t.clp = { s.clp with selection := x }) : selectionOf t = selectionOf s := by
  have husable : micUsable t = micUsable s := by
    funext m
    simp only [micUsable, micIsFitted, hinstall, hclp]
  have hroute : routeMics t = routeMics s := by
    simp only [routeMics, firstUsable, husable, hclp]
  simp only [selectionOf, husable, hroute]

theorem installConflict_bridge {i : Install} {p : Fin 5} :
    installConflict i (.bridge p) (.flag true) = true ↔ ∃ r, i.ampRole[evenOf p] = some r ∧ r ≠ .unused := by
  unfold installConflict
  dsimp only
  split <;> simp_all

theorem accepting_keepsBut (s : State) (k : Kind) (body : Bytes) : keepsBut [.cp] s (s.accepting k body) :=
  keepsBut_replied _ _ _ s

/-- A microphone's field stored: the selection is made afresh, and nothing else but the record changes. -/
theorem micFitted_stored (u : State) (i : Install) (k : Kind) (body : Bytes) :
    let t := (remakeSelection false { u with install := i }).accepting k body
    t.install = i ∧ t.clp = { u.clp with selection := selectionOf t } ∧ keepsBut [.cp, .install, .clp] u t := by
  intro t
  have hremade := remakeSelection_within false { u with install := i }
  have hclp : t.clp = { u.clp with selection := selectionOf { u with install := i } } := remakeSelection_clp false _
  have hinstall : t.install = i := hremade.install_eq
  have hsel : selectionOf t = selectionOf { u with install := i } := selectionOf_congr hinstall hclp
  refine ⟨hinstall, hsel ▸ hclp, ?_⟩
  have hwrite : keepsBut [.install] u { u with install := i } := fun b hb => by
    cases b <;> simp [Block.same] at hb ⊢
  exact (hwrite.mono.trans hremade.same.mono).trans (accepting_keepsBut _ k body).mono

/-- Settles O13: each field and value is read as what the code says (`readInstallField_ampRole` and the lemmas after it), and
SET_INSTALL stores it with `installEffect` or refuses it by the first check of `answerInstall` that fails. -/
theorem installFieldsAreStored : Obligations.InstallFieldsAreStored := by
  unfold Obligations.InstallFieldsAreStored
  constructor
  · intro s u hi lo k d pr h m c p yes hu hop
    have stores {field hi lo : Byte} {f : InstallField} (v : InstallValue) (hf : readInstallField field = some f)
        (hv : readInstallValue f hi lo = some v) (hset : installSet u.install f = false)
        (hconflict : installConflict u.install f v = false) :=
      setInstall_stores hu hop hf hv hset hconflict
    have leader (hnone : u.install.clockRole = none) :=
      stores (field := 28#8) (hi := 0#8) (lo := 1#8) (f := .clockRole) (.clock .leader) rfl rfl (by simp [installSet, hnone]) rfl
    refine ⟨fun hnone => ?_, fun hnone heven => ⟨?_, ?_⟩, fun hnone => ⟨?_, ?_⟩,
      fun hnone => ⟨?_, fun hrole => ?_, fun r hr hne => ?_⟩, fun hnone => ?_, fun hnone => ?_,
      fun hnone => ⟨?_, fun hclock => ?_, fun hclock => ?_⟩⟩
    · exact stores (f := .variant) (.number (nat16 hi lo)) rfl rfl (by simp [installSet, hnone]) rfl
    · exact stores (.role (.zone c p)) (readInstallField_ampRole k) readInstallValue_role
        (by simp [installSet, hnone]) heven
    · exact stores (.role .unused) (readInstallField_ampRole k) rfl (by simp [installSet, hnone]) heven
    · exact stores (.role (.zone c p)) (readInstallField_doutRole d)
        readInstallValue_role (by simp [installSet, hnone]) rfl
    · exact stores (.role .unused) (readInstallField_doutRole d) rfl (by simp [installSet, hnone]) rfl
    · exact stores (.flag false) (readInstallField_bridge pr) rfl (by simp [installSet, hnone]) rfl
    · refine stores (.flag true) (readInstallField_bridge pr) rfl (by simp [installSet, hnone]) ?_
      rw [Bool.eq_false_iff, ne_eq, installConflict_bridge]
      rintro ⟨r, hr, hne⟩
      rcases hrole with hrole | hrole <;> simp_all
    · exact setInstall_refuses hu hop (answerInstall_conflict (v := .flag true) (readInstallField_bridge pr) rfl
        (by simp [installSet, hnone]) (installConflict_bridge.2 ⟨r, hr, hne⟩))
    · have hexec := stores (.flag yes) (readInstallField_hpFitted h) (readInstallValue_hpFitted h yes)
        (by simp [installSet, hnone]) rfl
      cases yes <;> exact hexec
    · have hexec := stores (.flag yes) (readInstallField_micFitted m) (readInstallValue_micFitted m yes)
        (by simp [installSet, hnone]) rfl
      obtain ⟨hinstall, hclp, hkept⟩ := micFitted_stored u _ .setInstall _
      exact ⟨_, hexec, hinstall, hclp, rfl, hkept⟩
    · exact stores (.clock .follower) (f := .clockRole) rfl rfl (by simp [installSet, hnone]) rfl
    · exact (leader hnone).trans (congrArg (Host.Outcome.next <| State.accepting · _ _) (if_neg (by simp [hclock])))
    · exact (leader hnone).trans (congrArg (Host.Outcome.next <| State.accepting · _ _) (if_pos hclock))
  · intro s u f hi lo x v hu hop
    have refuses {st : Status} (h : answerInstall [f, hi, lo] u = refuse u st) := setInstall_refuses hu hop h
    exact ⟨fun hf => refuses (answerInstall_unknown (readInstallField_none hf)),
      fun hf hv => refuses (answerInstall_badValue hf hv), fun hf hv hset => refuses (answerInstall_set hf hv hset),
      fun k hf hv hnone heven => refuses (answerInstall_conflict hf hv (by simp [installSet, hnone]) heven)⟩

end Sys2Proof.Machine
end

section
/-! SUPPORT. START_AUDIO: what it makes of each channel, of the receivers and of RX-B's holder (R17, R123, R154, R163). -/

-- One declaration at a time: together they would start more threads than the check's memory limit has stacks for.
set_option Elab.async false

namespace Sys2Proof.Machine

/-! ### One amplifier at START_AUDIO (R154) -/

/-- The record of an OFF channel that START_AUDIO starts: through an open gate, or to wait. -/
def AmpChannel.begun (gate : Bool) (a : AmpChannel) : AmpChannel :=
  a.kept
    (if gate then
      { a with state := .starting, startPending := false, soft := some 20, trip := none, retry := none, restartMark := false }
    else { a with startPending := true, retry := none, restartMark := false })

/-- The record of a channel that START_AUDIO latches. -/
def AmpChannel.latched (kind : FaultKind) (a : AmpChannel) : AmpChannel := a.kept { a.addFault kind with state := .faultLatched }

/-- The record that START_AUDIO makes of a channel's record, by its load-test result. -/
def AmpChannel.atStart (gate : Bool) (a : AmpChannel) : AmpChannel :=
  if a.state = .off then
    match a.result with
    | .shortBat => a.latched .shortBat
    | .shortGnd => a.latched .shortGnd
    | .shortedLoad => a.latched .shortedLoad
    | .openLoad => (a.begun gate).addFault .openLoad
    | .untested | .ok => a.begun gate
  else a

theorem atStart_of_not_off {gate : Bool} {a : AmpChannel} (h : a.state ≠ .off) : a.atStart gate = a := if_neg h

theorem mem_faultInsert (k : FaultKind) (l : List FaultKind) : k ∈ faultInsert k l := by
  cases k <;> simp [faultInsert, FaultKind.all]

theorem begun_open (a : AmpChannel) :
    (a.begun true).state = .starting ∧ (a.begun true).soft = some 20 ∧ (a.begun true).startPending = false :=
  ⟨rfl, rfl, rfl⟩

theorem begun_waiting {a : AmpChannel} (h : a.state = .off) :
    (a.begun false).state = .off ∧ (a.begun false).startPending = true := ⟨h, rfl⟩

/-- What becomes of an OFF channel that no load test has found shorted. -/
theorem atStart_started {gate : Bool} {a : AmpChannel} (hoff : a.state = .off)
    (hresult : a.result ∈ [LoadResult.untested, .ok, .openLoad]) :
    (if gate = true then
      (a.atStart gate).state = .starting ∧ (a.atStart gate).soft = some 20 ∧ (a.atStart gate).startPending = false
    else (a.atStart gate).state = .off ∧ (a.atStart gate).startPending = true) ∧
      (a.result = .openLoad → FaultKind.openLoad ∈ (a.atStart gate).faults) := by
  have hstart : (a.result = .openLoad ∧ a.atStart gate = (a.begun gate).addFault .openLoad) ∨
      (a.result ≠ .openLoad ∧ a.atStart gate = a.begun gate) := by
    simp only [List.mem_cons, List.not_mem_nil, or_false] at hresult
    rcases hresult with hr | hr | hr <;> simp [AmpChannel.atStart, hoff, hr]
  rcases hstart with ⟨_, heq⟩ | ⟨hr, heq⟩
  · rw [heq]
    refine ⟨?_, fun _ => mem_faultInsert _ _⟩
    cases gate
    · exact begun_waiting hoff
    · exact begun_open a
  · rw [heq]
    refine ⟨?_, fun h => absurd h hr⟩
    cases gate
    · exact begun_waiting hoff
    · exact begun_open a

/-- What becomes of an OFF channel that a load test has found shorted. -/
theorem atStart_latched {gate : Bool} {a : AmpChannel} (hoff : a.state = .off)
    (hresult : a.result ∈ [LoadResult.shortBat, .shortGnd, .shortedLoad]) :
    (a.atStart gate).state = .faultLatched ∧
      (resultKind a.result).all (fun x => (a.atStart gate).faults.contains x) = true := by
  simp only [List.mem_cons, List.not_mem_nil, or_false] at hresult
  rcases hresult with hr | hr | hr <;>
    simp [AmpChannel.atStart, hoff, hr, resultKind, AmpChannel.latched, AmpChannel.kept, AmpChannel.addFault, mem_faultInsert]

/-! ### The amplifiers at START_AUDIO -/

/-- A channel's record replaced. -/
def State.putAmp (k : Amp) (a : AmpChannel) (s : State) : State := s.modOs (fun o => { o with amps := o.amps.set k a })

theorem putAmp_self (k : Amp) (s : State) : s.putAmp k s.os.amps[k] = s := by
  simp [State.putAmp, State.modOs]

theorem modAmp_putAmp (k : Amp) (f : AmpChannel → AmpChannel) (a : AmpChannel) (s : State) :
    modAmp k f (s.putAmp k a) = s.putAmp k (f a) := by
  simp [State.putAmp, modAmp, State.modOs]

theorem putAmp_amp (k j : Amp) (a : AmpChannel) (s : State) :
    (s.putAmp k a).os.amps[j] = if j = k then a else s.os.amps[j] := by
  simp only [State.putAmp, State.modOs_os, Fin.getElem_fin, Vector.getElem_set, Fin.ext_iff, eq_comm]

/-- A change of a channel that is live neither before nor after, or both, does not reach the canceller. -/
theorem changeAmp_of_live_eq {k : Amp} {f : AmpChannel → AmpChannel} {s : State}
    (h : (f s.os.amps[k]).state.live = s.os.amps[k].state.live) :
    changeAmp k f s = s.putAmp k (s.os.amps[k].kept (f s.os.amps[k])) :=
  if_neg (by
    simp only [passesForCanceller, AmpChannel.kept, h, bne_self_eq_false, Bool.false_and, Bool.false_eq_true,
      not_false_eq_true])

theorem startAmp_eq {k : Amp} {s : State} (hop : s.sc.opState ≠ .standby) (hoff : s.os.amps[k].state = .off) :
    startAmp k false s = s.putAmp k (s.os.amps[k].begun (gateOpen s k)) := by
  unfold startAmp AmpChannel.begun
  rw [if_neg hop]
  split
  · exact changeAmp_of_live_eq (congrArg AmpState.live hoff).symm
  · exact changeAmp_of_live_eq rfl

/-- One channel's record is replaced, and reports are posted. -/
def PutsAmp (k : Amp) (a : AmpChannel) (s t : State) : Prop := Within [] (s.putAmp k a) t

theorem startOnResult_puts {s : State} (k : Amp) (hop : s.sc.opState ≠ .standby) :
    PutsAmp k (s.os.amps[k].atStart (gateOpen s k)) s (startOnResult s k) := by
  have latched (kind : FaultKind) (hoff : s.os.amps[k].state = .off) :
      PutsAmp k (s.os.amps[k].latched kind) s
        (postChannelFault kind k (changeAmp k (fun a => { a.addFault kind with state := .faultLatched }) s)) := by
    rw [changeAmp_of_live_eq (congrArg AmpState.live hoff).symm]
    exact postChannelFault_within kind k _
  unfold startOnResult AmpChannel.atStart
  dsimp only
  split
  · rename_i hoff
    cases s.os.amps[k].result with
    | shortBat => exact latched _ hoff
    | shortGnd => exact latched _ hoff
    | shortedLoad => exact latched _ hoff
    | openLoad =>
      dsimp only
      rw [startAmp_eq hop hoff, modAmp_putAmp]
      exact postChannelFault_within .openLoad k _
    | untested => exact startAmp_eq hop hoff ▸ Within.refl
    | ok => exact startAmp_eq hop hoff ▸ Within.refl
  · unfold PutsAmp
    rw [putAmp_self]
    exact .refl

theorem PutsAmp.os_eq {k : Amp} {a : AmpChannel} {s t : State} (h : PutsAmp k a s t) :
    t.os = { s.os with amps := s.os.amps.set k a } := Within.os_eq h

theorem PutsAmp.within {k : Amp} {a : AmpChannel} {s t : State} (h : PutsAmp k a s t) : Within [.os] s t :=
  (modOs_within _ s).trans h

/-- The gates read nothing of the amplifiers' own records. -/
theorem gateOpen_congr {s t : State} {amps : Vector AmpChannel 10} (hinstall : t.install = s.install)
    (hos : t.os = { s.os with amps := amps }) (k : Amp) : gateOpen t k = gateOpen s k := by
  simp only [gateOpen, bankState, hinstall, hos]

/-- START_AUDIO going through amplifiers: each gets its record by `AmpChannel.atStart`, and no other block changes. -/
theorem startAmps_amps {l : List Amp} (hl : l.Nodup) {s : State} (hop : s.sc.opState ≠ .standby) :
    Within [.os] s (l.foldl startOnResult s) ∧
      ∃ amps : Vector AmpChannel 10, (l.foldl startOnResult s).os = { s.os with amps := amps } ∧
        ∀ j : Amp, amps[j] = if j ∈ l then s.os.amps[j].atStart (gateOpen s j) else s.os.amps[j] := by
  induction l generalizing s with
  | nil => exact ⟨.refl, s.os.amps, rfl, fun j => by simp⟩
  | cons k l ih =>
    obtain ⟨hk, hl⟩ := List.nodup_cons.1 hl
    have hput := startOnResult_puts k hop
    obtain ⟨hwithin, amps, hos, hamps⟩ := ih hl (s := startOnResult s k) (by rw [hput.within.sc_eq]; exact hop)
    refine ⟨(hput.within.trans hwithin).mono, amps, by rw [List.foldl_cons, hos, hput.os_eq], fun j => ?_⟩
    have hfirst : (startOnResult s k).os.amps[j] = if j = k then s.os.amps[k].atStart (gateOpen s k) else s.os.amps[j] := by
      rw [hput.os_eq]
      exact putAmp_amp k j _ s
    rw [hamps, gateOpen_congr hput.within.install_eq hput.os_eq, hfirst]
    by_cases hj : j = k
    · subst hj
      simp [hk]
    · simp [hj]

/-! ### The receivers and RX-B's holder at START_AUDIO (R17, R101, R123) -/

theorem changeReceiver_rx (x : Rx) (f : Receiver → Receiver) (s : State) :
    (changeReceiver x f s).rx = (modReceiver x f s).rx := by
  rw [changeReceiver_eq]

/-- RX-A after a retune: TUNING to the station, its record cleared. -/
theorem retune_rx (st : Station) (s : State) :
    (retune st s).rx =
      { s.rx with
        a := { state := .tuning, station := st, settle := some (settleMs st.band), qs := none, mute := .off
               record := DataRecord.empty }
        purpose := .retune, seek := none } := by
  unfold retune tuneA
  rw [(afterClear_within _ _).same .rx (by decide), State.modRx_rx, changeReceiver_rx]
  rfl

theorem endAnnouncement_of_none {cause : EndCause} {s : State} (h : s.tw.announcement = none) :
    endAnnouncement cause s = s := by
  simp [endAnnouncement, h]

/-- A retune without an announcement leaves the zones alone. -/
theorem retune_within_of_quiet {st : Station} {s : State} (h : s.tw.announcement = none) :
    Within [.rx, .af, .tw] s (retune st s) := by
  have cleared (v : State) (hv : v.tw.announcement = none) : Within [.af, .tw] v (afterClear .retune v) := by
    unfold afterClear
    dsimp only
    rw [endAnnouncement_of_none (by split <;> exact hv)]
    exact ((Within.ite (modAf_within _ v) .refl).trans (modTw_within _ _)).mono
  unfold retune tuneA
  refine (((changeReceiver_within .a _ s).trans (modRx_within _ _)).trans (cleared _ ?_)).mono
  rw [State.modRx_tw, changeReceiver_eq]
  exact h

/-- RX-B after an order: it settles at the station, its record cleared. -/
theorem orderB_rx (st : Station) (state : RxState) (s : State) :
    (orderB st state s).rx =
      { s.rx with b := { s.rx.b with
          state := state, station := st, settle := some (settleMs st.band), qs := none, record := DataRecord.empty } } :=
  changeReceiver_rx _ _ s

/-- The sweep granted RX-B: its position is visited. -/
theorem requestScan_granted {s : State} (h : s.slm.holder = .none) :
    (requestScan s).slm = { s.slm with holder := .scan, dwell := none, quickThreshold := s.slm.threshold } ∧
      (requestScan s).rx = (orderB s.slm.position .scanning s).rx := by
  unfold requestScan visitPosition
  rw [if_pos h, orderB_rx, orderB_rx, (orderB_within _ _ _).same .slm (by decide)]
  exact ⟨rfl, rfl⟩

theorem startHolder_rear {s : State} {st : Station} (h : s.slm.holder = .rear st) : startHolder s = orderB st .tuning s := by
  simp [startHolder, h]

theorem startHolder_free {s : State} (h : s.slm.holder = .none) :
    startHolder s = if s.slm.scanning then requestScan s else s := by
  simp [startHolder, h]

/-- START_AUDIO's holder step leaves RX-A and the tune's purpose alone. -/
theorem startHolder_rx (s : State) : (startHolder s).rx = { s.rx with b := (startHolder s).rx.b } := by
  have scanned : (requestScan s).rx = { s.rx with b := (requestScan s).rx.b } := by
    by_cases h : s.slm.holder = .none
    · rw [(requestScan_granted h).2, orderB_rx]
    · rw [requestScan, if_neg h]
  unfold startHolder
  split
  · rw [orderB_rx]
  · split
    · exact scanned
    · rfl

/-! ### START_AUDIO (R17) -/

/-- The part in RUN with its watchdog counting, where START_AUDIO hands to the blocks. -/
def State.running (s : State) : State :=
  setWatchdog (.counting s.safety.config.watchdogMs) (s.modSc (fun c => { c with opState := .run }))

theorem running_keepsBut (s : State) : keepsBut [.cp, .sc] s s.running :=
  (modSc_within (fun c => { c with opState := .run }) s).same.trans (modCp_keepsBut _ _).mono

theorem running_opState (s : State) : s.running.sc.opState ≠ .standby := by
  simp [State.running, setWatchdog]

/-- The outputs after START_AUDIO. -/
theorem startAudio_os (s : State) : ∃ amps : Vector AmpChannel 10,
    (startAudio s).os =
      { s.os with
        amps := amps
        douts := s.os.douts.map (fun d => if d = .off then .on else d)
        hps := { hpl := if s.os.hps.hpl = .off ∧ hpIsFitted s .hpl = true then .on else s.os.hps.hpl
                 hpr := if s.os.hps.hpr = .off ∧ hpIsFitted s .hpr = true then .on else s.os.hps.hpr } } ∧
      ∀ k : Amp, amps[k] = s.os.amps[k].atStart (gateOpen s k) := by
  obtain ⟨hwithin, amps, hos, hamps⟩ := startAmps_amps (l := Amp.all) (by decide) (running_opState s)
  have hstart : startAudio s = startHolder (retune s.rx.lastTuned (startOthers (Amp.all.foldl startOnResult s.running))) := rfl
  generalize Amp.all.foldl startOnResult s.running = w at hwithin hos hstart
  refine ⟨amps, ?_, fun k => (hamps k).trans (if_pos (mem_ampAll k))⟩
  have hinstall : w.install = s.install := hwithin.install_eq
  have hstarted : w.os = { s.os with amps := amps } := hos
  rw [hstart, ((retune_within _ _).trans (startHolder_within _)).os_eq]
  have hfitted (h : Hp) : hpIsFitted w h = hpIsFitted s h := congrArg (fun i => i.hpFitted.get h == some true) hinstall
  unfold startOthers
  rw [State.modOs_os, hstarted, hfitted, hfitted]

/-- START_AUDIO up to its holder step: RX-A retuned, nothing of the station list changed, and the zones only where an
announcement ends. -/
theorem startAudio_reaches (s : State) : ∃ v, startAudio s = startHolder v ∧ v.slm = s.slm ∧
    v.rx = (retune s.rx.lastTuned s).rx ∧ (s.tw.announcement = none → keepsBut [.cp, .sc, .rx, .af, .tw, .os] s v) ∧
    keepsBut [.cp, .sc, .zr, .rx, .af, .tw, .os] s v := by
  obtain ⟨w, hw, hstarted⟩ :
      ∃ w, startAudio s = startHolder (retune s.running.rx.lastTuned w) ∧ keepsBut [.cp, .sc, .os] s w := by
    refine ⟨startOthers (Amp.all.foldl startOnResult s.running), rfl, ?_⟩
    obtain ⟨hamps, -⟩ := startAmps_amps (l := Amp.all) (by decide) (running_opState s)
    exact (running_keepsBut s).mono.trans (hamps.trans (startOthers_within _)).same.mono
  have htw : w.tw = s.tw := hstarted .tw (by decide)
  have hrx : w.rx = s.rx := hstarted .rx (by decide)
  have hretuned := (retune_within s.rx.lastTuned w).same
  refine ⟨retune s.rx.lastTuned w, hw, ?_, ?_, fun hquiet => ?_, hstarted.mono.trans hretuned.mono⟩
  · exact Eq.trans (hretuned .slm (by decide)) (hstarted .slm (by decide))
  · rw [retune_rx, retune_rx, hrx]
  · exact hstarted.mono.trans (retune_within_of_quiet (htw ▸ hquiet)).same.mono

/-- Settles O11: each part of `startAudio` is stated once (`startAudio_os`, `startAudio_reaches` and the lemmas about the
holder step), and an amplifier's record is read off `AmpChannel.atStart`. -/
theorem startAudioStartsTheBlocks : Obligations.StartAudioStartsTheBlocks := by
  unfold Obligations.StartAudioStartsTheBlocks
  rintro s u hu hop
  have hready : Ready .startAudio s := congrArg (accepted .startAudio) (hu ▸ hop)
  have refuses {st : Status} (h : answerStartAudio u = refuse u st) :
      exec (.startAudio []) s = .next (u.refusing .startAudio st) := by
    subst hu
    exact exec_next_refusing rfl rfl hready h
  have accepts (h : answerStartAudio u = accept (startAudio u) []) :
      exec (.startAudio []) s = .next ((startAudio u).accepting .startAudio []) := by
    subst hu
    exact exec_next_accepting rfl rfl hready h
  refine ⟨fun hroles => refuses (by simp [answerStartAudio, hroles]),
    fun hroles hlock => refuses (by simp [answerStartAudio, hroles, hlock]),
    fun hroles hlock htest => refuses (by simp [answerStartAudio, hroles, hlock, htest]), fun hroles hlock htest => ?_⟩
  have hexec := accepts (by simp [answerStartAudio, hroles, hlock, htest])
  have hwithin := startAudio_within u
  obtain ⟨amps, hos, hamps⟩ := startAudio_os u
  obtain ⟨v, hv, hslm, hrx, hquiet, hkept⟩ := startAudio_reaches u
  have hrxv := startHolder_rx v
  have hholder := (startHolder_within v).same
  rw [hv] at hexec hwithin hos
  rw [retune_rx] at hrx
  refine ⟨_, hexec, hwithin.sc_eq, hwithin.posted.watchdog_eq, rfl, ?_⟩
  have hreply := accepting_keepsBut (startHolder v) .startAudio []
  generalize (startHolder v).accepting .startAudio [] = t at hreply ⊢
  have htos : t.os = (startHolder v).os := hreply .os (by decide)
  have htrx : t.rx = (startHolder v).rx := hreply .rx (by decide)
  have htslm : t.slm = (startHolder v).slm := hreply .slm (by decide)
  refine ⟨fun k => ?_, fun k => ?_, fun h => ?_, ?_, ?_, ?_, fun st hst => ?_, fun hnone hscan => ?_, fun hnone hscan => ?_,
    fun hnone => (hquiet hnone).mono.trans (hholder.mono.trans hreply.mono),
    hkept.mono.trans (hholder.mono.trans hreply.mono)⟩
  · have hamp : t.os.amps[k] = u.os.amps[k].atStart (gateOpen u k) := by
      rw [htos, hos]
      exact hamps k
    rw [hamp]
    exact ⟨atStart_of_not_off, atStart_started, atStart_latched⟩
  · simp [htos, hos]
  · rw [htos, hos]
    cases h <;> rfl
  · rw [htrx, hrxv, hrx]
  · rw [htrx, hrxv, hrx]
  · rw [htrx, hrxv, hrx]
  · have hrear : u.slm.holder = .rear st := by
      unfold rearStation at hst
      split at hst <;> cases hst
      assumption
    rw [htslm, htrx, startHolder_rear (hslm ▸ hrear), orderB_rx, (orderB_within _ _ _).same .slm (by decide), hslm, ← hrear]
    exact ⟨rfl, rfl, rfl, rfl⟩
  · rw [htslm, htrx, startHolder_free (hslm ▸ hnone), if_pos (hslm ▸ hscan)]
    obtain ⟨hgranted, hvisit⟩ := requestScan_granted (hslm ▸ hnone)
    rw [hgranted, hvisit, orderB_rx, hslm]
    exact ⟨rfl, rfl, rfl⟩
  · rw [htslm, htrx, startHolder_free (hslm ▸ hnone), if_neg (by simp [hslm, hscan]), hslm, hrx]
    exact ⟨rfl, rfl⟩

end Sys2Proof.Machine
end

section
/-! SUPPORT. STANDBY and WAKE: the lists, the outputs and the paths (R18, R19, R53, R54, R163). -/

-- One declaration at a time: together they would start more threads than the check's memory limit has stacks for.
set_option Elab.async false

namespace Sys2Proof.Machine

/-! ### Settling again (R54, R55)

What a path is heard at does not change when the Gain Engine settles a second time on the same lists and channels. -/

/-- The channel and the audible gain of a path. -/
def Path.heard (p : Path) : Chan × Gain := (p.chan, p.audible)

theorem sameNames_iff (p q : Path) :
    p.sameNames q = true ↔ p.zone = q.zone ∧ p.cls = q.cls ∧ p.src = q.src ∧ p.chan = q.chan := by
  simp only [Path.sameNames, Bool.and_eq_true, beq_iff_eq, and_assoc]

theorem sameNames_congr {p q r : Path} (h : p.sameNames q = true) : r.sameNames p = r.sameNames q := by
  obtain ⟨hzone, hcls, hsrc, hchan⟩ := (sameNames_iff p q).1 h
  simp only [Path.sameNames, hzone, hcls, hsrc, hchan]

theorem sameNames_trans {p q r : Path} (h : p.sameNames q = true) (h' : q.sameNames r = true) : p.sameNames r = true :=
  (sameNames_congr h').symm.trans h

theorem sameNames_symm {p q : Path} (h : p.sameNames q = true) : q.sameNames p = true :=
  (sameNames_congr h).trans ((sameNames_iff q q).2 ⟨rfl, rfl, rfl, rfl⟩)

/-- A called path begins at MUTE and does not retire. -/
theorem calledPaths_fresh {s : State} {p : Path} (h : p ∈ calledPaths s) : p.audible = .mute ∧ p.retiring = false := by
  simp only [calledPaths, List.mem_flatMap, List.mem_map] at h
  obtain ⟨_, _, _, _, _, _, rfl⟩ := h
  exact ⟨rfl, rfl⟩

/-- What keeping an audible gain leaves of a path. -/
theorem keepAudible_names (old : List Path) (p : Path) :
    (keepAudible old p).sameNames p = true ∧ (keepAudible old p).retiring = p.retiring ∧
      (keepAudible old p).chan = p.chan := by
  unfold keepAudible
  split <;> simp [sameNames_iff]

theorem retargeted_names (s : State) (p : Path) :
    (retargeted s p).sameNames p = true ∧ (retargeted s p).retiring = p.retiring ∧ (retargeted s p).heard = p.heard := by
  unfold retargeted
  split <;> simp [sameNames_iff, Path.heard]

/-- Paths of the same names that start alike take up the same gain. -/
theorem keepAudible_congr {old : List Path} {p q : Path} (hnames : p.sameNames q = true) (haudible : p.audible = q.audible) :
    (keepAudible old p).audible = (keepAudible old q).audible := by
  have hpred : (fun r : Path => !r.retiring && r.sameNames p) = (fun r => !r.retiring && r.sameNames q) :=
    funext fun r => by rw [sameNames_congr hnames]
  unfold keepAudible
  rw [hpred]
  split
  · rfl
  · exact haudible

/-- The standing path that settling makes of a called one. -/
def settledPath (s : State) (p : Path) : Path := retargeted s (keepAudible s.ge.paths p)

theorem settledPath_names {s : State} {p : Path} (hp : p ∈ calledPaths s) :
    (settledPath s p).sameNames p = true ∧ (settledPath s p).retiring = false ∧
      (settledPath s p).audible = (keepAudible s.ge.paths p).audible := by
  obtain ⟨hnames, hretiring, hheard⟩ := retargeted_names s (keepAudible s.ge.paths p)
  obtain ⟨hnames', hretiring', -⟩ := keepAudible_names s.ge.paths p
  exact ⟨sameNames_trans hnames hnames', hretiring.trans (hretiring'.trans (calledPaths_fresh hp).2),
    congrArg Prod.snd hheard⟩

/-- After settling the paths are the called ones and those that retire. -/
theorem settle_paths (s : State) :
    (settle s).ge.paths =
      (calledPaths s).map (settledPath s) ++ (retiringPaths s.ge.paths (calledPaths s)).map (retargeted s) := by
  change (formedPaths s).map (retargeted s) = _
  rw [formedPaths, List.map_append, List.map_map]
  rfl

/-- A retiring path is heard, and is the same after settling but for its target. -/
theorem retiringPaths_mem {old called : List Path} {p : Path} (h : p ∈ retiringPaths old called) :
    p.retiring = true ∧ p.audible ≠ .mute := by
  obtain ⟨q, hq, rfl⟩ := List.mem_map.1 h
  obtain ⟨_, hsound⟩ := Bool.and_eq_true_iff.1 (List.mem_filter.1 hq).2
  exact ⟨rfl, by simpa using hsound⟩

/-- A called path's gain after settling is what it takes up again. -/
theorem keepAudible_settled {s : State} {p : Path} (hp : p ∈ calledPaths s) :
    (keepAudible (settle s).ge.paths p).audible = (keepAudible s.ge.paths p).audible := by
  obtain ⟨hnames, hretiring, _⟩ := settledPath_names hp
  have hstands : settledPath s p ∈ (settle s).ge.paths := by
    rw [settle_paths]
    exact List.mem_append_left _ (List.mem_map_of_mem hp)
  cases hfind : (settle s).ge.paths.find? (fun q => !q.retiring && q.sameNames p) with
  | none => exact absurd (List.find?_eq_none.1 hfind _ hstands) (by simp [hretiring, hnames])
  | some q =>
    have hkeep : (keepAudible (settle s).ge.paths p).audible = q.audible := by simp only [keepAudible, hfind]
    have hfound : (!q.retiring && q.sameNames p) = true :=
      List.find?_some (p := fun q : Path => !q.retiring && q.sameNames p) hfind
    obtain ⟨hstays, hq⟩ := Bool.and_eq_true_iff.1 hfound
    have hmem := List.mem_of_find?_eq_some hfind
    rw [settle_paths] at hmem
    rcases List.mem_append.1 hmem with hmem | hmem
    · obtain ⟨r, hr, rfl⟩ := List.mem_map.1 hmem
      obtain ⟨hsame, _, hgain⟩ := settledPath_names hr
      have hrp : r.sameNames p = true := sameNames_trans (sameNames_symm hsame) hq
      have hstart : r.audible = p.audible := (calledPaths_fresh hr).1.trans (calledPaths_fresh hp).1.symm
      exact hkeep.trans (hgain.trans (keepAudible_congr hrp hstart))
    · obtain ⟨r, hr, rfl⟩ := List.mem_map.1 hmem
      rw [(retargeted_names s r).2.1, (retiringPaths_mem hr).1] at hstays
      exact absurd hstays (by decide)

/-- Paths that retire after settling are those that retired before it, and are heard the same. -/
theorem retiringPaths_settled (s : State) :
    (retiringPaths (settle s).ge.paths (calledPaths s)).map Path.heard =
      (retiringPaths s.ge.paths (calledPaths s)).map Path.heard := by
  have hcalled : ((calledPaths s).map (settledPath s)).filter
      (fun q => (q.retiring || becomesRetiring (calledPaths s) q) && q.audible != .mute) = [] := by
    refine List.filter_eq_nil_iff.2 fun q hq => ?_
    obtain ⟨p, hp, rfl⟩ := List.mem_map.1 hq
    obtain ⟨hnames, hretiring, _⟩ := settledPath_names hp
    have hany : (calledPaths s).any (fun r => r.sameNames (settledPath s p)) = true :=
      List.any_eq_true.2 ⟨p, hp, sameNames_symm hnames⟩
    simp [becomesRetiring, hretiring, hany]
  have hretiring : ((retiringPaths s.ge.paths (calledPaths s)).map (retargeted s)).filter
      (fun q => (q.retiring || becomesRetiring (calledPaths s) q) && q.audible != .mute) =
        (retiringPaths s.ge.paths (calledPaths s)).map (retargeted s) := by
    refine List.filter_eq_self.2 fun q hq => ?_
    obtain ⟨p, hp, rfl⟩ := List.mem_map.1 hq
    obtain ⟨hr, haudible⟩ := retiringPaths_mem hp
    obtain ⟨_, hretiring, hheard⟩ := retargeted_names s p
    have hgain : (retargeted s p).audible = p.audible := congrArg Prod.snd hheard
    simpa [hretiring, hr, hgain] using haudible
  conv => lhs; rw [retiringPaths, settle_paths, List.filter_append, hcalled, hretiring, List.nil_append]
  simp only [List.map_map]
  refine List.map_congr_left fun p _ => ?_
  exact (retargeted_names s p).2.2

theorem settle_settled {s t : State} (hpaths : t.ge.paths = (settle s).ge.paths) (hcalled : calledPaths t = calledPaths s) :
    (settle t).ge.paths.map Path.heard = (settle s).ge.paths.map Path.heard := by
  have heard (v : State) : (settle v).ge.paths.map Path.heard = (formedPaths v).map Path.heard := by
    refine (List.map_map ..).trans (List.map_congr_left fun p _ => ?_)
    exact (retargeted_names v p).2.2
  rw [heard, heard]
  simp only [formedPaths, List.map_append, List.map_map, hcalled, hpaths, retiringPaths_settled]
  congr 1
  refine List.map_congr_left fun p hp => Prod.ext ?_ (keepAudible_settled hp)
  exact (keepAudible_names _ p).2.2.trans (keepAudible_names _ p).2.2.symm

end Sys2Proof.Machine
end

section
/-! SUPPORT. STANDBY and WAKE: what each hands to the blocks (R18, R19, R53, R98, R114, R123, R163). -/

-- One declaration at a time: together they would start more threads than the check's memory limit has stacks for.
set_option Elab.async false

namespace Sys2Proof.Machine

/-! ### The lists reduced (R53) -/

/-- The Zone Router without its lists. -/
def ZoneRouter.unlisted (r : ZoneRouter) : ZoneRouter :=
  { r with
    zones := ⟨{ r.zones.front with list := [] }, { r.zones.rear with list := [] }, { r.zones.load with list := [] }⟩
    hps := ⟨{ r.hps.hpl with list := [] }, { r.hps.hpr with list := [] }⟩ }

theorem setList_unlisted (z : Zone) (l : List Entry) (s : State) : (setList z l s).zr.unlisted = s.zr.unlisted := by
  rcases z with c | h
  · cases c <;> rfl
  · cases h <;> rfl

theorem changeList_unlisted (z : Zone) (l : List Entry) (s : State) : (changeList z l s).zr.unlisted = s.zr.unlisted := by
  unfold changeList
  split
  · rfl
  · exact (congrArg ZoneRouter.unlisted (postZone_within z _).zr_eq).trans (setList_unlisted z l s)

theorem reduceLists_unlisted (s : State) : (reduceLists s).zr.unlisted = s.zr.unlisted :=
  foldl_keeps (P := fun t => t.zr.unlisted = s.zr.unlisted) (fun t z ht => (changeList_unlisted z _ t).trans ht) Zone.all rfl

theorem listOf_reduceLists (s : State) (z : Zone) : listOf (reduceLists s) z = (listOf s z).filter (fun e => e.cls == .base) := by
  simp only [reduceLists, Zone.all, List.foldl_cons, List.foldl_nil, listOf_changeList]
  rcases z with c | h
  · cases c <;> rfl
  · cases h <;> rfl

section
variable {r q : ZoneRouter} (h : r.unlisted = q.unlisted)
include h

theorem ZoneRouter.fields_of_unlisted :
    r.cabin = q.cabin ∧ r.ducks = q.ducks ∧ r.trims = q.trims ∧ r.clockLost = q.clockLost ∧ r.lostMs = q.lostMs := by
  have hcabin := congrArg ZoneRouter.cabin h
  have hducks := congrArg ZoneRouter.ducks h
  have htrims := congrArg ZoneRouter.trims h
  have hlost := congrArg ZoneRouter.clockLost h
  have hms := congrArg ZoneRouter.lostMs h
  exact ⟨hcabin, hducks, htrims, hlost, hms⟩

theorem ZoneRouter.zones_of_unlisted (c : Cabin) : { r.zones.get c with list := [] } = { q.zones.get c with list := [] } := by
  cases c
  · exact congrArg (fun v : ZoneRouter => v.zones.front) h
  · exact congrArg (fun v : ZoneRouter => v.zones.rear) h
  · exact congrArg (fun v : ZoneRouter => v.zones.load) h

theorem ZoneRouter.hps_of_unlisted (g : Hp) : r.hps.get g = { q.hps.get g with list := (r.hps.get g).list } := by
  have hrest : { r.hps.get g with list := [] } = { q.hps.get g with list := [] } := by
    cases g
    · exact congrArg (fun v : ZoneRouter => v.hps.hpl) h
    · exact congrArg (fun v : ZoneRouter => v.hps.hpr) h
  exact congrArg (fun v : HpZone => { v with list := (r.hps.get g).list }) hrest

end

/-- A zone's flags and base source stand apart from its list. -/
theorem zoneState_of_unlisted {s t : State} (h : t.zr.unlisted = s.zr.unlisted) (z : Zone) :
    muteOf t z = muteOf s z ∧ quietOf t z = quietOf s z ∧ baseOf t z = baseOf s z := by
  rcases z with c | g
  · have hzone := ZoneRouter.zones_of_unlisted h c
    have hmute := congrArg CabinZone.mute hzone
    have hquiet := congrArg CabinZone.quiet hzone
    exact ⟨hmute, hquiet, congrArg CabinSettings.base (ZoneRouter.fields_of_unlisted h).1⟩
  · have hzone := ZoneRouter.hps_of_unlisted h g
    have hmute := congrArg HpZone.mute hzone
    have hquiet := congrArg HpZone.quiet hzone
    have hbase := congrArg HpZone.base hzone
    exact ⟨hmute, hquiet, hbase⟩

/-! ### The channels that enter OFF (R163) -/

/-- The record of a running amplifier that enters OFF. -/
def AmpChannel.wentOff (a : AmpChannel) : AmpChannel := a.kept { a with state := .off, trip := none, soft := none }

theorem ampsOff_amps (off : Amp → Bool) {l : List Amp} (hl : l.Nodup) (s : State) :
    (ampsOff off l s).ge = s.ge ∧
      ∃ amps : Vector AmpChannel 10, (ampsOff off l s).os = { s.os with amps := amps } ∧
        ∀ j : Amp, amps[j] = if off j = true ∧ j ∈ l then s.os.amps[j].wentOff else s.os.amps[j] := by
  induction l generalizing s with
  | nil => exact ⟨rfl, s.os.amps, rfl, fun j => by simp⟩
  | cons k l ih =>
    obtain ⟨hk, hl⟩ := List.nodup_cons.1 hl
    by_cases hoff : off k = true
    · have hstep : ampsOff off (k :: l) s = ampsOff off l (ampOff k s) := by simp [ampsOff, hoff]
      have hone : ampOff k s = { s with
          cp := (ampOff k s).cp, clp := (ampOff k s).clp
          os := { s.os with amps := s.os.amps.set k s.os.amps[k].wentOff } } := changeAmp_eq k _ s
      obtain ⟨hge, amps, hos, hamps⟩ := ih hl (ampOff k s)
      rw [hstep]
      refine ⟨hge.trans (by rw [hone]), amps, hos.trans (by rw [hone]), fun j => ?_⟩
      have hfirst : (ampOff k s).os.amps[j] = if j = k then s.os.amps[k].wentOff else s.os.amps[j] := changeAmp_amp k j _ s
      rw [hamps, hfirst]
      by_cases hj : j = k
      · subst hj
        simp [hk, hoff]
      · simp [hj]
    · have hstep : ampsOff off (k :: l) s = ampsOff off l s := by simp [ampsOff, hoff]
      obtain ⟨hge, amps, hos, hamps⟩ := ih hl s
      rw [hstep]
      refine ⟨hge, amps, hos, fun j => ?_⟩
      rw [hamps]
      by_cases hj : j = k
      · subst hj
        simp [hoff]
      · simp [hj]

/-- A canceller in BYPASS is told of no channel. -/
theorem changeAmp_of_bypass {k : Amp} {f : AmpChannel → AmpChannel} {s : State} (h : s.clp.canceller = .bypass) :
    changeAmp k f s = s.putAmp k (s.os.amps[k].kept (f s.os.amps[k])) := by
  unfold changeAmp
  dsimp only
  split
  · exact if_neg (by simp [cancellerRunning, h])
  · rfl

theorem modOs_keepsBut (g : OutputStage → OutputStage) (s : State) : keepsBut [.os] s (s.modOs g) := fun b hb => by
  cases b <;> simp [Block.same] at hb ⊢

theorem standbyOff_of_bypass (all : Bool) {s : State} (h : s.clp.canceller = .bypass) : keepsBut [.os] s (standbyOff all s) := by
  have hoff (off : Amp → Bool) : keepsBut [.os] s (ampsOff off Amp.all s) := by
    refine foldl_keeps (P := keepsBut [.os] s) (fun t k ht => ?_) Amp.all .refl
    split
    · have hclp : t.clp = s.clp := ht .clp (by decide)
      unfold ampOff
      rw [changeAmp_of_bypass (hclp ▸ h)]
      exact ht.trans (modOs_keepsBut _ t)
    · exact ht
  exact (hoff _).trans (modOs_keepsBut _ _)

/-- The outputs after channels have entered OFF: the running ones, all of them or those whose paths are at MUTE. -/
theorem standbyOff_outputs (all : Bool) (s : State) :
    (standbyOff all s).ge = s.ge ∧
      ∃ (amps : Vector AmpChannel 10) (douts : Vector DoutState 6) (hps : PerHp HpDriver),
        (standbyOff all s).os = { s.os with amps := amps, douts := douts, hps := hps } ∧
        (∀ k : Amp, amps[k] =
          if s.os.amps[k].state.running = true ∧ (all || allMuted s (.amp k)) = true then s.os.amps[k].wentOff
          else s.os.amps[k]) ∧
        (∀ k : Dout, douts[k] =
          if s.os.douts[k] = .on ∧ (all || allMuted s (.dout k)) = true then .off else s.os.douts[k]) ∧
        ∀ h : Hp, hps.get h =
          if s.os.hps.get h = .on ∧ (all || allMuted s (.hp h)) = true then .off else s.os.hps.get h := by
  obtain ⟨hge, amps, hos, hamps⟩ :=
    ampsOff_amps (fun k => s.os.amps[k].state.running && (all || allMuted s (.amp k))) (l := Amp.all) (by decide) s
  unfold standbyOff
  unfold ampsOff at hge hos
  rw [State.modOs_os, hos]
  refine ⟨hge, amps, _, _, rfl, fun k => ?_, fun k => ?_, fun h => ?_⟩
  · rw [hamps]
    simp only [mem_ampAll, and_true, Bool.and_eq_true]
  · simp
  · cases h <;> rfl

/-! ### What STANDBY hands to the blocks (R18) -/

/-- The part in STANDBY with its watchdog stopped, its window shut and load mode ended. -/
def State.closed (s : State) : State :=
  setWatchdog .stopped
    ((endLoad (s.modSc (fun c => { c with opState := .standby }))).modSafety (fun f => { f with windowOpen := false }))

/-- The amplifiers at rest or running on, and both receivers IDLE. -/
def State.quieted (s : State) : State :=
  (s.closed.modOs (fun o => { o with amps := o.amps.map AmpChannel.standby })).modRx
    (fun r => { r with a := r.a.standby, b := r.b.standby, seek := none, purpose := .retune })

/-- Following idle, RX-B's holder released and the announcement gone. -/
def State.unwatched (s : State) : State :=
  (standbyHolder (followIdle s.quieted)).modTw (fun w => { w with announcement := none, bridge := none, codeHeld := none })

/-- The voices, the queue and the lists reduced: all that STANDBY does before channels enter OFF. -/
def State.silenced (s : State) : State := reduceLists (silenceChimes s.unwatched)

theorem enterStandby_eq (s : State) : enterStandby s = standbyOff false (settle s.silenced) := rfl

theorem standbyHolder_slm (s : State) :
    (standbyHolder s).slm =
      { s.slm with dwell := none, holder := match s.slm.holder with | .rear st => .rear st | _ => .none } := by
  unfold standbyHolder
  cases h : s.slm.holder <;> rfl

theorem unwatched_within (s : State) : Within [.slm, .af, .tw] s.quieted s.unwatched :=
  (((followIdle_within _).trans (standbyHolder_within _)).trans (modTw_within _ _)).mono

theorem silenced_within (s : State) : Within [.zr, .chimes] s.unwatched s.silenced :=
  ((silenceChimes_within _).trans (reduceLists_within _)).mono

theorem silenced_from_quieted (s : State) : Within [.slm, .af, .tw, .zr, .chimes] s.quieted s.silenced :=
  (unwatched_within s).trans (silenced_within s)

theorem silenced_os (s : State) : s.silenced.os = { s.os with amps := s.os.amps.map AmpChannel.standby } :=
  (silenced_from_quieted s).os_eq

theorem silenced_sc (s : State) : s.silenced.sc = { s.sc with opState := .standby } := (silenced_from_quieted s).sc_eq

theorem silenced_safety (s : State) : s.silenced.safety = { s.safety with windowOpen := false } :=
  (silenced_from_quieted s).safety_eq

theorem silenced_patterns (s : State) : s.silenced.patterns = { s.patterns with load := none } :=
  (silenced_from_quieted s).patterns_eq

theorem silenced_rx (s : State) :
    s.silenced.rx = { s.rx with a := s.rx.a.standby, b := s.rx.b.standby, seek := none, purpose := .retune } :=
  (silenced_from_quieted s).same .rx (by decide)

theorem silenced_clp (s : State) : s.silenced.clp = s.clp := (silenced_from_quieted s).same .clp (by decide)

theorem silenced_slm (s : State) :
    s.silenced.slm =
      { s.slm with dwell := none, holder := match s.slm.holder with | .rear st => .rear st | _ => .none } :=
  Eq.trans ((silenced_within s).same .slm (by decide)) (standbyHolder_slm (followIdle s.quieted))

theorem silenced_af (s : State) : s.silenced.af = { Following.reset with follow := s.af.follow } :=
  Eq.trans ((silenced_within s).same .af (by decide)) ((standbyHolder_within (followIdle s.quieted)).same .af (by decide))

theorem silenced_tw (s : State) :
    s.silenced.tw = { s.tw with announcement := none, bridge := none, codeHeld := none } := by
  have hholder : (standbyHolder (followIdle s.quieted)).tw = s.tw :=
    (standbyHolder_within (followIdle s.quieted)).same .tw (by decide)
  refine Eq.trans ((silenced_within s).same .tw (by decide)) ?_
  rw [State.unwatched, State.modTw_tw, hholder]

/-- With no voice there is no gain that a command sets afresh. -/
theorem chimes_eq_of_silent {s t : State} (h : Block.same .chimes s t) (h1 : s.chimes.v1 = none) (h2 : s.chimes.v2 = none) :
    t.chimes = s.chimes := by
  obtain ⟨hqueue, hv1, hv2, harrival, hstart⟩ := h
  rw [h1, Option.map_none, Option.map_eq_none_iff] at hv1
  rw [h2, Option.map_none, Option.map_eq_none_iff] at hv2
  cases ht : t.chimes
  cases hs : s.chimes
  simp_all

theorem silenced_chimes (s : State) : s.silenced.chimes = { s.chimes with queue := [], v1 := none, v2 := none } := by
  obtain ⟨_, _, _, harrival, hstart⟩ : Block.same .chimes s s.unwatched := (unwatched_within s).same .chimes (by decide)
  have hlists : s.silenced.chimes = { s.unwatched.chimes with queue := [], v1 := none, v2 := none } :=
    chimes_eq_of_silent ((reduceLists_within (silenceChimes s.unwatched)).same .chimes (by decide)) rfl rfl
  rw [hlists]
  simp only [harrival, hstart]

theorem silenced_zr (s : State) :
    s.silenced.zr.unlisted = s.zr.unlisted ∧
      ∀ z, listOf s.silenced z = (listOf s z).filter (fun e => e.cls == .base) := by
  have hzr : (silenceChimes s.unwatched).zr = s.zr := (unwatched_within s).zr_eq
  refine ⟨(reduceLists_unlisted _).trans (congrArg _ hzr), fun z => ?_⟩
  rw [State.silenced, listOf_reduceLists]
  cases z <;> simp only [listOf, hzr]

/-! ### What is heard of a channel (R163) -/

theorem allMuted_iff (s : State) (c : Chan) :
    allMuted s c = true ↔ ¬ ∃ p ∈ s.ge.paths, p.chan = c ∧ p.audible ≠ .mute := by
  simp only [allMuted, List.all_eq_true, Bool.or_eq_true, bne_iff_ne, ne_eq, beq_iff_eq]
  constructor
  · rintro h ⟨p, hp, hc, ha⟩
    exact (h p hp).elim (fun hne => hne hc) ha
  · intro h p hp
    by_cases hc : p.chan = c
    · exact .inr (by_contra fun ha => h ⟨p, hp, hc, ha⟩)
    · exact .inl hc

theorem heard_iff (l : List Path) (c : Chan) :
    (∃ p ∈ l, p.chan = c ∧ p.audible ≠ .mute) ↔ ∃ x ∈ l.map Path.heard, x.1 = c ∧ x.2 ≠ .mute := by
  simp only [List.mem_map, Path.heard]
  constructor
  · rintro ⟨p, hp, h⟩
    exact ⟨_, ⟨p, hp, rfl⟩, h⟩
  · rintro ⟨_, ⟨p, hp, rfl⟩, h⟩
    exact ⟨p, hp, h⟩

theorem calledPaths_congr {s t : State} (hzr : t.zr = s.zr) (hinstall : t.install = s.install) :
    calledPaths t = calledPaths s := by
  have hlist : listOf t = listOf s := funext fun z => by cases z <;> simp only [listOf, hzr]
  simp only [calledPaths, hlist, hinstall]

/-- After STANDBY the channels that are heard are those that were when channels entered OFF. -/
theorem heard_after_standby (s : State) (k : Kind) (body : Bytes) (c : Chan) :
    (∃ p ∈ ((standbyOff false (settle s)).accepting k body).ge.paths, p.chan = c ∧ p.audible ≠ .mute) ↔
      allMuted (settle s) c = false := by
  have hpaths : ((standbyOff false (settle s)).replying k .ok body).ge.paths = (settle s).ge.paths :=
    congrArg GainEngine.paths (standbyOff_outputs false (settle s)).1
  have hoff := standbyOff_within false (settle s)
  have hcalled : calledPaths ((standbyOff false (settle s)).replying k .ok body) = calledPaths s :=
    calledPaths_congr hoff.zr_eq hoff.install_eq
  rw [Bool.eq_false_iff, ne_eq, allMuted_iff, not_not, heard_iff, heard_iff (settle s).ge.paths,
    ← settle_settled hpaths hcalled, State.accepting]

/-! ### STANDBY and WAKE (R18, R19) -/

theorem wentOff_state (a : AmpChannel) : a.wentOff.state = .off := rfl

/-- An amplifier after STANDBY: it keeps running while one of its paths is heard. -/
theorem amp_after_standby (a : AmpChannel) (muted : Bool) :
    (if a.standby.state.running = true ∧ muted = true then a.standby.wentOff else a.standby).state =
        (if a.state = .unused ∨ a.state = .bridged then a.state
        else if a.state.running = true ∧ muted = false then a.state else .off) ∧
      (if a.standby.state.running = true ∧ muted = true then a.standby.wentOff else a.standby).result = a.result ∧
      (if a.standby.state.running = true ∧ muted = true then a.standby.wentOff else a.standby).faults = a.faults := by
  by_cases hout : a.state = .unused ∨ a.state = .bridged
  · have hself : a.standby = a := if_pos hout
    have hidle : a.state.running ≠ true := by rcases hout with h | h <;> rw [h] <;> decide
    rw [hself, if_neg fun h => hidle h.1, if_pos hout]
    exact ⟨rfl, rfl, rfl⟩
  · have hstandby : a.standby = { a with
        state := if a.state.running then a.state else .off
        startPending := false, soft := none, retry := none, restartMark := false, openTimer := none } := if_neg hout
    rw [hstandby, if_neg hout]
    have hoff : AmpState.off.running = false := rfl
    cases hr : a.state.running <;> cases muted <;> simp [hr, hoff, AmpChannel.wentOff, AmpChannel.kept]

/-- The outputs as channels enter OFF at the entry to STANDBY, by what is heard of each. -/
theorem standbyOff_entering {s v : State} (hv : v.os = { s.os with amps := s.os.amps.map AmpChannel.standby }) :
    (∀ k : Amp, (standbyOff false v).os.amps[k].state =
        (if s.os.amps[k].state = .unused ∨ s.os.amps[k].state = .bridged then s.os.amps[k].state
        else if s.os.amps[k].state.running = true ∧ allMuted v (.amp k) = false then s.os.amps[k].state else .off) ∧
      (standbyOff false v).os.amps[k].result = s.os.amps[k].result ∧
      (standbyOff false v).os.amps[k].faults = s.os.amps[k].faults) ∧
    (∀ k : Dout, s.os.douts[k] = .on →
      (standbyOff false v).os.douts[k] = if allMuted v (.dout k) = false then .on else .off) ∧
    (∀ h : Hp, s.os.hps.get h = .on →
      (standbyOff false v).os.hps.get h = if allMuted v (.hp h) = false then .on else .off) ∧
    (standbyOff false v).os.protection = s.os.protection ∧ (standbyOff false v).os.excluded = s.os.excluded := by
  obtain ⟨-, amps, douts, hps, hos, hamps, hdouts, hhps⟩ := standbyOff_outputs false v
  simp only [Bool.false_or] at hamps hdouts hhps
  rw [hos]
  refine ⟨fun k => ?_, fun k hon => ?_, fun h hon => ?_, by rw [hv], by rw [hv]⟩
  · have hamp : v.os.amps[k] = s.os.amps[k].standby := by simp [hv]
    rw [hamps, hamp]
    exact amp_after_standby _ _
  · have hd : v.os.douts[k] = .on := by rw [hv]; exact hon
    rw [hdouts, hd]
    cases allMuted v (.dout k) <;> rfl
  · have hh : v.os.hps.get h = .on := by rw [hv]; exact hon
    rw [hhps, hh]
    cases allMuted v (.hp h) <;> rfl

end Sys2Proof.Machine
end

section
/-! SUPPORT. STANDBY and WAKE as requests (R18, R19). -/

-- One declaration at a time: together they would start more threads than the check's memory limit has stacks for.
set_option Elab.async false

namespace Sys2Proof.Machine

theorem accepted_standby {o : OpState} (h : o = .config ∨ o = .run) : accepted .standby o = true := by
  rcases h with rfl | rfl <;> rfl

/-- The part in STANDBY with its reply pending: what is heard, and which blocks the channels' entry to OFF leaves alone. -/
theorem standbyOff_replied {r : State} (hr : r.sc.opState = .standby) (k : Kind) (body : Bytes) :
    keepsBut [.cp, .os, .clp] r ((standbyOff false (settle r)).accepting k body) ∧
      ∀ p ∈ ((standbyOff false (settle r)).accepting k body).ge.paths, p.target = .mute := by
  have hoff := standbyOff_within false (settle r)
  refine ⟨((settle_within r).same.mono.trans hoff.same.mono).trans (accepting_keepsBut _ k body).mono, ?_⟩
  have hop : (standbyOff false (settle r)).sc.opState = .standby := by rw [hoff.sc_eq, settle_sc, hr]
  exact settle_targets_mute (s := (standbyOff false (settle r)).replying k .ok body) (by
    show (standbyOff false (settle r)).sc.opState ∈ _
    rw [hop]
    decide)

theorem standbyOff_settled_clp (all : Bool) {r : State} (h : r.clp.canceller = .bypass) :
    (standbyOff all (settle r)).clp = r.clp :=
  standbyOff_of_bypass all (s := settle r) h .clp (by decide)

/-- What STANDBY has done to the blocks of a part when its channels enter OFF. -/
structure SilencedFrom (u r : State) : Prop where
  sc : r.sc = { u.sc with opState := .standby }
  safety : r.safety = { u.safety with windowOpen := false }
  patterns : r.patterns = { u.patterns with load := none }
  unlisted : r.zr.unlisted = u.zr.unlisted
  lists : ∀ z, listOf r z = (listOf u z).filter (fun e => e.cls == .base)
  chimes : r.chimes = { u.chimes with queue := [], v1 := none, v2 := none }
  rx : r.rx = { u.rx with a := u.rx.a.standby, b := u.rx.b.standby, seek := none, purpose := .retune }
  slm : r.slm = { u.slm with dwell := none, holder := match u.slm.holder with | .rear st => .rear st | _ => .none }
  af : r.af = { Following.reset with follow := u.af.follow }
  tw : r.tw = { u.tw with announcement := none, bridge := none, codeHeld := none }
  clp : r.clp = u.clp
  os : r.os = { u.os with amps := u.os.amps.map AmpChannel.standby }

theorem silencedFrom_silenced (u : State) : SilencedFrom u u.silenced where
  sc := silenced_sc u
  safety := silenced_safety u
  patterns := silenced_patterns u
  unlisted := (silenced_zr u).1
  lists := (silenced_zr u).2
  chimes := silenced_chimes u
  rx := silenced_rx u
  slm := silenced_slm u
  af := silenced_af u
  tw := silenced_tw u
  clp := silenced_clp u
  os := silenced_os u

theorem enterStandby_reaches (u : State) : ∃ r, SilencedFrom u r ∧ enterStandby u = standbyOff false (settle r) :=
  ⟨u.silenced, silencedFrom_silenced u, enterStandby_eq u⟩

/-- Settles O12: STANDBY's blocks are those of `State.silenced`, its channels enter OFF by what is heard of them
(`standbyOff_entering`), which settling again does not change (`heard_after_standby`); WAKE takes every running channel OFF. -/
theorem standbyAndWake : Obligations.StandbyAndWake := by
  unfold Obligations.StandbyAndWake
  constructor
  · rintro s u hu hop
    have hready : Ready .standby s := accepted_standby (hu ▸ hop)
    have refuses {st : Status} (h : answerStandby u = refuse u st) :
        exec (.standby []) s = .next (u.refusing .standby st) := by
      subst hu
      exact exec_next_refusing rfl rfl hready h
    have accepts {v : State} (h : answerStandby u = accept v []) : exec (.standby []) s = .next (v.accepting .standby []) := by
      subst hu
      exact exec_next_accepting rfl rfl hready h
    refine ⟨fun hcall => refuses (if_pos hcall), fun hcall htest => refuses (by simp [answerStandby, hcall, htest]),
      fun hcall htest => ?_⟩
    have hact : answerStandby u = accept (enterStandby u) [] := by simp [answerStandby, hcall, htest]
    have hall := answerStandby_keepsBut u
    have hposted := (enterStandby_within u).posted
    obtain ⟨r, hr, he⟩ := enterStandby_reaches u
    rw [hact, accept_state] at hall
    have hexec := accepts hact
    generalize enterStandby u = e at hexec hall hposted he
    obtain ⟨hkept, htargets⟩ := standbyOff_replied (r := r) (by rw [hr.sc]) .standby []
    obtain ⟨hamps, hdouts, hhps, hprotection, hexcluded⟩ :=
      standbyOff_entering (s := u) (v := settle r) (by rw [settle_os, hr.os])
    have hheard := heard_after_standby r .standby []
    have hbypass := standbyOff_settled_clp false (r := r)
    rw [← he] at hkept htargets hamps hdouts hhps hprotection hexcluded hheard hbypass
    have hreply := accepting_keepsBut e .standby []
    have hcp : (e.accepting .standby []).cp = { e.cp with reply := some ⟨0x0b#8, .ok, []⟩ } := rfl
    refine ⟨_, hexec, ?_⟩
    generalize e.accepting .standby [] = t at *
    have htos : t.os = e.os := hreply .os (by decide)
    have htclp : t.clp = e.clp := hreply .clp (by decide)
    have htzr : t.zr = r.zr := hkept .zr (by decide)
    have htrx : t.rx = r.rx := hkept .rx (by decide)
    have htlists : listOf t = listOf r := funext fun z => by cases z <;> simp only [listOf, htzr]
    have hunlisted : t.zr.unlisted = u.zr.unlisted := htzr ▸ hr.unlisted
    have hmuted (c : Chan) : (∃ p ∈ t.ge.paths, p.chan = c ∧ p.audible ≠ .mute) = (allMuted (settle r) c = false) :=
      propext (hheard c)
    have htchimes : t.chimes = r.chimes := chimes_eq_of_silent (hkept .chimes (by decide)) (by rw [hr.chimes]) (by rw [hr.chimes])
    obtain ⟨hcabin, hducks, htrims, hlost, hms⟩ := ZoneRouter.fields_of_unlisted hunlisted
    refine ⟨(hkept .sc (by decide)).trans hr.sc, ?_, ?_, ?_, (hkept .safety (by decide)).trans hr.safety,
      (hkept .patterns (by decide)).trans hr.patterns, fun z => ⟨?_, zoneState_of_unlisted hunlisted z⟩,
      hcabin, hducks, htrims,
      ZoneRouter.hps_of_unlisted hunlisted, hlost, hms, htchimes.trans hr.chimes, fun x => ?_, ?_, ?_, ?_,
      (hkept .slm (by decide)).trans hr.slm, (hkept .af (by decide)).trans hr.af, (hkept .tw (by decide)).trans hr.tw,
      fun k => ?_, fun k hon => ?_, fun h hon => ?_, ?_, ?_, htargets, fun h => ?_, ?_⟩
    · rw [hcp]
      exact hposted.watchdog_eq
    · rw [hcp]
      exact hposted.masked_eq
    · rw [hcp]
    · rw [htlists, hr.lists]
    · cases x <;> simp only [receiver, htrx, hr.rx, Receiver.standby]
    · rw [htrx, hr.rx]
    · rw [htrx, hr.rx]
    · rw [htrx, hr.rx]
    · simp only [htos, hmuted]
      exact hamps k
    · simp only [htos, hmuted]
      exact hdouts k hon
    · simp only [htos, hmuted]
      exact hhps h hon
    · rw [htos, hprotection]
    · rw [htos, hexcluded]
    · rw [htclp, hbypass (hr.clp ▸ h), hr.clp]
    · exact hall.mono.trans hreply.mono
  · rintro s u hu hop hbypass
    have hact : answerWake u = accept ((standbyOff true u).modSc (fun c => { c with opState := .config })) [] := rfl
    have hexec : exec (.wake []) s = .next
        (((standbyOff true u).modSc (fun c => { c with opState := .config })).accepting .wake []) := by
      subst hu
      exact exec_next_accepting rfl rfl (congrArg (accepted .wake) hop) hact
    have hoff := standbyOff_of_bypass true hbypass
    obtain ⟨-, amps, douts, hps, hos, hamps, hdouts, hhps⟩ := standbyOff_outputs true u
    simp only [Bool.true_or, and_true] at hamps hdouts hhps
    generalize standbyOff true u = w at hexec hoff hos
    have hconfig := (modSc_within (fun c => { c with opState := .config }) w).same
    have hreply := accepting_keepsBut (w.modSc (fun c => { c with opState := .config })) .wake []
    have hcp : w.cp = u.cp := hoff .cp (by decide)
    have hsc : w.sc = u.sc := hoff .sc (by decide)
    refine ⟨_, hexec, congrArg (fun c : Controller => { c with opState := .config }) hsc,
      congrArg (fun c : ControlPort => { c with reply := some ⟨0x0c#8, .ok, []⟩ }) hcp, ?_⟩
    have htos : ((w.modSc (fun c => { c with opState := .config })).accepting .wake []).os = w.os := rfl
    generalize (w.modSc (fun c => { c with opState := .config })).accepting .wake [] = t at hreply htos ⊢
    rw [htos, hos]
    refine ⟨fun k => ⟨fun hr => ?_, fun hr => ?_⟩, hdouts, hhps, rfl,
      hoff.mono.trans (hconfig.mono.trans hreply.mono)⟩
    · rw [hamps, if_pos hr, wentOff_state]
    · rw [hamps, if_neg (Bool.eq_false_iff.1 hr)]

end Sys2Proof.Machine
end

section
/-! SUPPORT. The precedence lists (R44, R49): what an insertion, a removal and a change of the base source do to a list's
classes and to its order. -/

-- One declaration at a time: together they would start more threads than the check's memory limit has stacks for.
set_option Elab.async false

namespace Sys2Proof.Machine

/-! ### One list -/

/-- A zone's list is in order and holds only classes the zone allows (R44, R49). -/
structure ListFits (z : Zone) (l : List Entry) : Prop where
  ok : ListOk l
  allowed : ∀ e ∈ l, e.cls = .base ∨ mayHold z e.cls = true

theorem Class.code_injective {c d : Class} (h : c.code = d.code) : c = d := by
  cases c <;> cases d <;> first | rfl | exact absurd h (by decide)

theorem holdsClass_iff {l : List Entry} {c : Class} : holdsClass l c = true ↔ ∃ e ∈ l, e.cls = c := by
  simp [holdsClass]

/-- What a list holds depends on its classes alone. -/
theorem holdsClass_eq_contains (l : List Entry) (c : Class) : holdsClass l c = (l.map Entry.cls).contains c := by
  rw [Bool.eq_iff_iff]
  simp only [holdsClass_iff, List.contains_iff_mem, List.mem_map]

theorem holdsClass_of_classes {l k : List Entry} (h : k.map Entry.cls = l.map Entry.cls) (c : Class) :
    holdsClass k c = holdsClass l c := by
  rw [holdsClass_eq_contains, holdsClass_eq_contains, h]

/-- Whether a list fits depends on its classes alone. -/
theorem ListFits.of_classes {z : Zone} {l k : List Entry} (hl : ListFits z l) (h : k.map Entry.cls = l.map Entry.cls) :
    ListFits z k := by
  obtain ⟨⟨horder, hlast, hboth⟩, hallowed⟩ := hl
  refine ⟨⟨?_, ?_, ?_⟩, fun e he => ?_⟩
  · rw [← List.pairwise_map (R := fun c d : Class => c.code < d.code)] at horder ⊢
    rwa [h]
  · rw [← List.getLast?_map] at hlast ⊢
    rwa [h]
  · rwa [holdsClass_of_classes h, holdsClass_of_classes h]
  · obtain ⟨x, hx, hxe⟩ := List.mem_map.1 (h ▸ List.mem_map_of_mem he : e.cls ∈ l.map Entry.cls)
    exact hxe ▸ hallowed x hx

/-! ### An insertion -/

/-- An entry that takes the place of its class's entry leaves the classes as they are. -/
theorem insertIn_classes {l : List Entry} {e : Entry} (h : holdsClass l e.cls = true) :
    (insertIn e l).map Entry.cls = l.map Entry.cls := by
  rw [insertIn, if_pos h, List.map_map]
  refine List.map_congr_left fun x _ => ?_
  simp only [Function.comp_apply]
  split
  · exact (beq_iff_eq.1 (by assumption)).symm
  · rfl

theorem holdsClass_insertIn (l : List Entry) (e : Entry) (c : Class) :
    holdsClass (insertIn e l) c = (holdsClass l c || e.cls == c) := by
  cases hheld : holdsClass l e.cls
  · rw [insertIn, hheld, if_neg (by simp)]
    conv_rhs => rw [← List.takeWhile_append_dropWhile (p := fun x => decide (x.cls.code < e.cls.code)) (l := l)]
    simp only [holdsClass, List.any_append, List.any_cons]
    ac_rfl
  · rw [holdsClass_of_classes (insertIn_classes hheld)]
    by_cases hc : e.cls = c
    · subst hc
      simp [hheld]
    · simp [hc]

/-- The entries from the first that is not ahead of a class on are all behind it, where the class is not held. -/
theorem behind_of_mem_dropWhile {l : List Entry} {c : Class} (horder : l.Pairwise (fun a b => a.cls.code < b.cls.code))
    (hc : holdsClass l c = false) : ∀ x ∈ l.dropWhile (fun x => x.cls.code < c.code), c.code < x.cls.code := by
  intro x hx
  have hne : x.cls.code ≠ c.code := fun h => by
    have hin : holdsClass l c = true := holdsClass_iff.2 ⟨x, List.dropWhile_subset _ hx, Class.code_injective h⟩
    simp [hc] at hin
  have hle : c.code ≤ x.cls.code := by
    cases hd : l.dropWhile (fun x => x.cls.code < c.code) with
    | nil => simp [hd] at hx
    | cons y ys =>
      have hy : ¬ y.cls.code < c.code := by
        have := List.head?_dropWhile_not (fun x : Entry => decide (x.cls.code < c.code)) l
        simpa [hd] using this
      have hsub := horder.sublist (hd ▸ List.dropWhile_sublist _ : (y :: ys).Sublist l)
      rcases List.mem_cons.1 (hd ▸ hx) with rfl | hys
      · omega
      · have := (List.pairwise_cons.1 hsub).1 x hys
        omega
  omega

/-- A class that a zone allows is inserted in its place; CALL and TRAFFIC come only where the other is not (R44, R49). -/
theorem ListFits.insertIn {z : Zone} {l : List Entry} {e : Entry} (hl : ListFits z l) (hmay : mayHold z e.cls = true)
    (hcall : e.cls = .call → holdsClass l .traffic = false) (htraffic : e.cls = .traffic → holdsClass l .call = false) :
    ListFits z (insertIn e l) := by
  cases hheld : holdsClass l e.cls
  case true => exact hl.of_classes (insertIn_classes hheld)
  obtain ⟨⟨horder, hlast, hboth⟩, hallowed⟩ := hl
  have hbehind := behind_of_mem_dropWhile horder hheld
  have hahead : ∀ x ∈ l.takeWhile (fun x => x.cls.code < e.cls.code), x.cls.code < e.cls.code := fun x hx => by
    simpa using List.mem_takeWhile_imp hx
  have hsplit := List.takeWhile_append_dropWhile (p := fun x : Entry => decide (x.cls.code < e.cls.code)) (l := l)
  have hdrop : l.dropWhile (fun x => x.cls.code < e.cls.code) ≠ [] := by
    intro hnil
    obtain ⟨b, hb, hbase⟩ := Option.map_eq_some_iff.1 hlast
    have hin := List.mem_of_getLast? hb
    rw [← hsplit, hnil, List.append_nil] at hin
    have hlt := hahead b hin
    rw [hbase] at hlt
    revert hlt
    cases e.cls <;> decide
  refine ⟨⟨?_, ?_, ?_⟩, fun x hx => ?_⟩
  · rw [Machine.insertIn, hheld, if_neg (by simp), List.pairwise_append]
    rw [← hsplit, List.pairwise_append] at horder
    obtain ⟨hfront, hback, hacross⟩ := horder
    refine ⟨hfront, List.pairwise_cons.2 ⟨hbehind, hback⟩, fun a ha b hb => ?_⟩
    rcases List.mem_cons.1 hb with rfl | hb
    · exact hahead a ha
    · exact (hahead a ha).trans (hbehind b hb)
  · rw [Machine.insertIn, hheld, if_neg (by simp), List.getLast?_append_of_ne_nil _ (List.cons_ne_nil _ _),
      ← List.singleton_append, List.getLast?_append_of_ne_nil _ hdrop]
    rw [← hsplit, List.getLast?_append_of_ne_nil _ hdrop] at hlast
    exact hlast
  · rw [holdsClass_insertIn, holdsClass_insertIn]
    cases hcls : e.cls <;> simp_all
  · rcases mem_insertIn hx with rfl | hx
    · exact .inr hmay
    · exact hallowed x hx

/-! ### Removals and the base source -/

theorem holdsClass_removeFrom {c : Class} (hc : c ≠ .base) (l : List Entry) (d : Class) :
    holdsClass (removeFrom c l) d = (holdsClass l d && d != c) := by
  rw [Bool.eq_iff_iff, removeFrom, if_neg hc]
  simp only [holdsClass_iff, List.mem_filter, Bool.and_eq_true, bne_iff_ne]
  constructor
  · rintro ⟨e, ⟨he, hne⟩, rfl⟩
    exact ⟨⟨e, he, rfl⟩, hne⟩
  · rintro ⟨⟨e, he, rfl⟩, hne⟩
    exact ⟨e, ⟨he, hne⟩, rfl⟩

/-- A list whose BASE entry is kept fits with fewer entries. -/
theorem ListFits.filter {z : Zone} {l : List Entry} {p : Entry → Bool} (hl : ListFits z l)
    (hp : ∀ e : Entry, e.cls = .base → p e = true) : ListFits z (l.filter p) := by
  obtain ⟨⟨horder, hlast, hboth⟩, hallowed⟩ := hl
  refine ⟨⟨horder.sublist List.filter_sublist, ?_, ?_⟩, fun e he => hallowed e (List.mem_of_mem_filter he)⟩
  · obtain ⟨b, hb, hbase⟩ := Option.map_eq_some_iff.1 hlast
    obtain ⟨front, rfl⟩ := List.getLast?_eq_some_iff.1 hb
    simp [List.filter_append, hp b hbase, hbase]
  · have hheld (c : Class) : holdsClass (l.filter p) c = true → holdsClass l c = true := by
      simp only [holdsClass_iff]
      rintro ⟨e, he, hc⟩
      exact ⟨e, List.mem_of_mem_filter he, hc⟩
    have hcall := hheld .call
    have htraffic := hheld .traffic
    cases hc : holdsClass (l.filter p) .call <;> cases ht : holdsClass (l.filter p) .traffic <;> simp_all

theorem ListFits.removeFrom {z : Zone} {l : List Entry} (c : Class) (hl : ListFits z l) : ListFits z (removeFrom c l) := by
  unfold Machine.removeFrom
  split
  · exact hl
  · rename_i hc
    exact hl.filter fun e he => by simpa [he] using Ne.symm hc

/-- A new base source leaves the classes as they are. -/
theorem withBase_classes (src : Option Source) (l : List Entry) : (withBase src l).map Entry.cls = l.map Entry.cls := by
  rw [withBase, List.map_map]
  refine List.map_congr_left fun e _ => ?_
  simp only [Function.comp_apply]
  split <;> rfl

/-! ### Every zone's list -/

theorem Zone.mem_all (z : Zone) : z ∈ Zone.all := by
  rcases z with c | h
  · cases c <;> decide
  · cases h <;> decide

theorem Cabin.mem_all (c : Cabin) : c ∈ Cabin.all := by cases c <;> decide

theorem listsOk_iff (s : State) : ListsOk s ↔ ∀ z, ListFits z (listOf s z) :=
  ⟨fun h z => ⟨(h z (Zone.mem_all z)).1, (h z (Zone.mem_all z)).2⟩, fun h z _ => ⟨(h z).ok, (h z).allowed⟩⟩

end Sys2Proof.Machine
end

section
/-! SUPPORT. What the operations on the lists do to every zone's list (R44, R49 to R51): each keeps the lists in order, and changes
which zones hold a class for the classes it names alone. -/

-- One declaration at a time: together they would start more threads than the check's memory limit has stacks for.
set_option Elab.async false

namespace Sys2Proof.Machine

/-! ### Lists changed in some classes -/

/-- From one state to another the lists stay in order, and each class but the named ones is held in the zones that held it. -/
structure Relisted (ks : List Class) (s t : State) : Prop where
  fits : ListsOk s → ListsOk t
  others : ∀ c ∉ ks, ∀ z, holdsClass (listOf t z) c = holdsClass (listOf s z) c

theorem Relisted.of_listOf {ks : List Class} {s t : State} (h : ∀ z, listOf t z = listOf s z) : Relisted ks s t := by
  refine ⟨fun hs => (listsOk_iff t).2 fun z => ?_, fun c _ z => by rw [h z]⟩
  rw [h z]
  exact (listsOk_iff s).1 hs z

theorem Relisted.of_classes {ks : List Class} {s t : State}
    (h : ∀ z, (listOf t z).map Entry.cls = (listOf s z).map Entry.cls) : Relisted ks s t :=
  ⟨fun hs => (listsOk_iff t).2 fun z => ((listsOk_iff s).1 hs z).of_classes (h z),
    fun c _ z => holdsClass_of_classes (h z) c⟩

theorem Relisted.of_zr {ks : List Class} {s t : State} (h : t.zr = s.zr) : Relisted ks s t :=
  .of_listOf fun z => by cases z <;> simp only [listOf, h]

theorem Relisted.refl {ks : List Class} {s : State} : Relisted ks s s := .of_zr rfl

theorem Relisted.mono {ks js : List Class} {s t : State} (h : Relisted ks s t) (hs : ks ⊆ js := by decide) :
    Relisted js s t := ⟨h.fits, fun c hc => h.others c (mt (@hs c) hc)⟩

theorem Relisted.trans {ks : List Class} {s t u : State} (h : Relisted ks s t) (h' : Relisted ks t u) :
    Relisted ks s u := ⟨fun hs => h'.fits (h.fits hs), fun c hc z => (h'.others c hc z).trans (h.others c hc z)⟩

theorem Relisted.ite {ks : List Class} {s a b : State} {c : Prop} [Decidable c] (ha : Relisted ks s a)
    (hb : Relisted ks s b) : Relisted ks s (if c then a else b) := by
  split <;> assumption

theorem Relisted.foldl {α : Type} {ks : List Class} {f : State → α → State} (h : ∀ s a, Relisted ks s (f s a)) (l : List α)
    (s : State) : Relisted ks s (l.foldl f s) := by
  induction l generalizing s with
  | nil => exact .refl
  | cons a l ih => exact (h s a).trans (ih _)

theorem Within.relisted {bs : List Block} {ks : List Class} {s t : State} (h : Within bs s t)
    (hb : .zr ∉ bs := by decide) : Relisted ks s t := .of_zr (h.zr_eq hb)

theorem QuietOnly.relisted {ks : List Class} {s t : State} (h : QuietOnly s t) : Relisted ks s t := .of_listOf h.listOf_eq

/-! ### One entry -/

theorem holdsClass_insertEntry (z y : Zone) (e : Entry) (c : Class) (s : State) :
    holdsClass (listOf (insertEntry z e s) y) c =
      (holdsClass (listOf s y) c || (decide (y = z) && mayHold z e.cls && e.cls == c)) := by
  rw [listOf_insertEntry]
  by_cases h : y = z ∧ mayHold z e.cls = true
  · obtain ⟨rfl, hmay⟩ := h
    simp [holdsClass_insertIn, hmay]
  · rw [if_neg h]
    by_cases hy : y = z
    · simp_all
    · simp [hy]

theorem holdsClass_removeEntry (z y : Zone) {c : Class} (hc : c ≠ .base) (d : Class) (s : State) :
    holdsClass (listOf (removeEntry z c s) y) d = (holdsClass (listOf s y) d && !(decide (y = z) && d == c)) := by
  rw [listOf_removeEntry]
  by_cases hy : y = z
  · subst hy
    simp [holdsClass_removeFrom hc, bne]
  · simp [hy]

theorem insertEntry_relisted (z : Zone) (e : Entry) (s : State)
    (hcall : ListsOk s → e.cls = .call → holdsClass (listOf s z) .traffic = false)
    (htraffic : e.cls = .traffic → holdsClass (listOf s z) .call = false) : Relisted [e.cls] s (insertEntry z e s) := by
  refine ⟨fun hs => (listsOk_iff _).2 fun y => ?_, fun c hc y => ?_⟩
  · have hy := (listsOk_iff s).1 hs y
    rw [listOf_insertEntry]
    split
    · obtain ⟨rfl, hmay⟩ := ‹_ ∧ _›
      exact hy.insertIn hmay (hcall hs) htraffic
    · exact hy
  · have hne : (e.cls == c) = false := by
      rw [beq_eq_false_iff_ne]
      rintro rfl
      simp at hc
    rw [holdsClass_insertEntry, hne, Bool.and_false, Bool.or_false]

theorem removeEntry_relisted (z : Zone) {c : Class} (hc : c ≠ .base) (s : State) : Relisted [c] s (removeEntry z c s) := by
  refine ⟨fun hs => (listsOk_iff _).2 fun y => ?_, fun d hd y => ?_⟩
  · rw [listOf_removeEntry]
    split
    · exact ListFits.removeFrom c (by subst_vars; exact (listsOk_iff s).1 hs _)
    · exact (listsOk_iff s).1 hs y
  · have hne : (d == c) = false := by simpa using hd
    rw [holdsClass_removeEntry z y hc, hne, Bool.and_false, Bool.not_false, Bool.and_true]

/-- A headphone zone holds no TRAFFIC entry (section 3.5). -/
theorem ListsOk.hp_noTraffic {s : State} (hs : ListsOk s) (h : Hp) : holdsClass (listOf s (.hp h)) .traffic = false := by
  refine Bool.eq_false_iff.2 fun hheld => ?_
  obtain ⟨e, he, hcls⟩ := holdsClass_iff.1 hheld
  rcases ((listsOk_iff s).1 hs (.hp h)).allowed e he with hbase | hmay
  · simp [hcls] at hbase
  · simp [hcls, mayHold] at hmay

/-! ### Flags, sources and prompts -/

/-- A record changed in no list's classes. -/
theorem modHp_relisted {ks : List Class} (h : Hp) {f : HpZone → HpZone} (s : State)
    (hf : ∀ r, (f r).list.map Entry.cls = r.list.map Entry.cls) : Relisted ks s (modHp h f s) := by
  refine .of_classes fun z => ?_
  rcases z with c | g
  · rfl
  · simp only [listOf, modHp, State.modZr_zr, PerHp.get_set]
    split
    · subst_vars; exact hf _
    · rfl

theorem setCabinBase_relisted {ks : List Class} (src : Option Source) (s : State) : Relisted ks s (setCabinBase src s) := by
  refine .of_classes fun z => ?_
  rcases z with c | g
  · cases c <;> exact withBase_classes src _
  · rfl

theorem setHpBase_relisted {ks : List Class} (h : Hp) (src : Option Source) (s : State) :
    Relisted ks s (setHpBase h src s) := modHp_relisted h s (fun r => withBase_classes src r.list)

theorem setMuteFlag_relisted {ks : List Class} (z : Zone) (m : Bool) (s : State) : Relisted ks s (setMuteFlag z m s) := by
  refine .ite .refl (Relisted.trans (.of_listOf fun y => ?_) (postZone_within z _).relisted)
  rcases z with c | h <;> rcases y with d | g
  · simp only [listOf, State.modZr_zr, PerCabin.get_set]
    split <;> simp_all
  · rfl
  · rfl
  · simp only [listOf, State.modZr_zr, PerHp.get_set]
    split <;> simp_all

theorem senseJacks_relisted {ks : List Class} (s : State) : Relisted ks s (senseJacks s) := by
  refine .of_listOf fun z => ?_
  rcases z with c | h
  · rfl
  · cases h <;> rfl

theorem startPrompts_relisted (zs : List Cabin) (s : State) : Relisted [.prompt] s (startPrompts zs s) :=
  .foldl (fun s c => insertEntry_relisted (.cabin c) promptEntry s (fun _ h => nomatch h) (fun h => nomatch h)) zs s

theorem endPrompts_relisted (zs : List Cabin) (s : State) : Relisted [.prompt] s (endPrompts zs s) :=
  .foldl (fun s c => removeEntry_relisted (.cabin c) (by decide) s) zs s

theorem removePrompts_relisted (s : State) : Relisted [.prompt] s (removePrompts s) :=
  .foldl (fun s c => removeEntry_relisted (.cabin c) (by decide) s) Cabin.all s

theorem reduceLists_fits {s : State} (hs : ListsOk s) : ListsOk (reduceLists s) := by
  refine (listsOk_iff _).2 fun z => ?_
  rw [listOf_reduceLists]
  exact ((listsOk_iff s).1 hs z).filter fun e he => by simp [he]

/-! ### The arrival of a frame -/

theorem arrival_relisted {ks : List Class} (kind : Byte) (s : State) : Relisted ks s (arrival kind s) := by
  have hgood : Relisted ks s (goodFrame s) := by
    unfold goodFrame linkRestored
    split
    · exact .refl
    · exact .of_zr rfl
    · refine Relisted.trans (t := setWatchdog (.counting s.safety.config.watchdogMs) s) (.of_zr rfl) ?_
      split
      · exact ((modSc_within _ _).trans (post_within _ _ _ _)).relisted.trans (liftQuiet_quietOnly _).relisted
      · exact .refl
  exact hgood.trans (arrival_after_goodFrame kind s).relisted

/-! ### Announcements (R49, R50, R129, R130) -/

@[simp] theorem get_cabinSet (f : Cabin → Bool) (c : Cabin) : (cabinSet f).get c = f c := by cases c <;> rfl

theorem mem_minus_toList {y z : CabinSet} {c : Cabin} : c ∈ (y.minus z).toList ↔ y.get c = true ∧ z.get c = false := by
  simp [CabinSet.toList, CabinSet.minus, Cabin.mem_all]

theorem insertTraffic_relisted (d : Bool) {zs : List Cabin} {s : State}
    (h : ∀ c ∈ zs, holdsClass (listOf s (.cabin c)) .call = false) : Relisted [.traffic] s (insertTraffic d zs s) := by
  induction zs generalizing s with
  | nil => exact .refl
  | cons c zs ih =>
    have hhead : Relisted [.traffic] s (insertEntry (.cabin c) (trafficEntry d) s) :=
      insertEntry_relisted (.cabin c) (trafficEntry d) s (fun _ h => nomatch h) (fun _ => h c List.mem_cons_self)
    refine hhead.trans (ih fun x hx => ?_)
    rw [hhead.others .call (by decide)]
    exact h x (List.mem_cons_of_mem _ hx)

theorem beginAnnouncement_relisted (s : State) : Relisted [.traffic] s (beginAnnouncement s) := by
  have inserted (g : TrafficWatch → TrafficWatch) : Relisted [.traffic] s
      ((insertTraffic false (s.tw.zones.minus
        (cabinSet fun c => s.tw.zones.get c && holdsClass (listOf s (.cabin c)) .call)).toList s).modTw g) := by
    refine (insertTraffic_relisted false fun c hc => ?_).trans (modTw_within g _).relisted
    rw [mem_minus_toList, get_cabinSet] at hc
    obtain ⟨hzone, hdeferred⟩ := hc
    simpa [hzone] using hdeferred
  unfold beginAnnouncement
  dsimp only
  split <;> split
  · exact inserted _
  · exact (inserted _).trans (post_within _ _ _ _).relisted
  · exact (inserted _).trans (postDeferred_within _).relisted
  · exact (inserted _).trans ((post_within _ _ _ _).trans (postDeferred_within _)).relisted

theorem removeTraffic_relisted (s : State) : Relisted [.traffic] s (removeTraffic s) :=
  .foldl (fun s c => removeEntry_relisted (.cabin c) (by decide) s) Cabin.all s

theorem endAnnouncement_relisted (cause : EndCause) (s : State) : Relisted [.traffic] s (endAnnouncement cause s) := by
  unfold endAnnouncement
  split
  · exact .refl
  · exact (removeTraffic_relisted s).trans ((modTw_within _ _).trans (post_within _ _ _ _)).relisted

/-! ### Calls (R49, R142, R143) -/

theorem placeCall_relisted (s : State) (z : Zone) : Relisted [.call, .traffic] s (placeCall s z) := by
  have placed (u : State) (hu : ListsOk u → holdsClass (listOf u z) .traffic = false) :
      Relisted [.call, .traffic] u (insertEntry z { cls := .call, src := some .call, deferred := false } u) :=
    (insertEntry_relisted z _ u (fun hs _ => hu hs) (fun h => Class.noConfusion h)).mono
  unfold placeCall
  dsimp only
  split
  · rename_i c
    split
    · have cleared := (removeEntry_relisted (.cabin c) (c := .traffic) (by decide) s).trans
        (modAnnouncement_within (fun a => { a with sounding := a.sounding.set c false, deferred := a.deferred.set c true })
          _).relisted
      refine cleared.mono.trans (placed _ fun _ => ?_)
      show holdsClass (listOf (removeEntry (.cabin c) .traffic s) (.cabin c)) .traffic = false
      simp [holdsClass_removeEntry (.cabin c) (.cabin c) (c := .traffic) (by decide)]
    · rename_i hheld
      exact placed s fun _ => Bool.eq_false_iff.2 hheld
  · exact placed s fun hs => hs.hp_noTraffic _

theorem placeCalls_relisted (zs : List Zone) (s : State) : Relisted [.call, .traffic] s (placeCalls zs s) :=
  .ite ((Relisted.foldl placeCall_relisted zs s).trans (postDeferred_within _).relisted) (.foldl placeCall_relisted zs s)

theorem liftCall_relisted (s : State) (z : Zone) : Relisted [.call, .traffic] s (liftCall s z) := by
  have lifted : Relisted [.call, .traffic] s (removeEntry z .call s) := (removeEntry_relisted z (by decide) s).mono
  unfold liftCall
  dsimp only
  split
  · rename_i c
    refine .ite ((lifted.trans ?_).trans (modAnnouncement_within _ _).relisted) lifted
    refine (insertEntry_relisted (.cabin c) (trafficEntry true) _ (fun _ h => nomatch h) fun _ => ?_).mono
    simp [holdsClass_removeEntry (.cabin c) (.cabin c) (c := .call) (by decide)]
  · exact lifted

theorem liftCalls_relisted (zs : List Zone) (s : State) : Relisted [.call, .traffic] s (liftCalls zs s) :=
  .foldl liftCall_relisted zs s

theorem leaveIdle_relisted (new : CallState) (s : State) : Relisted [.call, .traffic] s (leaveIdle new s) := by
  have placed := (modClp_within (fun c => { c with state := new, restarts := 0 }) s).relisted.trans
    (placeCalls_relisted (routeZones s.clp.route) _)
  unfold leaveIdle
  dsimp only
  exact (Relisted.ite (placed.trans (startCanceller_within _).relisted) placed).trans
    ((remakeSelection_within _ _).trans (receipt_within _ _ _)).relisted

theorem callEnds_relisted (s : State) : Relisted [.call, .traffic] s (callEnds s) := by
  have lifted := (modClp_within (fun c => { c with state := .idle, uplinkMute := false }) s).relisted.trans
    (liftCalls_relisted (routeZones s.clp.route) _)
  exact lifted.trans ((bypassCanceller_within _).trans (receipt_within _ _ _)).relisted

theorem changeCall_relisted (new : CallState) (s : State) : Relisted [.call, .traffic] s (changeCall new s) := by
  unfold changeCall
  split
  · exact .refl
  · exact leaveIdle_relisted _ s
  · exact callEnds_relisted s
  · exact ((modClp_within _ s).trans (receipt_within _ _ _)).relisted

theorem moveRoute_relisted (new : Route) (cause : RouteCause) (s : State) :
    Relisted [.call, .traffic] s (moveRoute new cause s) := by
  have entries (old : Route) (u : State) : Relisted [.call, .traffic] u (moveEntries old new u) :=
    .ite .refl ((liftCalls_relisted _ u).trans (placeCalls_relisted _ _))
  have moved := ((modClp_within (fun c => { c with route := new }) s).relisted.trans (entries s.clp.route _)).trans
    ((reselect_within _).trans (postRoute_within s.clp.route cause _)).relisted
  have reported (b : Bool) := Relisted.ite (c := b = true) (moved.trans (postMicFault_within _).relisted) moved
  unfold moveRoute
  dsimp only
  exact (reported _).trans (moveCanceller_within new _).relisted

theorem jackChanges_relisted (h : Hp) (inserted : Bool) (s : State) :
    Relisted [.call, .traffic] s (jackChanges h inserted s) := by
  refine (modHp_relisted h (f := fun r => { r with jack := inserted }) s (fun _ => rfl)).trans ?_
  have fallback (u : State) : Relisted [.call, .traffic] u (jackFallback h u) := .ite (moveRoute_relisted _ _ u) .refl
  exact (Relisted.ite .refl (fallback _)).trans (post_within _ _ _ _).relisted

/-! ### The frame clock and the installation -/

theorem restoreClock_relisted {ks : List Class} (s : State) : Relisted ks s (restoreClock s) :=
  Relisted.trans (t := s.modZr (fun r => { r with clockLost := false, lostMs := 0 }))
    (.of_listOf fun z => by cases z <;> rfl) ((post_within _ _ _ _).trans (restartCanceller_within _)).relisted

theorem initialised_relisted {ks : List Class} (s : State) : Relisted ks s (initialised s) :=
  (((modSc_within _ s).relisted.trans (senseJacks_relisted _)).trans (receipt_within _ _ _).relisted).trans
    (postPartReady_within _).relisted

theorem installEffect_relisted {ks : List Class} (f : InstallField) (v : InstallValue) (s : State) :
    Relisted ks s (installEffect f v s) := by
  unfold installEffect
  split
  · exact .of_zr rfl
  · exact .of_zr rfl
  · exact .of_zr rfl
  · exact modHp_relisted _ s (fun _ => rfl)
  · exact (remakeSelection_within _ s).relisted
  · exact .ite (restoreClock_relisted s) .refl
  · exact .refl

end Sys2Proof.Machine
end

section
/-! SUPPORT. The CHIME entries of the cabin zones (R47, R93): what the voices' turns, the ends of entries and the requests do
to the lists, and that the entries stand exactly where a voice plays. -/

-- One declaration at a time: together they would start more threads than the check's memory limit has stacks for.
set_option Elab.async false

namespace Sys2Proof.Machine

/-! ### Where a voice plays -/

/-- The CHIME entries stand exactly in the cabin zones in which a voice plays (R93). -/
def ChimesFollow (s : State) : Prop := ∀ c : Cabin, holdsClass (listOf s (.cabin c)) .chime = playsIn s c

/-- A CHIME entry stands wherever a voice plays. -/
def ChimesCover (s : State) : Prop := ∀ c : Cabin, playsIn s c = true → holdsClass (listOf s (.cabin c)) .chime = true

theorem ChimesFollow.cover {s : State} (h : ChimesFollow s) : ChimesCover s := fun c hc => (h c).trans hc

theorem playsIn_iff {s : State} {c : Cabin} :
    playsIn s c = true ↔ ∃ e ∈ s.chimes.queue, e.voice.isSome = true ∧ e.zones.get c = true := by
  simp [playsIn]

theorem playsIn_congr {s t : State} (h : t.chimes.queue = s.chimes.queue) (c : Cabin) : playsIn t c = playsIn s c := by
  rw [playsIn, playsIn, h]

theorem Within.playsIn_eq {bs : List Block} {s t : State} (h : Within bs s t) (c : Cabin)
    (hb : .chimes ∉ bs := by decide) : playsIn t c = playsIn s c := by
  obtain ⟨hqueue, _⟩ := h.same .chimes (by simpa using hb)
  exact playsIn_congr hqueue c

/-- Where a voice plays is left as it was by a change of entries that keeps their zones and whether they play. -/
theorem playsIn_modEntry {p : PatternId} {f : ChimeEntry → ChimeEntry} {s : State}
    (hf : ∀ e ∈ s.chimes.queue, e.pattern = p → (f e).voice.isSome = e.voice.isSome ∧
      (e.voice.isSome = true → (f e).zones = e.zones)) (c : Cabin) : playsIn (modEntry p f s) c = playsIn s c := by
  rw [playsIn, playsIn, modEntry_queue, List.any_map, Bool.eq_iff_iff, List.any_eq_true, List.any_eq_true]
  refine exists_congr fun e => and_congr_right fun he => ?_
  simp only [Function.comp_apply]
  split
  · rename_i hp
    obtain ⟨hvoice, hzones⟩ := hf e he (beq_iff_eq.1 hp)
    rw [hvoice]
    cases hv : e.voice.isSome
    · rfl
    · rw [hzones hv]
  · rfl

/-- A voice plays in more zones after a change that takes neither voices nor zones from entries. -/
theorem playsIn_modEntry_of {p : PatternId} {f : ChimeEntry → ChimeEntry} {s : State}
    (hf : ∀ e, e.voice.isSome = true → (f e).voice.isSome = true)
    (hz : ∀ e c, e.zones.get c = true → (f e).zones.get c = true) {c : Cabin} (h : playsIn s c = true) :
    playsIn (modEntry p f s) c = true := by
  obtain ⟨e, he, hv, hc⟩ := playsIn_iff.1 h
  refine playsIn_iff.2 ⟨_, List.mem_map_of_mem he, ?_⟩
  split
  · exact ⟨hf e hv, hz e c hc⟩
  · exact ⟨hv, hc⟩

/-- A voice plays in fewer zones after an entry loses its voice. -/
theorem playsIn_of_unvoiced {p : PatternId} {s : State} {c : Cabin}
    (h : playsIn (modEntry p (fun e => { e with voice := none }) s) c = true) : playsIn s c = true := by
  obtain ⟨y, hy, hv, hc⟩ := playsIn_iff.1 h
  obtain ⟨e, he, rfl⟩ := List.mem_map.1 hy
  split at hv
  · simp at hv
  · exact playsIn_iff.2 ⟨e, he, hv, by simpa [*] using hc⟩

theorem playsIn_dropEntry {p : PatternId} {s : State} {c : Cabin} (h : playsIn (dropEntry p s) c = true) :
    playsIn s c = true := by
  obtain ⟨e, he, hplays⟩ := playsIn_iff.1 h
  exact playsIn_iff.2 ⟨e, List.mem_of_mem_filter he, hplays⟩

theorem playsIn_setVoice (v : VoiceId) (x : Option Voice) (s : State) (c : Cabin) :
    playsIn (setVoice v x s) c = playsIn s c := playsIn_congr (setVoice_queue v x s).1 c

theorem playsIn_noteReroute (p : PatternId) (pos : SegmentPosition) (zs : List Cabin) (s : State) (c : Cabin) :
    playsIn (noteReroute p pos zs s) c = playsIn s c := by
  unfold noteReroute
  split
  · split
    · rfl
    · exact (playsIn_congr rfl c).trans
        (playsIn_modEntry (f := fun e => { e with rerouted := true }) (fun _ _ _ => ⟨rfl, fun _ => rfl⟩) c)
  · rfl

theorem playsIn_beginTone (v : VoiceId) (x : Voice) (s : State) (c : Cabin) :
    playsIn (beginTone v x s) c = playsIn s c :=
  (playsIn_noteReroute _ _ _ _ c).trans (playsIn_setVoice v _ s c)

/-- An entry that waits is placed without a sound. -/
theorem playsIn_placeChime {e : ChimeEntry} (he : e.voice = none) (s : State) (c : Cabin) :
    playsIn (placeChime e s) c = playsIn s c := by
  obtain ⟨l, r, hold, hnew⟩ := placeChime_queue e s
  rw [playsIn, playsIn, hold, hnew]
  simp [he]

/-! ### The CHIME entries inserted and removed -/

theorem holdsChime_inserted (l : List Cabin) (s : State) (c : Cabin) :
    holdsClass (listOf (l.foldl (fun s z => insertEntry (.cabin z) chimeEntry s) s) (.cabin c)) .chime =
      (holdsClass (listOf s (.cabin c)) .chime || decide (c ∈ l)) := by
  induction l generalizing s with
  | nil => simp
  | cons z l ih =>
    rw [List.foldl_cons, ih, holdsClass_insertEntry]
    simp [chimeEntry, mayHold, Bool.or_assoc]

theorem holdsClass_removed {cls : Class} (hcls : cls ≠ .base) (l : List Cabin) (s : State) (c : Cabin) :
    holdsClass (listOf (l.foldl (fun s z => removeEntry (.cabin z) cls s) s) (.cabin c)) cls =
      (holdsClass (listOf s (.cabin c)) cls && !decide (c ∈ l)) := by
  induction l generalizing s with
  | nil => simp
  | cons z l ih =>
    rw [List.foldl_cons, ih, holdsClass_removeEntry _ _ hcls]
    simp [Bool.and_assoc]

theorem holdsChime_insertChimes (s : State) (c : Cabin) :
    holdsClass (listOf (insertChimes s) (.cabin c)) .chime = (holdsClass (listOf s (.cabin c)) .chime || playsIn s c) := by
  rw [insertChimes, holdsChime_inserted]
  simp [Cabin.mem_all]

theorem holdsChime_removeChimes (s : State) (c : Cabin) :
    holdsClass (listOf (removeChimes s) (.cabin c)) .chime = (holdsClass (listOf s (.cabin c)) .chime && playsIn s c) := by
  rw [removeChimes, holdsClass_removed (by decide)]
  simp [Cabin.mem_all]

/-- Inserted where a voice has begun to play, the CHIME entries stand where a voice plays. -/
theorem insertChimes_follow {s t : State} (hs : ChimesFollow s) (hzr : t.zr = s.zr)
    (hplays : ∀ c, playsIn s c = true → playsIn t c = true) : ChimesFollow (insertChimes t) := by
  intro c
  have hlist : listOf t (.cabin c) = listOf s (.cabin c) := by simp only [listOf, hzr]
  rw [holdsChime_insertChimes, (insertChimes_within t).playsIn_eq c, hlist, hs c]
  cases hc : playsIn s c
  · rfl
  · rw [hplays c hc]
    rfl

/-- Removed where no voice plays, the CHIME entries stand where a voice plays. -/
theorem removeChimes_follow {t : State} (ht : ChimesCover t) : ChimesFollow (removeChimes t) := by
  intro c
  rw [holdsChime_removeChimes, (removeChimes_within t).playsIn_eq c]
  cases hc : playsIn t c
  · rw [Bool.and_false]
  · rw [ht c hc, Bool.and_true]

theorem insertChimes_cover (t : State) : ChimesCover (insertChimes t) := fun c hc => by
  rw [holdsChime_insertChimes, ← (insertChimes_within t).playsIn_eq c, hc, Bool.or_true]

/-- Fewer zones in which a voice plays are still covered. -/
theorem ChimesCover.of_fewer {s t : State} (hs : ChimesCover s) (hzr : t.zr = s.zr)
    (hplays : ∀ c, playsIn t c = true → playsIn s c = true) : ChimesCover t := fun c hc => by
  have hlist : listOf t (.cabin c) = listOf s (.cabin c) := by simp only [listOf, hzr]
  rw [hlist]
  exact hs c (hplays c hc)

/-! ### The voices' turns -/

/-- The lists have changed in CHIME alone, and the CHIME entries stand where a voice plays if they did. -/
structure Sounded (s t : State) : Prop where
  lists : Relisted [.chime] s t
  follow : ChimesFollow s → ChimesFollow t

theorem Sounded.refl {s : State} : Sounded s s := ⟨.refl, id⟩

theorem Sounded.trans {s t u : State} (h : Sounded s t) (h' : Sounded t u) : Sounded s u :=
  ⟨h.lists.trans h'.lists, fun hs => h'.follow (h.follow hs)⟩

theorem Sounded.ite {s a b : State} {c : Prop} [Decidable c] (ha : Sounded s a) (hb : Sounded s b) :
    Sounded s (if c then a else b) := by
  split <;> assumption

/-- Neither the lists nor where a voice plays has changed. -/
theorem Sounded.of_plays {s t : State} (hzr : t.zr = s.zr) (hplays : ∀ c, playsIn t c = playsIn s c) : Sounded s t := by
  refine ⟨.of_zr hzr, fun hs c => ?_⟩
  have hlist : listOf t (.cabin c) = listOf s (.cabin c) := by simp only [listOf, hzr]
  rw [hlist, hplays c]
  exact hs c

theorem insertChimes_relisted (s : State) : Relisted [.chime] s (insertChimes s) :=
  .foldl (fun s c => insertEntry_relisted (.cabin c) chimeEntry s (fun _ h => nomatch h) (fun h => nomatch h)) _ s

theorem removeChimes_relisted (s : State) : Relisted [.chime] s (removeChimes s) :=
  .foldl (fun s c => removeEntry_relisted (.cabin c) (by decide) s) _ s

theorem setVoice_sounded (v : VoiceId) (x : Option Voice) (s : State) : Sounded s (setVoice v x s) :=
  .of_plays (setVoice_within v x s).zr_eq (playsIn_setVoice v x s)

theorem beginTone_sounded (v : VoiceId) (x : Voice) (s : State) : Sounded s (beginTone v x s) :=
  .of_plays (beginTone_within v x s).zr_eq (playsIn_beginTone v x s)

/-- A change of entries that keeps their zones and whether they play. -/
theorem modEntry_sounded {p : PatternId} {f : ChimeEntry → ChimeEntry} {s : State}
    (hf : ∀ e ∈ s.chimes.queue, e.pattern = p → (f e).voice.isSome = e.voice.isSome ∧
      (e.voice.isSome = true → (f e).zones = e.zones)) : Sounded s (modEntry p f s) :=
  .of_plays rfl (playsIn_modEntry hf)

theorem placeChime_sounded {e : ChimeEntry} (he : e.voice = none) (s : State) : Sounded s (placeChime e s) :=
  .of_plays rfl (playsIn_placeChime he s)

/-- A voice that takes an entry brings the CHIME entries to the entry's zones. -/
theorem takeEntry_sounded (v : VoiceId) (s : State) : Sounded s (takeEntry v s) := by
  unfold takeEntry
  split
  · exact .refl
  · rename_i e _
    dsimp only
    have hmarked (c : Cabin) (hc : playsIn s c = true) :
        playsIn ((modEntry e.pattern (fun e => { e with voice := some v, played := true }) s).modChimes
          (fun c => { c with nextStart := c.nextStart + 1 })) c = true :=
      playsIn_modEntry_of (f := fun e => { e with voice := some v, played := true }) (fun _ _ => rfl) (fun _ _ hz => hz) hc
    constructor
    case lists =>
      refine Relisted.trans ?_ (insertChimes_relisted _)
      exact .of_zr (beginTone_within v _ _).zr_eq
    case follow =>
      exact fun hs => insertChimes_follow hs (beginTone_within v _ _).zr_eq fun c hc =>
        (playsIn_beginTone v _ _ c).trans (hmarked c hc)

theorem takeEntry_cover {s : State} (v : VoiceId) (hs : ChimesCover s) : ChimesCover (takeEntry v s) := by
  unfold takeEntry
  split
  · exact hs
  · exact insertChimes_cover _

theorem takeIfIdle_sounded (v : VoiceId) (s : State) : Sounded s (takeIfIdle v s) := .ite (takeEntry_sounded v s) .refl

theorem preempt_sounded (s : State) : Sounded s (preempt s) := by
  unfold preempt
  split
  · split
    · rename_i v x e _ _ _
      have hzr : (setVoice v none (modEntry x.pattern (fun e => { e with voice := none }) s)).zr = s.zr :=
        (setVoice_within v none _).zr_eq
      refine ⟨((Relisted.of_zr hzr).trans (takeEntry_sounded v _).lists).trans (removeChimes_relisted _), fun hs => ?_⟩
      refine removeChimes_follow (takeEntry_cover v (hs.cover.of_fewer hzr fun c hc => ?_))
      exact playsIn_of_unvoiced ((playsIn_setVoice v none _ c).symm.trans hc)
    · exact .refl
  · exact .refl

theorem voicesLook_sounded (s : State) : Sounded s (voicesLook s) :=
  ((takeIfIdle_sounded .v1 s).trans (takeIfIdle_sounded .v2 _)).trans (preempt_sounded _)

/-- The end of an entry takes the CHIME entries from the zones in which no voice plays any more. -/
theorem endEntry_sounded (e : ChimeEntry) (cause : ChimeEnd) (s : State) : Sounded s (endEntry e cause s) := by
  have stopped (t : State) (hzr : t.zr = s.zr) (hplays : ∀ c, playsIn t c = playsIn s c) (k : ReportKind) (n : Nat)
      (d : Bytes) : Sounded s (removeChimes (post k n d (dropEntry e.pattern t))) := by
    have hdropped : (post k n d (dropEntry e.pattern t)).zr = s.zr := hzr
    refine ⟨(Relisted.of_zr hdropped).trans (removeChimes_relisted _), fun hs => removeChimes_follow ?_⟩
    exact hs.cover.of_fewer hzr fun c hc => (hplays c).symm.trans (playsIn_dropEntry hc)
  unfold endEntry
  dsimp only
  split
  · exact stopped _ (setVoice_within _ none s).zr_eq (playsIn_setVoice _ none s) _ _ _
  · exact stopped s rfl (fun _ => rfl) _ _ _

/-! ### Playing by time -/

theorem nextRepeat_sounded (v : VoiceId) (x : Voice) (s : State) : Sounded s (nextRepeat v x s) :=
  (modEntry_sounded (f := fun e => { e with reached := x.rep + 1 }) fun _ _ _ => ⟨rfl, fun _ => rfl⟩).trans
    (beginTone_sounded v _ _)

theorem repeatGap_sounded (v : VoiceId) (x : Voice) (s : State) : Sounded s (repeatGap v x s) :=
  .ite (nextRepeat_sounded v x s) (setVoice_sounded v _ s)

theorem repeatEnd_sounded (v : VoiceId) (x : Voice) (s : State) : Sounded s (repeatEnd v x s) := by
  unfold repeatEnd
  split
  · exact setVoice_sounded v none s
  · split
    · exact repeatGap_sounded v x s
    · rename_i n _
      refine .ite (Sounded.trans ?_ (repeatGap_sounded v x _)) ((endEntry_sounded _ _ s).trans (voicesLook_sounded _))
      exact modEntry_sounded (f := fun e => { e with remaining := .count (n - 1) }) fun _ _ _ => ⟨rfl, fun _ => rfl⟩

theorem gapEnd_sounded (v : VoiceId) (x : Voice) (s : State) : Sounded s (gapEnd v x s) :=
  .ite (beginTone_sounded v _ s) (repeatEnd_sounded v x s)

theorem toneEnd_sounded (v : VoiceId) (x : Voice) (s : State) : Sounded s (toneEnd v x s) :=
  .ite (gapEnd_sounded v x s) (setVoice_sounded v _ s)

theorem voicePhaseEnds_sounded (v : VoiceId) (s : State) : Sounded s (voicePhaseEnds v s) := by
  unfold voicePhaseEnds phaseEnd
  split
  · exact .refl
  · split
    · exact toneEnd_sounded v _ s
    · exact gapEnd_sounded v _ s
    · exact nextRepeat_sounded v _ s

/-! ### Cuts and requests -/

theorem cutEntry_sounded (s : State) (e : ChimeEntry) : Sounded s (cutEntry s e) := by
  rcases cutEntry_cases s e with ⟨_, heq⟩ | ⟨_, _, heq⟩ | ⟨_, _, heq⟩ <;> rw [heq]
  · exact .refl
  · exact endEntry_sounded e .cutShort s
  · exact modEntry_sounded fun _ _ _ => ⟨rfl, fun _ => rfl⟩

theorem cuts_sounded (l : List ChimeEntry) (s : State) : Sounded s (l.foldl cutEntry s) := by
  induction l generalizing s with
  | nil => exact .refl
  | cons e l ih => exact (cutEntry_sounded s e).trans (ih _)

theorem afterCuts_sounded (s : State) : Sounded s (afterCuts s) := (cuts_sounded _ s).trans (voicesLook_sounded _)

theorem refuse_sounded {s : State} {status : Status} : Sounded s (refuse s status).state := .refl

theorem answerCancel_sounded (body : Bytes) (s : State) : Sounded s (answerCancel body s).state := by
  unfold answerCancel
  repeat' split
  any_goals with_reducible exact refuse_sounded
  · exact .refl
  · exact (endEntry_sounded _ _ s).trans (voicesLook_sounded _)

theorem joinTone_relisted (v : VoiceId) (p : PatternId) (added : CabinSet) (s : State) :
    Relisted [.chime] s (joinTone v p added s) := by
  unfold joinTone
  split
  · exact .refl
  · exact ((setVoice_within v _ s).trans (noteReroute_within _ _ _ _)).relisted.trans (insertChimes_relisted _)

theorem mergeChime_relisted (e : ChimeEntry) (t : Pattern) (zones : CabinSet) (s : State) :
    Relisted [.chime] s (mergeChime e t zones s) := by
  unfold mergeChime
  dsimp only
  split
  · exact (modEntry_within _ _ s).relisted.trans (joinTone_relisted _ _ _ _)
  · exact (modEntry_within _ _ s).relisted

theorem takeChime_relisted (p : PatternId) (t : Pattern) (zones : CabinSet) (s : State) :
    Relisted [.chime] s (takeChime p t zones s).1 := by
  unfold takeChime
  split
  · exact (mergeChime_relisted _ t zones s).trans (voicesLook_sounded _).lists
  · split
    · exact (placeChime_within _ s).relisted.trans (voicesLook_sounded _).lists
    · split
      · exact .refl
      · split
        · exact (((dropEntry_within _ s).trans (post_within _ _ _ _)).trans (placeChime_within _ _)).relisted.trans
            (voicesLook_sounded _).lists
        · exact .refl

theorem answerChime_relisted (body : Bytes) (s : State) : Relisted [.chime] s (answerChime body s).state := by
  unfold answerChime
  dsimp only
  repeat' split
  any_goals with_reducible exact refuse_sounded.lists
  · exact takeChime_relisted _ _ _ s
  · exact takeChime_relisted _ _ _ s

theorem failsafeChime_relisted (s : State) : Relisted [.chime] s (failsafeChime s) := by
  unfold failsafeChime
  split
  · exact .refl
  · split
    · exact .refl
    · exact .ite (takeChime_relisted _ _ _ s) .refl

theorem beforeSounds_relisted (s : State) : Relisted [.prompt] s (beforeSounds s) := by
  have entered := ((modSc_within (fun c => { c with opState := .failsafe, failsafeMs := 0 }) s).trans
    (post_within .failsafeEntered 0 (u16 s.safety.config.watchdogMs) _)).relisted (ks := [.prompt])
  exact (entered.trans (removePrompts_relisted _)).trans (applyProfiles_quietOnly _).relisted

theorem watchdogExpires_relisted (s : State) : Relisted [.prompt, .chime] s (watchdogExpires s) := by
  unfold watchdogExpires
  split
  · have expired : Relisted [.prompt, .chime] s (setWatchdog .expired s) := .of_zr rfl
    refine .ite (expired.trans ?_) expired
    rw [enterFailsafe_eq, failsafeSounds_eq]
    exact ((beforeSounds_relisted _).mono.trans (afterCuts_sounded _).lists.mono).trans (failsafeChime_relisted _).mono
  · exact .refl

end Sys2Proof.Machine
end

section
/-! SUPPORT. Announcements among the receivers' operations (R50, R101 to R130): a tune, a data group and a turn of alternate
following change the Zone Router by the beginnings and the ends of announcements alone. -/

-- One declaration at a time: together they would start more threads than the check's memory limit has stacks for.
set_option Elab.async false

namespace Sys2Proof.Machine

/-! ### Announcements that begin and end -/

/-- From one state to another the Zone Router has changed as announcements began and ended, and no further. -/
inductive Announced : State → State → Prop
  | of_zr {s t : State} (h : t.zr = s.zr) : Announced s t
  | begins (s : State) : Announced s (beginAnnouncement s)
  | ends (cause : EndCause) (s : State) : Announced s (endAnnouncement cause s)
  | trans {s t u : State} (h : Announced s t) (h' : Announced t u) : Announced s u

theorem Announced.refl {s : State} : Announced s s := .of_zr rfl

theorem Announced.ite {s a b : State} {c : Prop} [Decidable c] (ha : Announced s a) (hb : Announced s b) :
    Announced s (if c then a else b) := by
  split <;> assumption

theorem Within.announced {bs : List Block} {s t : State} (h : Within bs s t) (hb : .zr ∉ bs := by decide) :
    Announced s t := .of_zr (h.zr_eq hb)

/-- Of the lists' classes announcements change TRAFFIC alone. -/
theorem Announced.relisted {s t : State} (h : Announced s t) : Relisted [.traffic] s t := by
  induction h with
  | of_zr h => exact .of_zr h
  | begins s => exact beginAnnouncement_relisted s
  | ends cause s => exact endAnnouncement_relisted cause s
  | trans _ _ ih ih' => exact ih.trans ih'

/-! ### The traffic watch and RX-A's tunes -/

theorem afterClear_announced (cause : ClearCause) (s : State) : Announced s (afterClear cause s) := by
  have cleared := ((Within.ite (c := s.af.state = .low) (modAf_within (fun f => { f with state := .idle, timer := none }) s)
    .refl).trans (modTw_within (fun w => { w with codeHeld := none }) _)).announced
  unfold afterClear
  dsimp only
  split
  · exact cleared.trans (.ends _ _)
  · exact cleared.trans (.ends _ _)
  · exact .ite (cleared.trans (modTw_within _ _).announced) cleared

theorem watchFlags_announced (old new : DataRecord) (flags : Bool) (s : State) :
    Announced s (watchFlags old new flags s) := by
  have held : Within [.tw] s (if new.code != old.code then
      s.modTw (fun w => { w with codeHeld := new.code.map (fun _ => 0) }) else s) := .ite (modTw_within _ s) .refl
  have bridged := (held.trans (Within.ite (c := (flags && new.trafficOn) = true) (bs := [.tw])
    (modTw_within (fun w => { w with bridge := none }) _) .refl)).announced
  unfold watchFlags
  dsimp only
  exact .ite (.ite (bridged.trans (.begins _)) bridged)
    (.ite (bridged.trans (.ends _ _)) bridged)

theorem tuneA_announced (st : Station) (purpose : TunePurpose) (mute : TunerMute) (cause : ClearCause) (s : State) :
    Announced s (tuneA st purpose mute cause s) :=
  ((changeReceiver_within _ _ s).trans (modRx_within _ _)).announced.trans (afterClear_announced cause _)

theorem retune_announced (st : Station) (s : State) : Announced s (retune st s) := tuneA_announced _ _ _ _ s

theorem tuneFor_announced (k : Kind) (st : Station) (s : State) : Announced s (tuneFor k st s) :=
  ((abandonAttempt_within s).trans (abortSeek_within k _)).announced.trans (retune_announced st _)

theorem beginSeek_announced (up : Bool) (s : State) : Announced s (beginSeek up s) :=
  (((changeReceiver_within _ _ s).trans (modRx_within _ _)).announced.trans (afterClear_announced _ _)).trans
    (seekMove_within up _).announced

theorem watchOn_announced (s : State) : Announced s (watchOn s) := by
  have begun : ∀ {c : Prop} [Decidable c], Announced s
      (if c then beginAnnouncement (s.modTw (fun w => { w with on := true, note := none }))
      else s.modTw (fun w => { w with on := true, note := none })) :=
    .ite ((modTw_within _ s).announced.trans (.begins _)) (modTw_within _ s).announced
  unfold watchOn
  dsimp only
  split
  · exact .ite (begun.trans (judgeCarrier_within _).announced) begun
  · exact begun

theorem trafficTimerEnds_announced (x : Rx) (s : State) : Announced s (trafficTimerEnds x s) := by
  unfold trafficTimerEnds
  dsimp only
  refine .ite ?_ .refl
  cases x with
  | a =>
    exact ((changeReceiver_within _ _ s).trans (learnRecord_within _ _ _ _ _)).announced.trans (watchFlags_announced _ _ _ _)
  | b => exact ((changeReceiver_within _ _ s).trans (learnRecord_within _ _ _ _ _)).announced

/-! ### Alternate following -/

theorem tryNext_announced (s : State) : Announced s (tryNext s) := by
  unfold tryNext
  split
  · exact (((post_within _ _ _ s).trans (releaseCheck_within _)).trans (modAf_within _ _)).announced
  · dsimp only
    split
    · exact (modAf_within _ s).announced.trans (tuneA_announced _ _ _ _ _)
    · exact (((modAf_within _ s).trans (orderB_within _ _ _)).trans (modAf_within _ _)).announced
    · exact ((((modAf_within _ s).trans (setHolder_within _ _)).trans (postHolder_within _ _)).trans
        ((orderB_within _ _ _).trans (modAf_within _ _))).announced

theorem beginAttempt_announced (s : State) : Announced s (beginAttempt s) :=
  (modAf_within _ s).announced.trans (tryNext_announced _)

theorem tuneBack_announced (mute : TunerMute) (s : State) : Announced s (tuneBack mute s) := tuneA_announced _ _ _ _ s

theorem reverted_announced (cause : RevertCause) (s : State) : Announced s (reverted cause s) :=
  ((post_within _ _ _ s).announced.trans (tuneBack_announced _ _)).trans (modAf_within _ _).announced

theorem judgeCheck_announced (s : State) : Announced s (judgeCheck s) := by
  refine .ite ?_ .refl
  split
  · exact .refl
  · have passed : Announced s (checkPassed s) :=
      ((releaseCheck_within s).trans (modAf_within _ _)).announced.trans (tuneA_announced _ _ _ _ _)
    exact .ite passed (tryNext_announced s)

theorem judgeVerify_announced (s : State) : Announced s (judgeVerify s) := by
  refine .ite ?_ .refl
  split
  · exact .refl
  · exact .ite (switched_within _ s).announced (reverted_announced _ s)

theorem requestRear_announced (st : Station) (s : State) : Announced s (requestRear st s) := by
  have ordered := ((setHolder_within (.rear st) s).trans (postHolder_within st _)).trans (orderB_within st .tuning _)
  exact .ite .refl (.ite (ordered.announced.trans (tryNext_announced _)) ordered.announced)

theorem endFollowing_announced (s : State) : Announced s (endFollowing s) := by
  unfold endFollowing
  split
  · exact (reverted_announced _ s).trans (followIdle_within _).announced
  · exact .ite (((releaseCheck_within s).announced.trans (tuneBack_announced _ _)).trans (followIdle_within _).announced)
      ((releaseCheck_within s).trans (followIdle_within _)).announced
  · exact (followIdle_within s).announced

theorem blindDecided_announced (m : Measurement) (s : State) : Announced s (blindDecided m s) :=
  .ite (tuneBack_announced _ s) (((lockA_within _ s).trans (modAf_within _ _)).trans (handOn_within .a _ _)).announced

theorem returnSettled_announced (m : Measurement) (s : State) : Announced s (returnSettled m s) := by
  have returned := ((lockA_within (quality s.rx.a.station.band m) s).trans
    (handOn_within .a (quality s.rx.a.station.band m) _)).announced
  unfold returnSettled
  dsimp only
  exact .ite (returned.trans (tryNext_announced _)) returned

/-! ### RX-B and data groups -/

theorem settlesB_announced (m : Measurement) (s : State) : Announced s (settlesB m s) := by
  have measured (q : Nat) (u : State) : Announced u (checkMeasured q u) :=
    .ite (tryNext_announced u) (modAf_within _ u).announced
  exact .ite (.ite ((modB_within _ s).trans (sweepMeasured_within _ _)).announced
    (.ite ((modB_within _ s).announced.trans (measured _ _)) .refl)) .refl

theorem takeGroup_announced (x : Rx) (code : Nat) (p : Payload) (s : State) :
    Announced s (takeGroup x code p s) := by
  have handed (old new : DataRecord) (flags : Bool) (u : State) : Announced u (handRecord x old new flags u) := by
    unfold handRecord
    cases x with
    | a =>
      exact ((learnRecord_within .a old new flags u).announced.trans (watchFlags_announced _ _ _ _)).trans
        (judgeVerify_announced _)
    | b =>
      exact ((learnRecord_within .b old new flags u).announced.trans (judgeCheck_announced _)).trans
        (dwellFilled_within _).announced
  unfold takeGroup
  dsimp only
  refine .ite ?_ .refl
  split
  · exact (changeReceiver_within _ _ s).announced
  · cases x with
    | a => exact (changeReceiver_within _ _ s).announced.trans (afterClear_announced _ _)
    | b => exact (changeReceiver_within _ _ s).announced
  · exact (changeReceiver_within _ _ s).announced.trans (handed _ _ _ _)

end Sys2Proof.Machine
end

section
/-! SUPPORT. Every step keeps every precedence list in order (R44, R49): what each command changes of the lists. -/

-- One declaration at a time: together they would start more threads than the check's memory limit has stacks for.
set_option Elab.async false

namespace Sys2Proof.Machine

/-! ### The requests' answers -/

theorem request_relisted {ks : List Class} {k : Kind} {body : Bytes} {act : State → Answer} {s : State}
    (ha : ∀ u, Relisted ks u (act u).state) : Relisted ks s (request k body act s) :=
  request_keeps (P := Relisted ks s) (fun _ _ _ _ hu => hu.trans (.of_zr rfl)) (arrival_relisted _ s)
    (fun u _ hu => hu.trans (ha u))

theorem refuse_relisted {ks : List Class} {s : State} {status : Status} : Relisted ks s (refuse s status).state := .refl

theorem changeHpBase_relisted {ks : List Class} (h : Hp) (src : Option Source) (s : State) :
    Relisted ks s (changeHpBase h src s) :=
  .ite ((setHpBase_relisted h src s).trans (releaseB_within _).relisted) (setHpBase_relisted h src s)

theorem answerInstall_relisted {ks : List Class} (body : Bytes) (s : State) :
    Relisted ks s (answerInstall body s).state := by
  unfold answerInstall
  repeat' split
  any_goals with_reducible exact refuse_relisted
  exact (modInstall_within _ s).relisted.trans (installEffect_relisted _ _ _)

theorem answerSelect_relisted {ks : List Class} (body : Bytes) (s : State) : Relisted ks s (answerSelect body s).state := by
  unfold answerSelect
  repeat' split
  any_goals with_reducible exact refuse_relisted
  · exact setCabinBase_relisted _ s
  · exact changeHpBase_relisted _ _ s

theorem setCabinStep_relisted {ks : List Class} (cls : Class) (n : Nat) (s : State) :
    Relisted ks s (setCabinStep cls n s) := by
  have stepped : Relisted ks s (modCabin (fun c => c.setStep cls n) s) := .of_listOf fun z => by cases z <;> rfl
  exact .ite (stepped.trans (restartCanceller_within _).relisted) stepped

theorem answerVolume_relisted {ks : List Class} (body : Bytes) (s : State) : Relisted ks s (answerVolume body s).state := by
  unfold answerVolume
  dsimp only
  repeat' split
  any_goals with_reducible exact refuse_relisted
  all_goals rw [accept_state]
  · exact setCabinStep_relisted _ _ s
  · exact modHp_relisted _ s (fun _ => rfl)
  · exact modHp_relisted _ s (fun _ => rfl)

theorem answerMute_relisted {ks : List Class} (body : Bytes) (s : State) : Relisted ks s (answerMute body s).state := by
  unfold answerMute
  repeat' split
  any_goals with_reducible exact refuse_relisted
  exact setMuteFlag_relisted _ _ s

/-- A change of the Zone Router that leaves the zones' and the headphones' records alone changes no list. -/
theorem modZr_relisted {ks : List Class} {f : ZoneRouter → ZoneRouter} (s : State)
    (hf : (f s.zr).zones = s.zr.zones ∧ (f s.zr).hps = s.zr.hps) : Relisted ks s (s.modZr f) := by
  obtain ⟨hzones, hhps⟩ := hf
  refine .of_listOf fun z => ?_
  cases z <;> simp only [listOf, State.modZr_zr, hzones, hhps]

theorem modCabin_relisted {ks : List Class} (f : CabinSettings → CabinSettings) (s : State) :
    Relisted ks s (modCabin f s) := modZr_relisted s ⟨rfl, rfl⟩

theorem answerBalance_relisted {ks : List Class} (body : Bytes) (s : State) : Relisted ks s (answerBalance body s).state := by
  unfold answerBalance
  split
  · rw [accept_state]
    exact modCabin_relisted _ s
  · exact refuse_relisted

theorem answerTrim_relisted {ks : List Class} (body : Bytes) (s : State) : Relisted ks s (answerTrim body s).state := by
  unfold answerTrim
  repeat' split
  any_goals with_reducible exact refuse_relisted
  rw [accept_state]
  exact modZr_relisted s ⟨rfl, rfl⟩

theorem answerDuck_relisted {ks : List Class} (body : Bytes) (s : State) : Relisted ks s (answerDuck body s).state := by
  unfold answerDuck
  repeat' split
  any_goals with_reducible exact refuse_relisted
  rw [accept_state]
  exact modZr_relisted s ⟨rfl, rfl⟩

theorem answerSpeedLift_relisted {ks : List Class} (body : Bytes) (s : State) :
    Relisted ks s (answerSpeedLift body s).state := by
  unfold answerSpeedLift
  split
  · rw [accept_state]
    exact modCabin_relisted _ s
  · exact refuse_relisted

theorem answerRearQuiet_relisted {ks : List Class} (body : Bytes) (s : State) :
    Relisted ks s (answerRearQuiet body s).state := by
  unfold answerRearQuiet
  repeat' split
  any_goals with_reducible exact refuse_relisted
  all_goals exact (modCabin_relisted (fun c => { c with rearQuiet := _ }) s :)

theorem answerCeiling_relisted {ks : List Class} (body : Bytes) (s : State) : Relisted ks s (answerCeiling body s).state := by
  unfold answerCeiling
  dsimp only
  repeat' split
  any_goals with_reducible exact refuse_relisted
  rw [accept_state]
  exact modHp_relisted _ s (fun _ => rfl)

theorem answerPrompts_relisted {ks : List Class} {act : List Cabin → State → State} (h : ∀ zs s, Relisted ks s (act zs s))
    (body : Bytes) (s : State) : Relisted ks s (answerPrompts act body s).state := by
  unfold answerPrompts
  repeat' split
  any_goals with_reducible exact refuse_relisted
  exact h _ s

theorem answerTune_relisted (body : Bytes) (s : State) : Relisted [.traffic] s (answerTune body s).state := by
  unfold answerTune
  repeat' split
  any_goals with_reducible exact refuse_relisted
  exact (tuneFor_announced _ _ s).relisted

theorem answerStep_relisted (body : Bytes) (s : State) : Relisted [.traffic] s (answerStep body s).state := by
  unfold answerStep
  split
  · exact (tuneFor_announced _ _ s).relisted
  · exact refuse_relisted

theorem answerSeek_relisted (body : Bytes) (s : State) : Relisted [.traffic] s (answerSeek body s).state := by
  unfold answerSeek
  repeat' split
  any_goals with_reducible exact refuse_relisted
  exact ((abandonAttempt_within s).announced.trans (beginSeek_announced _ _)).relisted

theorem answerFollow_relisted (body : Bytes) (s : State) : Relisted [.traffic] s (answerFollow body s).state := by
  unfold answerFollow
  repeat' split
  any_goals with_reducible exact refuse_relisted
  all_goals rw [accept_state]
  · exact (modAf_within _ s).relisted
  · exact ((endFollowing_announced s).trans (modAf_within _ _).announced).relisted

theorem answerTrafficWatch_relisted (body : Bytes) (s : State) :
    Relisted [.traffic] s (answerTrafficWatch body s).state := by
  unfold answerTrafficWatch
  dsimp only
  split
  · split
    · exact .ite (.ite (modTw_within _ s).relisted ((modTw_within _ s).announced.trans (watchOn_announced _)).relisted)
        (((modTw_within _ s).trans (modTw_within _ _)).relisted.trans (endAnnouncement_relisted _ _))
    · exact refuse_relisted
  · exact refuse_relisted

theorem answerRearTune_relisted (body : Bytes) (s : State) : Relisted [.traffic] s (answerRearTune body s).state := by
  unfold answerRearTune
  repeat' split
  any_goals with_reducible exact refuse_relisted
  · exact changeHpBase_relisted _ _ s
  · exact (setHpBase_relisted _ _ s).trans (requestRear_announced _ _).relisted

theorem answerCallState_relisted (body : Bytes) (s : State) :
    Relisted [.call, .traffic] s (answerCallState body s).state := by
  unfold answerCallState
  repeat' split
  any_goals with_reducible exact refuse_relisted
  exact changeCall_relisted _ s

theorem answerCallRoute_relisted (body : Bytes) (s : State) :
    Relisted [.call, .traffic] s (answerCallRoute body s).state := by
  unfold answerCallRoute
  dsimp only
  repeat' split
  any_goals with_reducible exact refuse_relisted
  · exact .refl
  · exact moveRoute_relisted _ _ s
  · exact .refl
  · exact moveRoute_relisted _ _ s

theorem answerStartAudio_relisted (s : State) : Relisted [.traffic] s (answerStartAudio s).state := by
  have running : Relisted [.traffic] s
      (setWatchdog (.counting s.safety.config.watchdogMs) (s.modSc (fun c => { c with opState := .run }))) := .of_zr rfl
  have started : Relisted [.traffic] s (startAudio s) := by
    unfold startAudio
    exact ((running.trans ((Within.foldl startOnResult_within Amp.all _).trans (startOthers_within _)).relisted).trans
      (retune_announced _ _).relisted).trans (startHolder_within _).relisted
  unfold answerStartAudio
  split
  · exact refuse_relisted
  · split
    · exact refuse_relisted
    · split
      · exact refuse_relisted
      · rw [accept_state]
        exact started

/-! ### Every command -/

/-- The classes whose zones a command may change. STANDBY and the resets, which change them all, are not described. -/
def Instr.relists : Instr → List Class
  | .promptStart _ | .promptEnd _ => [.prompt]
  | .chimeRequest _ | .chimeCancel _ | .voicePhaseEnd _ => [.chime]
  | .watchdogExpiry => [.prompt, .chime]
  | .callState _ | .callRoute _ | .jackStateChange _ _ => [.call, .traffic]
  | _ => [.traffic]

/-- STANDBY, RESTART and the power-on reset, which leave BASE entries alone in the lists (R14, R21, R53). -/
def Instr.clearsLists : Instr → Bool
  | .powerOnReset | .restart _ | .standby _ => true
  | _ => false

/-- Every other command keeps the lists in order and changes the zones of its own classes alone. -/
theorem exec_relisted {i : Instr} {s t : State} (h : exec i s = .next t) (hi : Instr.clearsLists i = false) :
    Relisted (Instr.relists i) s t := by
  have next {u : State} (hu : exec i s = .next u) : u = t := Host.Outcome.next.inj (hu.symm.trans h)
  have settled {u : State} {ks : List Class} (hu : Relisted ks s u) : Relisted ks s (settle u) := hu.trans (.of_zr rfl)
  by_cases hb : (Instr.changes i).contains .zr = false
  · have hzr : .zr ∉ Instr.changes i := by simpa using hb
    cases exec_touched i s t h with
    | event h => exact .of_zr (h .zr (by simpa using hzr))
    | frame kind h => exact (arrival_relisted kind s).trans (.of_zr (h .zr (by simpa using hzr)))
  cases i with
  | powerOnReset => simp [Instr.clearsLists] at hi
  | restart _ => simp [Instr.clearsLists] at hi
  | standby _ => simp [Instr.clearsLists] at hi
  | initialisationComplete => exact next rfl ▸ .ite (settled (initialised_relisted s)) .refl
  | setInstall body => exact next rfl ▸ request_relisted (answerInstall_relisted body)
  | startAudio body => exact next rfl ▸ request_relisted answerStartAudio_relisted
  | selectSource body => exact next rfl ▸ request_relisted (answerSelect_relisted body)
  | setVolume body => exact next rfl ▸ request_relisted (answerVolume_relisted body)
  | setMute body => exact next rfl ▸ request_relisted (answerMute_relisted body)
  | setBalanceFader body => exact next rfl ▸ request_relisted (answerBalance_relisted body)
  | setSourceTrim body => exact next rfl ▸ request_relisted (answerTrim_relisted body)
  | setClassDuck body => exact next rfl ▸ request_relisted (answerDuck_relisted body)
  | setSpeedLift body => exact next rfl ▸ request_relisted (answerSpeedLift_relisted body)
  | setRearQuiet body => exact next rfl ▸ request_relisted (answerRearQuiet_relisted body)
  | setRearCeiling body => exact next rfl ▸ request_relisted (answerCeiling_relisted body)
  | promptStart body => exact next rfl ▸ request_relisted (answerPrompts_relisted startPrompts_relisted body)
  | promptEnd body => exact next rfl ▸ request_relisted (answerPrompts_relisted endPrompts_relisted body)
  | chimeRequest body => exact next rfl ▸ request_relisted (answerChime_relisted body)
  | chimeCancel body => exact next rfl ▸ request_relisted (fun u => (answerCancel_sounded body u).lists)
  | tune body => exact next rfl ▸ request_relisted (answerTune_relisted body)
  | step body => exact next rfl ▸ request_relisted (answerStep_relisted body)
  | seek body => exact next rfl ▸ request_relisted (answerSeek_relisted body)
  | setFollow body => exact next rfl ▸ request_relisted (answerFollow_relisted body)
  | setTrafficWatch body => exact next rfl ▸ request_relisted (answerTrafficWatch_relisted body)
  | trafficSkip body => exact next rfl ▸ request_relisted (fun u => endAnnouncement_relisted _ u)
  | rearTune body => exact next rfl ▸ request_relisted (answerRearTune_relisted body)
  | callState body => exact next rfl ▸ request_relisted (answerCallState_relisted body)
  | callRoute body => exact next rfl ▸ request_relisted (answerCallRoute_relisted body)
  | watchdogExpiry => exact next rfl ▸ settled (watchdogExpires_relisted s)
  | clockLoss =>
    have lost : Relisted [.traffic] s (loseClock s) :=
      (modZr_relisted (f := fun r => { r with clockLost := true, lostMs := 0 }) s ⟨rfl, rfl⟩).trans
        (post_within _ _ _ _).relisted
    exact next rfl ▸ .ite (settled lost) .refl
  | clockReturn => exact next rfl ▸ .ite (settled (restoreClock_relisted s)) .refl
  | voicePhaseEnd v => exact next rfl ▸ settled (voicePhaseEnds_sounded v s).lists
  | rxBSettleEnd m => exact next rfl ▸ settled (settlesB_announced m s).relisted
  | dataGroup x code p => exact next rfl ▸ settled (takeGroup_announced x code p s).relisted
  | trafficTimerRunout x => exact next rfl ▸ settled (trafficTimerEnds_announced x s).relisted
  | lowTimerRunout => exact next rfl ▸ .ite (settled (beginAttempt_announced s).relisted) .refl
  | checkTimeout => exact next rfl ▸ .ite (settled (tryNext_announced s).relisted) .refl
  | blindCheckDecision m => exact next rfl ▸ .ite (settled (blindDecided_announced m s).relisted) .refl
  | afReturnSettleEnd m => exact next rfl ▸ .ite (settled (returnSettled_announced m s).relisted) .refl
  | verifyTimeout => exact next rfl ▸ .ite (settled (reverted_announced _ s).relisted) .refl
  | bridgeTimerRunout => exact next rfl ▸ .ite (settled (endAnnouncement_relisted _ s)) .refl
  | jackStateChange p inserted =>
    exact next rfl ▸ .ite (settled ((modPins_within _ s).relisted.trans (jackChanges_relisted p inserted _)))
      (modPins_within _ s).relisted
  | _ => exact absurd rfl hb

/-! ### Every step -/

theorem listsOk_of_reset {t : State} (h : t.zr = ZoneRouter.reset) : ListsOk t :=
  (Relisted.of_zr (ks := []) (s := State.reset) h).fits (by decide)

theorem answerStandby_fits {s : State} (hs : ListsOk s) : ListsOk (answerStandby s).state := by
  unfold answerStandby
  split
  · exact hs
  · split
    · exact hs
    · rw [accept_state, enterStandby_eq]
      have hzr : (silenceChimes s.unwatched).zr = s.zr :=
        ((unwatched_within s).zr_eq).trans rfl
      have hsilenced : ListsOk s.silenced := reduceLists_fits ((Relisted.of_zr (ks := []) hzr).fits hs)
      exact ((settle_within s.silenced).trans (standbyOff_within false _)).relisted (ks := []) |>.fits hsilenced

theorem exec_listsOk {i : Instr} {s t : State} (hs : ListsOk s) (h : exec i s = .next t) : ListsOk t := by
  have next {u : State} (hu : exec i s = .next u) : u = t := Host.Outcome.next.inj (hu.symm.trans h)
  cases hi : Instr.clearsLists i
  case false => exact (exec_relisted h hi).fits hs
  cases i with
  | powerOnReset => exact next rfl ▸ listsOk_of_reset rfl
  | restart body =>
    exact next rfl ▸ request_keeps (P := ListsOk) (fun _ _ _ _ hu => hu) ((arrival_relisted (ks := []) _ s).fits hs)
      (fun _ _ _ => listsOk_of_reset rfl)
  | standby body =>
    exact next rfl ▸ request_keeps (P := ListsOk) (fun _ _ _ _ hu => hu) ((arrival_relisted (ks := []) _ s).fits hs)
      (fun u _ hu => answerStandby_fits hu)
  | _ => simp [Instr.clearsLists] at hi

/-- Settles O25: every command changes the lists by insertions in place, removals and changes of the base source, and TRAFFIC and
CALL make way for each other. -/
theorem precedenceListsStayInOrder : Obligations.PrecedenceListsStayInOrder := by
  unfold Obligations.PrecedenceListsStayInOrder
  intro s t hs hstep
  rcases step_cases hstep with ⟨_, rfl⟩ | ⟨i, rest, _, hexec⟩
  · exact hs
  · exact exec_listsOk (s := s.setPending rest) hs hexec

end Sys2Proof.Machine
end

section
/-! SUPPORT. Which voice plays which pattern (R86, R90), and with it the CHIME entries after a request and at fail-safe entry
(R87, R88, R93, R97). -/

-- One declaration at a time: together they would start more threads than the check's memory limit has stacks for.
set_option Elab.async false

namespace Sys2Proof.Machine

/-! ### Patterns and their voices -/

/-- The queue's patterns, each with the voice that plays it. -/
def keysOf (s : State) : List (PatternId × Option VoiceId) := s.chimes.queue.map (fun e => (e.pattern, e.voice))

/-- No pattern stands twice in the queue, and a voice named by an entry plays the entry's pattern (R86, R90). -/
structure Voiced (s : State) : Prop where
  distinct : ((keysOf s).map Prod.fst).Nodup
  plays : ∀ p v, (p, some v) ∈ keysOf s → (voiceOf s v).map Voice.pattern = some p

theorem ChimesOk.voiced {s : State} (hs : ChimesOk s) : Voiced s := by
  obtain ⟨_, hnodup, hplays, _⟩ := hs
  refine ⟨?_, fun p v h => ?_⟩
  · rw [keysOf, List.map_map]
    exact hnodup
  · obtain ⟨e, he, hkey⟩ := List.mem_map.1 h
    obtain ⟨rfl, hv⟩ := Prod.mk.inj hkey
    exact hplays e he v (by cases v <;> simp) hv

/-- The entries of one pattern are one entry. -/
theorem Voiced.eq_of_pattern {s : State} (hs : Voiced s) {x y : ChimeEntry} (hx : x ∈ s.chimes.queue)
    (hy : y ∈ s.chimes.queue) (h : x.pattern = y.pattern) : x = y := by
  have hnodup : (s.chimes.queue.map ChimeEntry.pattern).Nodup := by
    have hdistinct := hs.distinct
    rwa [keysOf, List.map_map] at hdistinct
  exact List.inj_on_of_nodup_map hnodup hx hy h

section
variable {s t : State}

theorem Voiced.of_patterns (hs : Voiced s) (hkeys : keysOf t = keysOf s)
    (hvoice : ∀ v, (voiceOf t v).map Voice.pattern = (voiceOf s v).map Voice.pattern) : Voiced t := by
  refine ⟨hkeys ▸ hs.distinct, fun p v h => ?_⟩
  rw [hvoice]
  exact hs.plays p v (hkeys ▸ h)

theorem Voiced.of_keys (hs : Voiced s) (hkeys : keysOf t = keysOf s) (hvoice : ∀ v, voiceOf t v = voiceOf s v) :
    Voiced t := hs.of_patterns hkeys fun v => by rw [hvoice]

/-- A voice that no entry names takes the entry of a pattern and plays it. -/
theorem Voiced.take {p : PatternId} {v : VoiceId} (hs : Voiced s) (hfree : ∀ q, (q, some v) ∉ keysOf s)
    (hkeys : keysOf t = (keysOf s).map (fun k => if k.1 == p then (k.1, some v) else k))
    (hplays : (voiceOf t v).map Voice.pattern = some p) (hother : ∀ w, w ≠ v → voiceOf t w = voiceOf s w) : Voiced t := by
  refine ⟨?_, fun q w h => ?_⟩
  · have hfst : (keysOf t).map Prod.fst = (keysOf s).map Prod.fst := by
      rw [hkeys, List.map_map]
      refine List.map_congr_left fun k _ => ?_
      simp only [Function.comp_apply]
      split <;> rfl
    exact hfst ▸ hs.distinct
  · rw [hkeys] at h
    obtain ⟨k, hk, hkey⟩ := List.mem_map.1 h
    split at hkey
    · obtain ⟨hq, hw⟩ := Prod.mk.inj hkey
      obtain rfl := Option.some.inj hw
      rw [hplays, ← hq]
      exact congrArg some (beq_iff_eq.1 ‹_›).symm
    · subst hkey
      rw [hother w fun hw => hfree q (hw ▸ hk)]
      exact hs.plays q w hk

/-- A voice is taken from the entry of the pattern it plays, and no entry names it then. -/
theorem Voiced.release {p : PatternId} {v : VoiceId} (hs : Voiced s) (hx : (voiceOf s v).map Voice.pattern = some p)
    (hkeys : keysOf t = (keysOf s).map (fun k => if k.1 == p then (k.1, none) else k))
    (hother : ∀ w, w ≠ v → voiceOf t w = voiceOf s w) : Voiced t ∧ ∀ q, (q, some v) ∉ keysOf t := by
  have hold {q : PatternId} {w : VoiceId} (h : (q, some w) ∈ keysOf t) : (q, some w) ∈ keysOf s ∧ q ≠ p := by
    rw [hkeys] at h
    obtain ⟨k, hk, hkey⟩ := List.mem_map.1 h
    split at hkey
    · simp at hkey
    · rename_i hne
      subst hkey
      exact ⟨hk, by simpa using hne⟩
  have hfree (q : PatternId) : (q, some v) ∉ keysOf t := fun h => by
    obtain ⟨hq, hne⟩ := hold h
    exact hne (Option.some.inj ((hs.plays q v hq).symm.trans hx))
  refine ⟨⟨?_, fun q w h => ?_⟩, hfree⟩
  · have hfst : (keysOf t).map Prod.fst = (keysOf s).map Prod.fst := by
      rw [hkeys, List.map_map]
      refine List.map_congr_left fun k _ => ?_
      simp only [Function.comp_apply]
      split <;> rfl
    exact hfst ▸ hs.distinct
  · rw [hother w fun hw => hfree q (hw ▸ h)]
    exact hs.plays q w (hold h).1

/-- The entry of a pattern leaves, and with it at most the voice that it alone named. -/
theorem Voiced.drop {p : PatternId} (hs : Voiced s) (hkeys : keysOf t = (keysOf s).filter (fun k => k.1 != p))
    (hother : ∀ w, voiceOf t w = voiceOf s w ∨ ∀ q, (q, some w) ∈ keysOf s → q = p) : Voiced t := by
  refine ⟨?_, fun q w h => ?_⟩
  · rw [hkeys]
    exact hs.distinct.sublist (List.filter_sublist.map _)
  · rw [hkeys] at h
    obtain ⟨hq, hne⟩ := List.mem_filter.1 h
    rcases hother w with hw | hw
    · rw [hw]
      exact hs.plays q w hq
    · simp [hw q hq] at hne

end

/-! ### Keys and voices under each operation -/

theorem keysOf_modEntry {p : PatternId} {f : ChimeEntry → ChimeEntry} (w : ChimeEntry → Option VoiceId)
    (hf : ∀ e, (f e).pattern = e.pattern ∧ (f e).voice = w e) (s : State) :
    keysOf (modEntry p f s) =
      s.chimes.queue.map (fun e => if e.pattern == p then (e.pattern, w e) else (e.pattern, e.voice)) := by
  rw [keysOf, modEntry_queue, List.map_map]
  refine List.map_congr_left fun e _ => ?_
  simp only [Function.comp_apply]
  split
  · exact Prod.ext (hf e).1 (hf e).2
  · rfl

/-- A change of entries that keeps their patterns and voices. -/
theorem keysOf_modEntry_same {p : PatternId} {f : ChimeEntry → ChimeEntry}
    (hf : ∀ e, (f e).pattern = e.pattern ∧ (f e).voice = e.voice) (s : State) : keysOf (modEntry p f s) = keysOf s := by
  rw [keysOf_modEntry ChimeEntry.voice hf]
  simp only [ite_self]
  rfl

/-- The entry of a pattern given a voice, or none. -/
theorem keysOf_modEntry_voice {p : PatternId} {f : ChimeEntry → ChimeEntry} (w : Option VoiceId)
    (hf : ∀ e, (f e).pattern = e.pattern ∧ (f e).voice = w) (s : State) :
    keysOf (modEntry p f s) = (keysOf s).map (fun k => if k.1 == p then (k.1, w) else k) := by
  rw [keysOf_modEntry (fun _ => w) hf, keysOf, List.map_map]
  rfl

theorem keysOf_congr {s t : State} (h : t.chimes.queue = s.chimes.queue) : keysOf t = keysOf s := by
  rw [keysOf, keysOf, h]

theorem keysOf_setVoice (v : VoiceId) (x : Option Voice) (s : State) : keysOf (setVoice v x s) = keysOf s :=
  keysOf_congr (setVoice_queue v x s).1

theorem keysOf_noteReroute (p : PatternId) (pos : SegmentPosition) (zs : List Cabin) (s : State) :
    keysOf (noteReroute p pos zs s) = keysOf s := by
  unfold noteReroute
  split
  · split
    · rfl
    · exact (keysOf_congr rfl).trans
        (keysOf_modEntry_same (f := fun e => { e with rerouted := true }) (fun _ => ⟨rfl, rfl⟩) s)
  · rfl

theorem voiceOf_noteReroute (p : PatternId) (pos : SegmentPosition) (zs : List Cabin) (s : State) (v : VoiceId) :
    voiceOf (noteReroute p pos zs s) v = voiceOf s v := by
  unfold noteReroute
  split
  · split
    · rfl
    · cases v <;> rfl
  · rfl

theorem keysOf_beginTone (v : VoiceId) (x : Voice) (s : State) : keysOf (beginTone v x s) = keysOf s :=
  (keysOf_noteReroute _ _ _ _).trans (keysOf_setVoice v _ s)

/-- A voice that begins a tone plays its pattern; the other voice plays what it played. -/
theorem voiceOf_beginTone (v w : VoiceId) (x : Voice) (s : State) :
    (voiceOf (beginTone v x s) v).map Voice.pattern = some x.pattern ∧
      (w ≠ v → voiceOf (beginTone v x s) w = voiceOf s w) := by
  unfold beginTone
  dsimp only
  simp only [voiceOf_noteReroute, voiceOf_setVoice]
  exact ⟨by simp, fun hw => if_neg hw⟩

theorem insertChimes_chimes (s : State) : (insertChimes s).chimes = s.chimes := by
  rw [insertChimes_eq]

/-! ### The voices' turns -/

/-- A free voice takes the first waiting entry. -/
theorem takeEntry_voiced {v : VoiceId} {s : State} (hs : Voiced s) (hfree : ∀ q, (q, some v) ∉ keysOf s) :
    Voiced (takeEntry v s) := by
  unfold takeEntry
  split
  · exact hs
  · rename_i e _
    dsimp only
    have hvoices (w : VoiceId) := voiceOf_beginTone v w
      { pattern := e.pattern, rep := e.reached, seg := 1, phase := .tone, remaining := 0, start := s.chimes.nextStart
        level := 0, paths := [] }
      ((modEntry e.pattern (fun e => { e with voice := some v, played := true }) s).modChimes
        (fun c => { c with nextStart := c.nextStart + 1 }))
    refine Voiced.of_keys (Voiced.take hs hfree (p := e.pattern) ?_ (hvoices v).1 fun w hw => ?_)
      (keysOf_congr (congrArg ChimeUnit.queue (insertChimes_chimes _))) fun w => by rw [voiceOf_congr (insertChimes_chimes _)]
    · rw [keysOf_beginTone]
      exact (keysOf_congr rfl).trans
        (keysOf_modEntry_voice (f := fun e => { e with voice := some v, played := true }) (some v) (fun _ => ⟨rfl, rfl⟩) s)
    · refine ((hvoices w).2 hw).trans ?_
      cases w <;> rfl

theorem takeIfIdle_voiced (v : VoiceId) {s : State} (hs : Voiced s) : Voiced (takeIfIdle v s) := by
  unfold takeIfIdle
  split
  · rename_i hidle
    refine takeEntry_voiced hs fun q hq => ?_
    have hplays := hs.plays q v hq
    rw [Option.isNone_iff_eq_none.1 hidle] at hplays
    simp at hplays
  · exact hs

theorem lowerRanked_plays {s : State} {v : VoiceId} {x : Voice} (h : lowerRanked s = some (v, x)) :
    voiceOf s v = some x := by
  unfold lowerRanked at h
  split at h
  · dsimp only at h
    split at h <;> obtain ⟨rfl, rfl⟩ := Prod.mk.inj (Option.some.inj h) <;> assumption
  · simp at h

theorem preempt_voiced {s : State} (hs : Voiced s) : Voiced (preempt s) := by
  unfold preempt
  split
  · split
    · rename_i v x e hlow _ _
      have hplays := lowerRanked_plays hlow
      obtain ⟨hreleased, hfree⟩ : Voiced (setVoice v none (modEntry x.pattern (fun e => { e with voice := none }) s)) ∧
          ∀ q, (q, some v) ∉ keysOf (setVoice v none (modEntry x.pattern (fun e => { e with voice := none }) s)) := by
        refine hs.release (p := x.pattern) (by rw [hplays]; rfl) ?_ fun w hw => ?_
        · rw [keysOf_setVoice]
          exact keysOf_modEntry_voice (f := fun e => { e with voice := none }) none (fun _ => ⟨rfl, rfl⟩) s
        · rw [voiceOf_setVoice, if_neg hw]
          cases w <;> rfl
      exact (takeEntry_voiced hreleased hfree).of_keys (keysOf_congr (congrArg ChimeUnit.queue (removeChimes_chimes _)))
        fun w => by rw [voiceOf_congr (removeChimes_chimes _)]
    · exact hs
  · exact hs

theorem voicesLook_voiced {s : State} (hs : Voiced s) : Voiced (voicesLook s) :=
  preempt_voiced (takeIfIdle_voiced .v2 (takeIfIdle_voiced .v1 hs))

/-! ### The cuts at fail-safe entry -/

theorem keysOf_endEntry (e : ChimeEntry) (cause : ChimeEnd) (s : State) :
    keysOf (endEntry e cause s) = (keysOf s).filter (fun k => k.1 != e.pattern) := by
  rw [keysOf, (endEntry_queue e cause s).1, keysOf, List.filter_map]
  rfl

/-- An entry cut short: only its own voice stops. -/
theorem cutEntry_voiced {s : State} {e : ChimeEntry} (hs : Voiced s)
    (he : ∀ v, e.voice = some v → ∀ q, (q, some v) ∈ keysOf s → q = e.pattern) :
    Voiced (cutEntry s e) ∧ keysOf (cutEntry s e) ⊆ keysOf s := by
  rcases cutEntry_cases s e with ⟨_, heq⟩ | ⟨_, _, heq⟩ | ⟨_, _, heq⟩ <;> rw [heq]
  · exact ⟨hs, List.Subset.refl _⟩
  · refine ⟨hs.drop (keysOf_endEntry e _ s) fun w => ?_, ?_⟩
    · by_cases hw : e.voice = some w
      · exact .inr (he w hw)
      · exact .inl (voiceOf_endEntry _ s hw)
    · rw [keysOf_endEntry]
      exact List.filter_subset_self _
  · have hkeys := keysOf_modEntry_same (p := e.pattern) (f := ChimeEntry.lastRepeat) (fun _ => ⟨rfl, rfl⟩) s
    exact ⟨hs.of_keys hkeys fun v => by cases v <;> rfl, hkeys ▸ List.Subset.refl _⟩

theorem foldl_cutEntry_voiced {l : List ChimeEntry} {s : State} (hs : Voiced s)
    (hl : ∀ e ∈ l, ∀ v, e.voice = some v → ∀ q, (q, some v) ∈ keysOf s → q = e.pattern) :
    Voiced (l.foldl cutEntry s) := by
  induction l generalizing s with
  | nil => exact hs
  | cons e l ih =>
    obtain ⟨hcut, hsub⟩ := cutEntry_voiced hs (hl e List.mem_cons_self)
    exact ih hcut fun x hx v hv q hq => hl x (List.mem_cons_of_mem _ hx) v hv q (hsub hq)

theorem afterCuts_voiced {s : State} (hs : Voiced s) : Voiced (afterCuts s) := by
  refine voicesLook_voiced (foldl_cutEntry_voiced hs fun e he v hv q hq => ?_)
  have hkey : (e.pattern, some v) ∈ keysOf s := hv ▸ List.mem_map_of_mem he
  exact Option.some.inj ((hs.plays q v hq).symm.trans (hs.plays e.pattern v hkey))

/-! ### A request's entry -/

/-- A merge brings the CHIME entries to the zones it adds to a playing entry, and none to those of a waiting one. -/
theorem mergeChime_follow {s : State} {e : ChimeEntry} (t : Pattern) (zones : CabinSet) (hs : Voiced s)
    (he : e ∈ s.chimes.queue) (hfollow : ChimesFollow s) : ChimesFollow (mergeChime e t zones s) := by
  unfold mergeChime
  dsimp only
  cases hv : e.voice with
  | none =>
    refine (modEntry_sounded (p := e.pattern) (f := ChimeEntry.merged t zones) fun y hy hp => ?_).follow hfollow
    rw [hs.eq_of_pattern hy he hp]
    exact ⟨rfl, fun h => by simp [hv] at h⟩
  | some v =>
    have hplays := hs.plays e.pattern v (hv ▸ List.mem_map_of_mem he)
    obtain ⟨x, hx, -⟩ := Option.map_eq_some_iff.1 hplays
    have hx' : voiceOf (modEntry e.pattern (ChimeEntry.merged t zones) s) v = some x := by
      rw [← hx]
      cases v <;> rfl
    have hmerged (c : Cabin) (hc : playsIn s c = true) :
        playsIn (modEntry e.pattern (ChimeEntry.merged t zones) s) c = true :=
      playsIn_modEntry_of (f := ChimeEntry.merged t zones) (fun _ h => h)
        (fun y c hy => by simp [ChimeEntry.merged, CabinSet.union, hy]) hc
    show ChimesFollow (joinTone v e.pattern (zones.minus e.zones) (modEntry e.pattern (ChimeEntry.merged t zones) s))
    unfold joinTone
    rw [hx']
    dsimp only
    refine insertChimes_follow hfollow ?_ fun c hc => ?_
    · exact ((setVoice_within v _ _).trans (noteReroute_within _ _ _ _)).zr_eq
    · rw [playsIn_noteReroute, playsIn_setVoice]
      exact hmerged c hc

/-- A waiting entry that is displaced takes no CHIME entry with it. -/
theorem dropEntry_sounded {s : State} {e : ChimeEntry} (hs : Voiced s) (he : e ∈ s.chimes.queue) (hv : e.voice = none) :
    Sounded s (dropEntry e.pattern s) := by
  refine .of_plays rfl fun c => Bool.eq_iff_iff.2 ⟨playsIn_dropEntry, fun hc => ?_⟩
  obtain ⟨y, hy, hvoice, hzone⟩ := playsIn_iff.1 hc
  refine playsIn_iff.2 ⟨y, List.mem_filter.2 ⟨hy, ?_⟩, hvoice, hzone⟩
  rw [bne_iff_ne]
  intro hp
  rw [hs.eq_of_pattern hy he hp, hv] at hvoice
  simp at hvoice

theorem takeChime_follow {s : State} (p : PatternId) (t : Pattern) (zones : CabinSet) (hs : Voiced s)
    (hfollow : ChimesFollow s) : ChimesFollow (takeChime p t zones s).1 := by
  unfold takeChime
  split
  · rename_i e he
    exact (voicesLook_sounded _).follow (mergeChime_follow t zones hs (List.mem_of_find?_eq_some he) hfollow)
  · split
    · exact (voicesLook_sounded _).follow ((placeChime_sounded (by rfl) s).follow hfollow)
    · split
      · exact hfollow
      · rename_i e hlast
        split
        · obtain ⟨he, hvoice⟩ := List.mem_filter.1 (List.mem_of_getLast? hlast)
          have dropped := dropEntry_sounded hs he (Option.isNone_iff_eq_none.1 hvoice)
          refine (voicesLook_sounded _).follow ((placeChime_sounded (by rfl) _).follow ?_)
          exact dropped.follow hfollow
        · exact hfollow

theorem answerChime_follow {s : State} (body : Bytes) (hs : Voiced s) (hfollow : ChimesFollow s) :
    ChimesFollow (answerChime body s).state := by
  unfold answerChime
  dsimp only
  repeat' split
  any_goals with_reducible exact refuse_sounded.follow hfollow
  · exact takeChime_follow _ _ _ hs hfollow
  · exact takeChime_follow _ _ _ hs hfollow

theorem failsafeChime_follow {s : State} (hs : Voiced s) (hfollow : ChimesFollow s) : ChimesFollow (failsafeChime s) := by
  unfold failsafeChime
  split
  · exact hfollow
  · split
    · exact hfollow
    · split
      · exact takeChime_follow _ _ _ hs hfollow
      · exact hfollow

/-- The CHIME entries stand where a voice plays in two states with the same chimes, of whose classes CHIME has not changed. -/
theorem ChimesFollow.of_relisted {ks : List Class} {s t : State} (hs : ChimesFollow s) (h : Relisted ks s t)
    (hqueue : t.chimes.queue = s.chimes.queue) (hks : .chime ∉ ks := by decide) : ChimesFollow t := fun c => by
  rw [h.others .chime hks, playsIn_congr hqueue]
  exact hs c

theorem watchdogExpires_follow {s : State} (hs : Voiced s) (hfollow : ChimesFollow s) :
    ChimesFollow (watchdogExpires s) := by
  unfold watchdogExpires
  split
  · dsimp only
    split
    · have hchimes := beforeSounds_chimes (setWatchdog .expired s)
      have hbefore : ChimesFollow (beforeSounds (setWatchdog .expired s)) :=
        ChimesFollow.of_relisted (s := setWatchdog .expired s) hfollow (beforeSounds_relisted (setWatchdog .expired s))
          (congrArg ChimeUnit.queue hchimes)
      have hvoiced : Voiced (beforeSounds (setWatchdog .expired s)) :=
        hs.of_keys (keysOf_congr (congrArg ChimeUnit.queue hchimes)) fun v => by
          rw [voiceOf_congr hchimes]
          cases v <;> rfl
      rw [enterFailsafe_eq, failsafeSounds_eq]
      exact failsafeChime_follow (afterCuts_voiced hvoiced) ((afterCuts_sounded _).follow hbefore)
    · exact hfollow
  · exact hfollow

end Sys2Proof.Machine
end

section
/-! SUPPORT. The call in progress (R142, R143): which operations leave its state and its route as they are. -/

-- One declaration at a time: together they would start more threads than the check's memory limit has stacks for.
set_option Elab.async false

namespace Sys2Proof.Machine

/-! ### The call's state and route -/

/-- From one state to another the call's state and its route are the same. -/
structure CallKept (s t : State) : Prop where
  state : t.clp.state = s.clp.state
  route : t.clp.route = s.clp.route

theorem CallKept.of_clp {s t : State} (h : t.clp = s.clp) : CallKept s t := ⟨by rw [h], by rw [h]⟩

theorem CallKept.refl {s : State} : CallKept s s := ⟨rfl, rfl⟩

theorem CallKept.trans {s t u : State} (h : CallKept s t) (h' : CallKept t u) : CallKept s u :=
  ⟨h'.state.trans h.state, h'.route.trans h.route⟩

theorem CallKept.ite {s a b : State} {c : Prop} [Decidable c] (ha : CallKept s a) (hb : CallKept s b) :
    CallKept s (if c then a else b) := by
  split <;> assumption

theorem CallKept.foldl {α : Type} {f : State → α → State} (h : ∀ s a, CallKept s (f s a)) (l : List α) (s : State) :
    CallKept s (l.foldl f s) := by
  induction l generalizing s with
  | nil => exact .refl
  | cons a l ih => exact (h s a).trans (ih _)

theorem Within.callKept {bs : List Block} {s t : State} (h : Within bs s t) (hb : .clp ∉ bs := by decide) :
    CallKept s t := .of_clp (h.same .clp (by simpa using hb))

/-! ### The canceller, the selection and the amplifiers -/

theorem restartCanceller_callKept (s : State) : CallKept s (restartCanceller s) := .ite ⟨rfl, rfl⟩ .refl

theorem routeCanceller_callKept (s : State) : CallKept s (routeCanceller s) := ⟨rfl, rfl⟩

theorem startCanceller_callKept (s : State) : CallKept s (startCanceller s) := ⟨rfl, rfl⟩

theorem bypassCanceller_callKept (s : State) : CallKept s (bypassCanceller s) := .ite ⟨rfl, rfl⟩ ⟨rfl, rfl⟩

theorem reselect_callKept (s : State) : CallKept s (reselect s) := ⟨rfl, rfl⟩

theorem remakeSelection_callKept (newFault : Bool) (s : State) : CallKept s (remakeSelection newFault s) :=
  .ite ((reselect_callKept s).trans (postMicFault_within _).callKept) (reselect_callKept s)

theorem changeAmp_callKept (k : Amp) (f : AmpChannel → AmpChannel) (s : State) : CallKept s (changeAmp k f s) :=
  .ite ((modOs_within _ s).callKept.trans (restartCanceller_callKept _)) (modOs_within _ s).callKept

theorem startAmp_callKept (k : Amp) (mark : Bool) (s : State) : CallKept s (startAmp k mark s) :=
  .ite .refl (.ite (changeAmp_callKept k _ s) (changeAmp_callKept k _ s))

theorem proceedStarts_callKept (s : State) : CallKept s (proceedStarts s) :=
  .foldl (fun s _ => .ite (startAmp_callKept _ _ s) .refl) Amp.all s

theorem enterOn_callKept (k : Amp) (s : State) : CallKept s (enterOn k s) := by
  have entered := (changeAmp_callKept k
    (fun a => { a with state := .on, soft := none, trip := none, restartMark := false }) s).trans
    (endCause_within .overcurrentTrip k _).callKept
  exact .ite (entered.trans (post_within _ _ _ _).callKept) entered

theorem shutDown_callKept (kind : FaultKind) (f : AmpChannel → AmpChannel) (k : Amp) (s : State) :
    CallKept s (shutDown kind f k s) :=
  (changeAmp_callKept k _ s).trans (postChannelFault_within kind k _).callKept

theorem startOnResult_callKept (s : State) (k : Amp) : CallKept s (startOnResult s k) := by
  have latched (kind : FaultKind) (f : AmpChannel → AmpChannel) :
      CallKept s (postChannelFault kind k (changeAmp k f s)) :=
    (changeAmp_callKept k f s).trans (postChannelFault_within kind k _).callKept
  refine .ite ?_ .refl
  split
  · exact latched _ _
  · exact latched _ _
  · exact latched _ _
  · exact (startAmp_callKept k false s).trans ((modAmp_within k _ _).trans (postChannelFault_within _ k _)).callKept
  · exact startAmp_callKept k false s
  · exact startAmp_callKept k false s

theorem standbyOff_callKept (all : Bool) (s : State) : CallKept s (standbyOff all s) := by
  unfold standbyOff
  exact (CallKept.foldl (fun _ k => .ite (changeAmp_callKept k _ _) .refl) Amp.all s).trans (modOs_within _ _).callKept

theorem restoreClock_callKept (s : State) : CallKept s (restoreClock s) :=
  ((modZr_within _ s).trans (post_within _ _ _ _)).callKept.trans (restartCanceller_callKept _)

theorem installEffect_callKept (f : InstallField) (v : InstallValue) (s : State) : CallKept s (installEffect f v s) := by
  unfold installEffect
  split
  · exact (modAmp_within _ _ s).callKept
  · exact (modOs_within _ s).callKept
  · exact (bridgeEven_within _ s).callKept
  · exact (modHp_within _ _ s).callKept
  · exact remakeSelection_callKept _ s
  · exact .ite (restoreClock_callKept s) .refl
  · exact .refl

/-! ### Load test, monitor and samples -/

theorem beginDiag_callKept (k : Amp) (set waiting done : List Amp) (s : State) :
    CallKept s (beginDiag k set waiting done s) :=
  (changeAmp_callKept k _ s).trans (modOs_within _ _).callKept

theorem channelTested_callKept (t : LoadTest) (r : LoadResult) (s : State) : CallKept s (channelTested t r s) := by
  unfold channelTested
  dsimp only
  split
  · exact (changeAmp_callKept _ _ s).trans (beginDiag_callKept _ _ _ _ _)
  · exact (changeAmp_callKept _ _ s).trans ((modOs_within _ _).trans (post_within _ _ _ _)).callKept

theorem checkEnds_callKept (registered : Bool) (t : LoadTest) (s : State) : CallKept s (checkEnds registered t s) :=
  .ite (modOs_within _ s).callKept (channelTested_callKept _ _ s)

theorem excludeMics_callKept (s : State) : CallKept s (excludeMics s) := by
  refine .ite .refl (CallKept.trans ?_ (remakeSelection_callKept _ _))
  exact ⟨rfl, rfl⟩

theorem thermalDown_callKept (b : Bank) (s : State) (k : Amp) : CallKept s (thermalDown b s k) :=
  .ite ((modAmp_within k _ s).callKept.trans (shutDown_callKept _ _ k _)) .refl

theorem shutdownActs_callKept (b : Bank) (was now : Bool) (s : State) : CallKept s (shutdownActs b was now s) :=
  .ite (.foldl (thermalDown_callKept b) _ s)
    (.ite ((Within.foldl (thermalCauseEnds_within b) Amp.all s).callKept.trans (proceedStarts_callKept _)) .refl)

theorem thermalSample_callKept (b : Bank) (t : Int) (s : State) : CallKept s (thermalSample b t s) := by
  unfold thermalSample
  dsimp only
  exact (Within.ite (setBank_within b _ s) ((setBank_within b _ s).trans (post_within _ _ _ _))).callKept.trans
    (shutdownActs_callKept b _ _ _)

theorem overvoltageHold_callKept (s : State) (k : Amp) : CallKept s (overvoltageHold s k) :=
  .ite (shutDown_callKept _ _ k s) .refl

theorem supplyActs_callKept (was now : SupplyState) (s : State) : CallKept s (supplyActs was now s) :=
  .ite (.foldl overvoltageHold_callKept Amp.all s)
    (.ite ((Within.foldl holdCauseEnds_within Amp.all s).callKept.trans (proceedStarts_callKept _)) .refl)

theorem supplySample_callKept (v : Nat) (s : State) : CallKept s (supplySample v s) := by
  unfold supplySample
  dsimp only
  exact (Within.ite (modOs_within _ s) ((modOs_within _ s).trans (post_within _ _ _ _))).callKept.trans
    (supplyActs_callKept _ _ _)

theorem biasSample_callKept (m : Mic) (inside : Bool) (s : State) : CallKept s (biasSample m inside s) := by
  refine .ite .refl (CallKept.trans ?_ (remakeSelection_callKept _ _))
  exact ⟨rfl, rfl⟩

theorem sampled_callKept (x : Sample) (s : State) : CallKept s (sampled x s) := by
  cases x with
  | ampCurrent k below level => exact (currentSampled_within k below level s).callKept
  | temperature b t => exact (thermalSample_callKept b t s).trans (receipt_within _ _ _).callKept
  | supply v => exact (supplySample_callKept v s).trans (receipt_within _ _ _).callKept
  | micBias m inside => exact biasSample_callKept m inside s
  | hpCurrent h above => exact .ite (driverShort_within h s).callKept .refl

/-! ### The canceller's own events -/

theorem estimated_callKept (erle : Nat) (downlink : Int) (s : State) :
    CallKept s (s.modClp (fun c => (c.estimated erle).halfDuplex downlink)) := by
  have hkept : (s.clp.estimated erle).state = s.clp.state ∧ (s.clp.estimated erle).route = s.clp.route := by
    unfold CallContext.estimated
    split <;> exact ⟨rfl, rfl⟩
  exact ⟨hkept.1, hkept.2⟩

theorem ramped_callKept (s : State) : CallKept s (ramped s) :=
  .ite ((modGe_within _ s).callKept.trans (standbyOff_callKept false _)) (modGe_within _ s).callKept

/-! ### The requests' answers -/

theorem arrival_callKept (kind : Byte) (s : State) : CallKept s (arrival kind s) :=
  .of_clp ((arrival_within kind s).same .clp (by decide))

theorem request_callKept {k : Kind} {body : Bytes} {act : State → Answer} {s : State}
    (ha : ∀ u, CallKept u (act u).state) : CallKept s (request k body act s) :=
  request_keeps (P := CallKept s) (fun _ _ _ _ hu => hu.trans ⟨rfl, rfl⟩) (arrival_callKept _ s) (fun u _ hu => hu.trans (ha u))

theorem refuse_callKept {s : State} {status : Status} : CallKept s (refuse s status).state := .refl

theorem answerInstall_callKept (body : Bytes) (s : State) : CallKept s (answerInstall body s).state := by
  unfold answerInstall
  repeat' split
  any_goals with_reducible exact refuse_callKept
  exact (modInstall_within _ s).callKept.trans (installEffect_callKept _ _ _)

theorem setCabinStep_callKept (cls : Class) (n : Nat) (s : State) : CallKept s (setCabinStep cls n s) :=
  .ite ((modCabin_within _ s).callKept.trans (restartCanceller_callKept _)) (modCabin_within _ s).callKept

theorem answerVolume_callKept (body : Bytes) (s : State) : CallKept s (answerVolume body s).state := by
  unfold answerVolume
  dsimp only
  repeat' split
  any_goals with_reducible exact refuse_callKept
  all_goals rw [accept_state]
  · exact setCabinStep_callKept _ _ s
  · exact (modHp_within _ _ s).callKept
  · exact (modHp_within _ _ s).callKept

theorem answerUplinkMute_callKept (body : Bytes) (s : State) : CallKept s (answerUplinkMute body s).state := by
  unfold answerUplinkMute
  dsimp only
  repeat' split
  any_goals with_reducible exact refuse_callKept
  exact ⟨rfl, rfl⟩

theorem answerMicPolicy_callKept (body : Bytes) (s : State) : CallKept s (answerMicPolicy body s).state := by
  unfold answerMicPolicy
  dsimp only
  repeat' split
  any_goals with_reducible exact refuse_callKept
  exact ⟨rfl, rfl⟩

theorem answerLoadTest_callKept (body : Bytes) (s : State) : CallKept s (answerLoadTest body s).state := by
  unfold answerLoadTest
  repeat' split
  any_goals with_reducible exact refuse_callKept
  exact beginDiag_callKept _ _ _ _ s

theorem answerRetry_callKept (body : Bytes) (s : State) : CallKept s (answerRetry body s).state := by
  unfold answerRetry
  repeat' split
  any_goals with_reducible exact refuse_callKept
  exact startAmp_callKept _ _ s

theorem answerMonitor_callKept (body : Bytes) (s : State) : CallKept s (answerMonitor body s).state := by
  unfold answerMonitor
  repeat' split
  any_goals with_reducible exact refuse_callKept
  rw [accept_state]
  exact ((modOs_within _ s).trans (.foldl excludeAmp_within Amp.all _)).callKept.trans (excludeMics_callKept _)

theorem answerWake_callKept (s : State) : CallKept s (answerWake s).state := by
  unfold answerWake
  rw [accept_state]
  exact (standbyOff_callKept true s).trans (modSc_within _ _).callKept

theorem answerStartAudio_callKept (s : State) : CallKept s (answerStartAudio s).state := by
  have running : CallKept s
      (setWatchdog (.counting s.safety.config.watchdogMs) (s.modSc (fun c => { c with opState := .run }))) := .of_clp rfl
  have started : CallKept s (startAudio s) := by
    unfold startAudio
    exact ((running.trans (.foldl startOnResult_callKept Amp.all _)).trans (startOthers_within _).callKept).trans
      ((retune_within _ _).trans (startHolder_within _)).callKept
  unfold answerStartAudio
  split
  · exact refuse_callKept
  · split
    · exact refuse_callKept
    · split
      · exact refuse_callKept
      · rw [accept_state]
        exact started

theorem enterStandby_callKept (s : State) : CallKept s (enterStandby s) := by
  have closed : CallKept s s.quieted := .of_clp rfl
  rw [enterStandby_eq]
  exact (closed.trans ((unwatched_within s).trans ((silenced_within s).trans (settle_within _))).callKept).trans
    (standbyOff_callKept false _)

theorem answerStandby_callKept (s : State) : CallKept s (answerStandby s).state := by
  unfold answerStandby
  split
  · exact refuse_callKept
  · split
    · exact refuse_callKept
    · rw [accept_state]
      exact enterStandby_callKept s

/-! ### Every command -/

/-- The commands that may change the call's state or its route (R14, R21, R142 to R144). -/
def Instr.movesCall : Instr → Bool
  | .powerOnReset | .restart _ | .callState _ | .callRoute _ | .jackStateChange _ _ => true
  | _ => false

/-- Every other command leaves the call's state and its route as they were. -/
theorem exec_callKept {i : Instr} {s t : State} (h : exec i s = .next t) (hi : Instr.movesCall i = false) :
    CallKept s t := by
  have next {u : State} (hu : exec i s = .next u) : u = t := Host.Outcome.next.inj (hu.symm.trans h)
  have settled {u : State} (hu : CallKept s u) : CallKept s (settle u) := hu.trans (settle_within u).callKept
  by_cases hb : (Instr.changes i).contains .clp = false
  · have hclp : .clp ∉ Instr.changes i := by simpa using hb
    cases exec_touched i s t h with
    | event h => exact .of_clp (h .clp (by simpa using hclp))
    | frame kind h => exact (arrival_callKept kind s).trans (.of_clp (h .clp (by simpa using hclp)))
  cases i with
  | powerOnReset => simp [Instr.movesCall] at hi
  | restart _ => simp [Instr.movesCall] at hi
  | callState _ => simp [Instr.movesCall] at hi
  | callRoute _ => simp [Instr.movesCall] at hi
  | jackStateChange _ _ => simp [Instr.movesCall] at hi
  | setInstall body => exact next rfl ▸ request_callKept (answerInstall_callKept body)
  | startAudio body => exact next rfl ▸ request_callKept answerStartAudio_callKept
  | standby body => exact next rfl ▸ request_callKept answerStandby_callKept
  | wake body => exact next rfl ▸ request_callKept answerWake_callKept
  | setVolume body => exact next rfl ▸ request_callKept (answerVolume_callKept body)
  | setUplinkMute body => exact next rfl ▸ request_callKept (answerUplinkMute_callKept body)
  | setMicPolicy body => exact next rfl ▸ request_callKept (answerMicPolicy_callKept body)
  | loadTest body => exact next rfl ▸ request_callKept (answerLoadTest_callKept body)
  | setMonitor body => exact next rfl ▸ request_callKept (answerMonitor_callKept body)
  | retryChannel body => exact next rfl ▸ request_callKept (answerRetry_callKept body)
  | clockReturn => exact next rfl ▸ .ite (settled (restoreClock_callKept s)) .refl
  | rampStep => exact next rfl ▸ settled (ramped_callKept s)
  | erleEstimate erle downlink => exact next rfl ▸ .ite (settled (estimated_callKept _ _ s)) .refl
  | convergenceTimerRunout =>
    exact next rfl ▸ .ite ⟨rfl, rfl⟩ .refl
  | divergenceTimerRunout =>
    refine next rfl ▸ .ite (settled (CallKept.trans ?_ (restartCanceller_callKept _))) .refl
    exact ⟨rfl, rfl⟩
  | limitEngage k =>
    refine next rfl ▸ ?_
    split
    · exact settled (changeAmp_callKept k _ s)
    · exact settled (changeAmp_callKept k _ s)
    · exact .refl
  | limitRelease k =>
    refine next rfl ▸ ?_
    split
    · exact settled (changeAmp_callKept k _ s)
    · exact settled (enterOn_callKept k s)
    · exact .refl
  | softStartEnd k =>
    exact next rfl ▸ .ite (settled (.ite (changeAmp_callKept k _ s) (enterOn_callKept k s))) .refl
  | tripTimerRunout k => exact next rfl ▸ .ite (settled (shutDown_callKept _ _ k s)) .refl
  | retryTimerRunout k => exact next rfl ▸ .ite (settled (startAmp_callKept k _ s)) .refl
  | loadTestCheckEnd registered =>
    refine next rfl ▸ ?_
    split
    · exact .refl
    · exact settled (checkEnds_callKept registered _ s)
  | monitorSample x => exact next rfl ▸ .ite (settled (sampled_callKept x s)) .refl
  | _ => exact absurd rfl hb

end Sys2Proof.Machine
end

section
/-! SUPPORT. The CALL entries of the zones (R47, R142 to R144), and every step's CHIME and CALL entries (R93). -/

-- One declaration at a time: together they would start more threads than the check's memory limit has stacks for.
set_option Elab.async false

namespace Sys2Proof.Machine

/-! ### CALL entries placed and lifted -/

theorem holdsCall_placeCall (s : State) (z y : Zone) :
    holdsClass (listOf (placeCall s z) y) .call = (holdsClass (listOf s y) .call || decide (y = z)) := by
  have placed (u : State) (hu : ∀ x, holdsClass (listOf u x) .call = holdsClass (listOf s x) .call) :
      holdsClass (listOf (insertEntry z { cls := .call, src := some .call, deferred := false } u) y) .call =
        (holdsClass (listOf s y) .call || decide (y = z)) := by
    have hmay : mayHold z .call = true := by cases z <;> rfl
    rw [holdsClass_insertEntry, hu, hmay]
    simp
  unfold placeCall
  dsimp only
  split
  · rename_i c
    split
    · exact placed _ fun x => ((removeEntry_relisted (.cabin c) (c := .traffic) (by decide) s).others .call (by decide) x :)
    · exact placed s fun _ => rfl
  · exact placed s fun _ => rfl

theorem holdsCall_placeCalls (zs : List Zone) (s : State) (y : Zone) :
    holdsClass (listOf (placeCalls zs s) y) .call = (holdsClass (listOf s y) .call || zs.contains y) := by
  have placed (l : List Zone) (u : State) :
      holdsClass (listOf (l.foldl placeCall u) y) .call = (holdsClass (listOf u y) .call || l.contains y) := by
    induction l generalizing u with
    | nil => simp
    | cons z l ih =>
      rw [List.foldl_cons, ih, holdsCall_placeCall, List.contains_cons, Bool.or_assoc]
      rfl
  unfold placeCalls
  dsimp only
  split
  · exact placed zs s
  · exact placed zs s

theorem holdsCall_liftCall (s : State) (z y : Zone) :
    holdsClass (listOf (liftCall s z) y) .call = (holdsClass (listOf s y) .call && !decide (y = z)) := by
  have lifted : holdsClass (listOf (removeEntry z .call s) y) .call =
      (holdsClass (listOf s y) .call && !decide (y = z)) := by
    rw [holdsClass_removeEntry z y (by decide)]
    simp
  unfold liftCall
  dsimp only
  split
  · rename_i c
    split
    · have inserted : Relisted [.traffic] (removeEntry (.cabin c) .call s)
          (insertEntry (.cabin c) (trafficEntry true) (removeEntry (.cabin c) .call s)) := by
        refine insertEntry_relisted (.cabin c) (trafficEntry true) _ (fun _ h => nomatch h) fun _ => ?_
        rw [holdsClass_removeEntry _ _ (by decide)]
        simp
      exact (inserted.others .call (by decide) y).trans lifted
    · exact lifted
  · exact lifted

theorem holdsCall_liftCalls (zs : List Zone) (s : State) (y : Zone) :
    holdsClass (listOf (liftCalls zs s) y) .call = (holdsClass (listOf s y) .call && !zs.contains y) := by
  unfold liftCalls
  induction zs generalizing s with
  | nil => simp
  | cons z zs ih =>
    rw [List.foldl_cons, ih, holdsCall_liftCall, List.contains_cons, Bool.not_or, Bool.and_assoc]
    rfl

/-! ### The entries of a call in progress -/

/-- The CALL entries stand exactly in the zones of the route of a call in progress (R142, R143). -/
def CallsFollow (s : State) : Prop :=
  ∀ z : Zone, holdsClass (listOf s z) .call = (s.clp.state != .idle && (routeZones s.clp.route).contains z)

/-- The zones that hold CALL, the call's state and its route are the same. -/
theorem CallsFollow.of_relisted {ks : List Class} {s t : State} (hs : CallsFollow s) (h : Relisted ks s t)
    (hc : CallKept s t) (hks : .call ∉ ks := by decide) : CallsFollow t := fun z => by
  rw [h.others .call hks, hc.state, hc.route]
  exact hs z

/-- What follows the change of entries leaves the lists and the call. -/
theorem CallsFollow.of_within {bs : List Block} {s t : State} (hs : CallsFollow s) (h : Within bs s t)
    (hc : CallKept s t) (hb : .zr ∉ bs := by decide) : CallsFollow t :=
  hs.of_relisted (h.relisted (ks := []) hb) hc

theorem CallsFollow.ite {a b : State} {c : Prop} [Decidable c] (ha : CallsFollow a) (hb : CallsFollow b) :
    CallsFollow (if c then a else b) := by
  split <;> assumption

theorem moveCanceller_callKept (new : Route) (s : State) : CallKept s (moveCanceller new s) := by
  refine .ite .refl ?_
  cases new with
  | cabin => exact routeCanceller_callKept s
  | hp h => exact bypassCanceller_callKept s

theorem leaveIdle_follow {new : CallState} {s : State} (hs : CallsFollow s) (hidle : s.clp.state = .idle)
    (hnew : new ≠ .idle) : CallsFollow (leaveIdle new s) := by
  have hplaced : CallsFollow
      (placeCalls (routeZones s.clp.route) (s.modClp (fun c => { c with state := new, restarts := 0 }))) := fun z => by
    have hclp := (placeCalls_within (routeZones s.clp.route)
      (s.modClp (fun c => { c with state := new, restarts := 0 }))).same .clp (by decide)
    have hnone : holdsClass (listOf s z) .call = false := by simpa [hidle] using hs z
    rw [holdsCall_placeCalls, hclp, show listOf (s.modClp _) z = listOf s z from by cases z <;> rfl, hnone]
    simp [hnew]
  unfold leaveIdle
  dsimp only
  refine CallsFollow.of_within ?_ ((remakeSelection_within false _).trans (receipt_within _ _ _))
    ((remakeSelection_callKept _ _).trans (receipt_within _ _ _).callKept)
  split
  · exact hplaced.of_within (startCanceller_within _) (startCanceller_callKept _)
  · exact hplaced

theorem callEnds_follow {s : State} (hs : CallsFollow s) (hcall : s.clp.state ≠ .idle) : CallsFollow (callEnds s) := by
  have hlifted : CallsFollow
      (liftCalls (routeZones s.clp.route) (s.modClp (fun c => { c with state := .idle, uplinkMute := false }))) :=
    fun z => by
      have hclp := (liftCalls_within (routeZones s.clp.route)
        (s.modClp (fun c => { c with state := .idle, uplinkMute := false }))).same .clp (by decide)
      have hstate : (s.clp.state != .idle) = true := by simpa using hcall
      rw [holdsCall_liftCalls, hclp, show listOf (s.modClp _) z = listOf s z from by cases z <;> rfl, hs z, hstate]
      simp
  exact hlifted.of_within ((bypassCanceller_within _).trans (receipt_within _ _ _))
    ((bypassCanceller_callKept _).trans (receipt_within _ _ _).callKept)

theorem changeCall_of_idle {new : CallState} {s : State} (hidle : s.clp.state = .idle) (hnew : new ≠ .idle) :
    changeCall new s = leaveIdle new s := by
  unfold changeCall
  rw [hidle]
  cases new <;> first | exact absurd rfl hnew | rfl

theorem changeCall_to_idle {s : State} (hcall : s.clp.state ≠ .idle) : changeCall .idle s = callEnds s := by
  unfold changeCall
  cases hstate : s.clp.state <;> first | exact absurd hstate hcall | rfl

theorem changeCall_in_call {new : CallState} {s : State} (hcall : s.clp.state ≠ .idle) (hnew : new ≠ .idle) :
    changeCall new s = receipt .callActive 1 (s.modClp (fun c => { c with state := new })) := by
  unfold changeCall
  cases hstate : s.clp.state <;> cases new <;> first | exact absurd hstate hcall | exact absurd rfl hnew | rfl

theorem changeCall_follow (new : CallState) {s : State} (hs : CallsFollow s) : CallsFollow (changeCall new s) := by
  by_cases hidle : s.clp.state = .idle <;> by_cases hnew : new = .idle
  · subst hnew
    unfold changeCall
    rw [hidle]
    exact hs
  · rw [changeCall_of_idle hidle hnew]
    exact leaveIdle_follow hs hidle hnew
  · subst hnew
    rw [changeCall_to_idle hidle]
    exact callEnds_follow hs hidle
  · rw [changeCall_in_call hidle hnew]
    have hset : CallsFollow (s.modClp (fun c => { c with state := new })) := fun z => by
      have hold : (s.clp.state != .idle) = true := bne_iff_ne.2 hidle
      have hnext : (new != .idle) = true := bne_iff_ne.2 hnew
      rw [show listOf (s.modClp _) z = listOf s z from by cases z <;> rfl, hs z, hold]
      simp only [State.modClp_clp, hnext]
    exact hset.of_within (receipt_within _ _ _) (receipt_within _ _ _).callKept

theorem moveRoute_follow (new : Route) (cause : RouteCause) {s : State} (hs : CallsFollow s) :
    CallsFollow (moveRoute new cause s) := by
  have hlist (g : CallContext → CallContext) (z : Zone) : listOf (s.modClp g) z = listOf s z := by cases z <;> rfl
  have hmoved : CallsFollow (moveEntries s.clp.route new (s.modClp (fun c => { c with route := new }))) := fun z => by
    have hclp := (moveEntries_within s.clp.route new (s.modClp (fun c => { c with route := new }))).same .clp (by decide)
    rw [hclp]
    unfold moveEntries
    split
    · rename_i hidle
      have hz := hs z
      rw [hlist, hz]
      simp_all
    · rename_i hcall
      rw [holdsCall_placeCalls, holdsCall_liftCalls, hlist, hs z]
      have hstate : (s.clp.state != .idle) = true := by simpa using hcall
      simp only [hstate, State.modClp_clp, zonesBeyond, Bool.true_and, List.contains_eq_mem, List.mem_filter,
        Bool.decide_and, Bool.decide_eq_true]
      cases decide (z ∈ routeZones s.clp.route) <;> cases decide (z ∈ routeZones new) <;> rfl
  have hreselected := (hmoved.of_within (reselect_within _) (reselect_callKept _)).of_within
    (postRoute_within s.clp.route cause _) (postRoute_within s.clp.route cause _).callKept
  have hreported := hreselected.of_within (postMicFault_within _) (postMicFault_within _).callKept
  have told (b : Bool) := CallsFollow.ite (c := b = true) hreported hreselected
  unfold moveRoute
  dsimp only
  exact (told _).of_within (moveCanceller_within new _) (moveCanceller_callKept new _)

theorem jackChanges_follow (h : Hp) (inserted : Bool) {s : State} (hs : CallsFollow s) :
    CallsFollow (jackChanges h inserted s) := by
  have hsensed : CallsFollow (modHp h (fun r => { r with jack := inserted }) s) :=
    hs.of_relisted (modHp_relisted (ks := []) h s (fun _ => rfl)) (modHp_within _ _ s).callKept
  unfold jackChanges
  dsimp only
  refine CallsFollow.of_within (bs := []) ?_ (post_within _ _ _ _) (post_within _ _ _ _).callKept
  split
  · exact hsensed
  · unfold jackFallback
    split
    · exact moveRoute_follow _ _ hsensed
    · exact hsensed

theorem answerCallState_follow (body : Bytes) {s : State} (hs : CallsFollow s) :
    CallsFollow (answerCallState body s).state := by
  have refused (st : Status) : CallsFollow (refuse s st).state := hs
  unfold answerCallState
  repeat' split
  any_goals with_reducible exact refused _
  exact changeCall_follow _ hs

theorem answerCallRoute_follow (body : Bytes) {s : State} (hs : CallsFollow s) :
    CallsFollow (answerCallRoute body s).state := by
  have refused (st : Status) : CallsFollow (refuse s st).state := hs
  unfold answerCallRoute
  dsimp only
  repeat' split
  any_goals with_reducible exact refused _
  · exact hs
  · exact moveRoute_follow _ _ hs
  · exact hs
  · exact moveRoute_follow _ _ hs

/-! ### STANDBY and the resets -/

/-- With every list reduced to BASE, no call and no voice, nothing is left to follow. -/
theorem entriesFollow_of_cleared {t : State} (hlist : ∀ z c, c ≠ .base → holdsClass (listOf t z) c = false)
    (hqueue : t.chimes.queue = []) (hidle : t.clp.state = .idle) : ChimesFollow t ∧ CallsFollow t := by
  refine ⟨fun c => ?_, fun z => ?_⟩
  · rw [hlist _ _ (by decide), playsIn, hqueue]
    rfl
  · rw [hlist _ _ (by decide), hidle]
    rfl

theorem entriesFollow_of_reset {t : State} (hzr : t.zr = ZoneRouter.reset) (hqueue : t.chimes.queue = [])
    (hidle : t.clp.state = .idle) : ChimesFollow t ∧ CallsFollow t := by
  refine entriesFollow_of_cleared (fun z c hc => ?_) hqueue hidle
  have hlist : listOf t z = listOf State.reset z := by cases z <;> simp only [listOf, hzr] <;> rfl
  rw [hlist]
  rcases z with d | h
  · cases d <;> cases c <;> first | rfl | exact absurd rfl hc
  · cases h <;> cases c <;> first | rfl | exact absurd rfl hc

theorem holdsClass_reduceLists (s : State) (z : Zone) {c : Class} (hc : c ≠ .base) :
    holdsClass (listOf (reduceLists s) z) c = false := by
  rw [listOf_reduceLists]
  refine Bool.eq_false_iff.2 fun hheld => ?_
  obtain ⟨e, he, hcls⟩ := holdsClass_iff.1 hheld
  have hbase := (List.mem_filter.1 he).2
  simp_all

/-- After STANDBY's reduction the channels' entry to OFF leaves the lists and the queue. -/
theorem enterStandby_after_silence (s : State) : Within [.os, .clp] s.silenced (enterStandby s) := by
  rw [enterStandby_eq]
  exact ((settle_within s.silenced).trans (standbyOff_within false _)).mono

theorem listOf_enterStandby (s : State) (z : Zone) :
    listOf (enterStandby s) z = listOf (reduceLists (silenceChimes s.unwatched)) z := by
  have hzr : (enterStandby s).zr = s.silenced.zr := (enterStandby_after_silence s).zr_eq
  cases z <;> simp only [listOf, hzr, State.silenced]

theorem enterStandby_queue (s : State) : (enterStandby s).chimes.queue = [] := by
  obtain ⟨hqueue, _⟩ := (enterStandby_after_silence s).same .chimes (by decide)
  rw [hqueue, silenced_chimes]

theorem answerStandby_follow {s : State} (hs : ChimesFollow s ∧ CallsFollow s) :
    ChimesFollow (answerStandby s).state ∧ CallsFollow (answerStandby s).state := by
  unfold answerStandby
  split
  · exact hs
  · rename_i hidle
    split
    · exact hs
    · rw [accept_state]
      refine entriesFollow_of_cleared (fun z c hc => ?_) (enterStandby_queue s) ?_
      · rw [listOf_enterStandby]
        exact holdsClass_reduceLists _ z hc
      · rw [(enterStandby_callKept s).state]
        simpa using hidle

/-! ### Every command -/

/-- The commands after which a voice may play elsewhere (R14, R18, R21, R86 to R97). -/
def Instr.movesVoices : Instr → Bool
  | .powerOnReset | .restart _ | .standby _ | .chimeRequest _ | .chimeCancel _ | .voicePhaseEnd _ | .watchdogExpiry => true
  | _ => false

/-- Every other command leaves the chime queue as it was. -/
theorem exec_queueKept {i : Instr} {s t : State} (h : exec i s = .next t) (hi : Instr.movesVoices i = false) :
    t.chimes.queue = s.chimes.queue := by
  have hb : .chimes ∉ Block.cp :: Instr.changes i := by
    cases i with
    | powerOnReset => simp [Instr.movesVoices] at hi
    | restart _ => simp [Instr.movesVoices] at hi
    | standby _ => simp [Instr.movesVoices] at hi
    | chimeRequest _ => simp [Instr.movesVoices] at hi
    | chimeCancel _ => simp [Instr.movesVoices] at hi
    | voicePhaseEnd _ => simp [Instr.movesVoices] at hi
    | watchdogExpiry => simp [Instr.movesVoices] at hi
    | _ => simp [Instr.changes, Instr.touches]
  cases exec_touched i s t h with
  | event h => exact (h .chimes hb).1
  | frame kind h =>
    have harrived : (arrival kind s).chimes.queue = s.chimes.queue :=
      ((arrival_within kind s).same .chimes (by decide)).1
    exact (h .chimes hb).1.trans harrived

section
variable {s : State}

theorem arrival_follow (kind : Byte) (hs : ChimesFollow s) : ChimesFollow (arrival kind s) :=
  hs.of_relisted (arrival_relisted (ks := []) kind s) ((arrival_within kind s).same .chimes (by decide)).1

theorem arrival_callsFollow (kind : Byte) (hs : CallsFollow s) : CallsFollow (arrival kind s) :=
  hs.of_relisted (arrival_relisted (ks := []) kind s) (arrival_callKept kind s)

theorem arrival_voiced (kind : Byte) (hs : Voiced s) : Voiced (arrival kind s) := by
  obtain ⟨hqueue, hv1, hv2, _⟩ := (arrival_within kind s).same .chimes (by decide)
  have hpattern (a b : Option Voice) (h : a.map Voice.ungained = b.map Voice.ungained) :
      a.map Voice.pattern = b.map Voice.pattern := by
    have hmap := congrArg (Option.map Voice.pattern) h
    rwa [Option.map_map, Option.map_map] at hmap
  refine hs.of_patterns (keysOf_congr hqueue) fun v => ?_
  cases v with
  | v1 => exact hpattern _ _ hv1
  | v2 => exact hpattern _ _ hv2

end

/-- What a request's owner makes of the state it finds, and a refusal leaves of it, stands after the reply. -/
theorem request_yields {P Q : State → Prop} {k : Kind} {body : Bytes} {act : State → Answer} {s : State}
    (hreply : ∀ r st b u, Q u → Q (settle (setReply r st b u))) (harr : P (arrival k.code s)) (hPQ : ∀ u, P u → Q u)
    (hact : ∀ u, P u → Q (act u).state) : Q (request k body act s) := by
  refine hreply _ _ _ _ ?_
  unfold answerTo
  split
  · exact hPQ _ harr
  · split
    · exact hPQ _ harr
    · exact hact _ harr

/-- Every command keeps the CHIME entries where a voice plays. -/
theorem exec_chimesFollow {i : Instr} {s t : State} (h : exec i s = .next t) (hs : ChimesFollow s) (hv : Voiced s)
    (hi : Instr.clearsLists i = false) : ChimesFollow t := by
  have next {u : State} (hu : exec i s = .next u) : u = t := Host.Outcome.next.inj (hu.symm.trans h)
  have settled {u : State} (hu : ChimesFollow u) : ChimesFollow (settle u) := hu
  cases hm : Instr.movesVoices i
  case false =>
    refine hs.of_relisted (exec_relisted h hi) (exec_queueKept h hm) ?_
    cases i with
    | chimeRequest _ => simp [Instr.movesVoices] at hm
    | chimeCancel _ => simp [Instr.movesVoices] at hm
    | voicePhaseEnd _ => simp [Instr.movesVoices] at hm
    | watchdogExpiry => simp [Instr.movesVoices] at hm
    | _ => simp [Instr.relists]
  cases i with
  | chimeRequest body =>
    exact next rfl ▸ request_yields (P := fun u => Voiced u ∧ ChimesFollow u) (Q := ChimesFollow)
      (fun _ _ _ _ hu => hu) ⟨arrival_voiced _ hv, arrival_follow _ hs⟩ (fun _ hu => hu.2)
      (fun _ hu => answerChime_follow body hu.1 hu.2)
  | chimeCancel body =>
    exact next rfl ▸ request_keeps (P := ChimesFollow) (fun _ _ _ _ hu => hu) (arrival_follow _ hs)
      (fun u _ hu => (answerCancel_sounded body u).follow hu)
  | voicePhaseEnd v => exact next rfl ▸ settled ((voicePhaseEnds_sounded v s).follow hs)
  | watchdogExpiry => exact next rfl ▸ settled (watchdogExpires_follow hv hs)
  | powerOnReset => simp [Instr.clearsLists] at hi
  | restart _ => simp [Instr.clearsLists] at hi
  | standby _ => simp [Instr.clearsLists] at hi
  | _ => simp [Instr.movesVoices] at hm

/-- Every command keeps the CALL entries in the zones of the route of a call in progress. -/
theorem exec_callsFollow {i : Instr} {s t : State} (h : exec i s = .next t) (hs : CallsFollow s)
    (hi : Instr.clearsLists i = false) : CallsFollow t := by
  have next {u : State} (hu : exec i s = .next u) : u = t := Host.Outcome.next.inj (hu.symm.trans h)
  have settled {u : State} (hu : CallsFollow u) : CallsFollow (settle u) := hu
  cases hm : Instr.movesCall i
  case false =>
    refine hs.of_relisted (exec_relisted h hi) (exec_callKept h hm) ?_
    cases i with
    | callState _ => simp [Instr.movesCall] at hm
    | callRoute _ => simp [Instr.movesCall] at hm
    | jackStateChange _ _ => simp [Instr.movesCall] at hm
    | _ => simp [Instr.relists]
  cases i with
  | callState body =>
    exact next rfl ▸ request_keeps (P := CallsFollow) (fun _ _ _ _ hu => hu) (arrival_callsFollow _ hs)
      (fun _ _ hu => answerCallState_follow body hu)
  | callRoute body =>
    exact next rfl ▸ request_keeps (P := CallsFollow) (fun _ _ _ _ hu => hu) (arrival_callsFollow _ hs)
      (fun _ _ hu => answerCallRoute_follow body hu)
  | jackStateChange p inserted =>
    have hpins : CallsFollow (s.modPins (fun q => { q with jack := q.jack.set p inserted })) :=
      hs.of_within (modPins_within _ s) (modPins_within _ s).callKept
    exact next rfl ▸ .ite (settled (jackChanges_follow p inserted hpins)) hpins
  | powerOnReset => simp [Instr.clearsLists] at hi
  | restart _ => simp [Instr.clearsLists] at hi
  | standby _ => simp [Instr.clearsLists] at hi
  | _ => simp [Instr.movesCall] at hm

theorem exec_follow {i : Instr} {s t : State} (h : exec i s = .next t) (hs : ChimesFollow s ∧ CallsFollow s)
    (hv : Voiced s) : ChimesFollow t ∧ CallsFollow t := by
  have next {u : State} (hu : exec i s = .next u) : u = t := Host.Outcome.next.inj (hu.symm.trans h)
  have arrived (kind : Byte) : ChimesFollow (arrival kind s) ∧ CallsFollow (arrival kind s) :=
    ⟨arrival_follow kind hs.1, arrival_callsFollow kind hs.2⟩
  cases hi : Instr.clearsLists i
  case false => exact ⟨exec_chimesFollow h hs.1 hv hi, exec_callsFollow h hs.2 hi⟩
  cases i with
  | powerOnReset => exact next rfl ▸ entriesFollow_of_reset rfl rfl rfl
  | restart body =>
    exact next rfl ▸ request_keeps (P := fun u => ChimesFollow u ∧ CallsFollow u) (fun _ _ _ _ hu => hu) (arrived _)
      (fun _ _ _ => entriesFollow_of_reset rfl rfl rfl)
  | standby body =>
    exact next rfl ▸ request_keeps (P := fun u => ChimesFollow u ∧ CallsFollow u) (fun _ _ _ _ hu => hu) (arrived _)
      (fun _ _ hu => answerStandby_follow hu)
  | _ => simp [Instr.clearsLists] at hi

theorem entriesFollow_iff (s : State) : EntriesFollow s ↔ ChimesFollow s ∧ CallsFollow s := by
  constructor
  · rintro ⟨hchimes, hcalls⟩
    exact ⟨fun c => hchimes c (Cabin.mem_all c), fun z => hcalls z (Zone.mem_all z)⟩
  · rintro ⟨hchimes, hcalls⟩
    exact ⟨fun c _ => hchimes c, fun z _ => hcalls z⟩

/-- Settles O39: a voice that begins brings its CHIME entries and one that ends takes them away, and the call's CALL entries
move with its state and its route; nothing else touches either class. -/
theorem entriesFollowVoicesAndCalls : Obligations.EntriesFollowVoicesAndCalls := by
  unfold Obligations.EntriesFollowVoicesAndCalls
  intro s t hs hchimes _ hstep
  rw [entriesFollow_iff] at hs ⊢
  rcases step_cases hstep with ⟨_, rfl⟩ | ⟨i, rest, _, hexec⟩
  · exact hs
  · exact exec_follow (s := s.setPending rest) hexec hs (hchimes.voiced.of_keys rfl fun v => by cases v <;> rfl)

end Sys2Proof.Machine
end

section
/-! SUPPORT. The zone requests' operands, and the settings that SELECT_SOURCE, SET_VOLUME, SET_MUTE and the level requests store
(R36 to R42, R131, R134). -/

-- One declaration at a time: together they would start more threads than the check's memory limit has stacks for.
set_option Elab.async false

namespace Sys2Proof.Machine

/-! ### Operands -/

theorem readSourceOrNone_code (src : Option Source) : readSourceOrNone (byte ((src.map Source.code).getD 255)) = some src := by
  rcases src with _ | src
  · rfl
  · cases src <;> rfl

theorem readSource_code (src : Source) : readSource (byte src.code) = some src := by cases src <;> rfl

/-- Behind the sources that have a trim comes CHIME, and then none. -/
theorem readSource_untrimmed {b : Byte} (h : 6 ≤ b.toNat) : readSource b = none ∨ readSource b = some .chime := by
  revert b
  decide

theorem readClass_code (cls : Class) : readClass (byte cls.code) = some cls := by cases cls <;> rfl

theorem readClass_none {b : Byte} (h : b = 0#8 ∨ 6 ≤ b.toNat) : readClass b = none := by
  revert b
  decide

/-- Outside CALL, PROMPT and TRAFFIC no class has a duck depth to be set. -/
theorem readClass_unducked {b : Byte} (h : b.toNat < 2 ∨ 5 ≤ b.toNat) :
    readClass b = none ∨ readClass b = some .chime ∨ readClass b = some .base := by
  revert b
  decide

theorem readBit_code (on : Bool) : readBit (byte on.toNat) = some on := by cases on <;> rfl

theorem readBit_none {b : Byte} (h : 2 ≤ b.toNat) : readBit b = none := by
  revert b
  decide

theorem readDepth_number {b : Byte} (h : b ≠ 255#8) : readDepth b.toNat = .num (min b.toNat 240) :=
  if_neg fun hb => h (BitVec.eq_of_toNat_eq hb)

/-! ### The zone requests in CONFIG and RUN (R16) -/

/-- The requests of section 3.3 that set a zone setting in CONFIG and RUN. -/
abbrev zoneKinds : List Kind :=
  [.selectSource, .setVolume, .setMute, .setBalanceFader, .setSpeedLift, .setRearQuiet, .setSourceTrim, .setClassDuck]

theorem accepted_zone {k : Kind} {o : OpState} (hk : k ∈ zoneKinds) (ho : o = .config ∨ o = .run) : accepted k o = true := by
  simp only [List.mem_cons, List.not_mem_nil, or_false] at hk
  rcases hk with rfl | rfl | rfl | rfl | rfl | rfl | rfl | rfl <;> rcases ho with rfl | rfl <;> rfl

/-! ### The level settings (R40 to R42) -/

theorem answerTrim_stores {u : State} {src : Source} (x : Byte) (h : src ≠ .chime) :
    answerTrim [byte src.code, x] u =
      accept { u with zr := { u.zr with trims := u.zr.trims.set src (min (max x.toInt (-48)) 24) } }
        [byte src.code, BitVec.ofInt 8 (min (max x.toInt (-48)) 24)] := by
  simp only [answerTrim, readSource_code]
  cases src with
  | chime => exact absurd rfl h
  | _ => rfl

theorem answerTrim_refuses {u : State} {x y : Byte} (h : 6 ≤ y.toNat) : answerTrim [y, x] u = refuse u .outOfRange := by
  rcases readSource_untrimmed h with hread | hread <;> simp only [answerTrim, hread]

theorem answerDuck_refuses {u : State} {x y : Byte} (h : y.toNat < 2 ∨ 5 ≤ y.toNat) :
    answerDuck [y, x] u = refuse u .outOfRange := by
  rcases readClass_unducked h with hread | hread | hread <;> simp only [answerDuck, hread]

theorem answerRearQuiet_number {u : State} {x : Byte} (h : x ≠ 255#8) :
    answerRearQuiet [1#8, x] u =
      accept { u with zr := { u.zr with cabin := { u.zr.cabin with rearQuiet := some (.num (min x.toNat 240)) } } }
        [1#8, byte (min x.toNat 240)] := by
  have hread : readBit 1#8 = some true := rfl
  simp only [answerRearQuiet, hread, if_true, readDepth_number h]
  rfl

theorem answerRearQuiet_refuses {u : State} {x y : Byte} (h : 2 ≤ y.toNat) :
    answerRearQuiet [y, x] u = refuse u .outOfRange := by
  simp only [answerRearQuiet, readBit_none h]

/-- The depths of CALL, PROMPT and TRAFFIC are replaced by what the depth byte is read as. -/
theorem answerDuck_stores (u : State) (x : Byte) {cls : Class} (h : cls = .call ∨ cls = .prompt ∨ cls = .traffic) :
    answerDuck [byte cls.code, x] u =
      accept { u with zr := { u.zr with ducks := u.zr.ducks.set cls (readDepth x.toNat) } }
        (byte cls.code :: depthField (readDepth x.toNat)) := by
  simp only [answerDuck, readClass_code]
  rcases h with rfl | rfl | rfl <;> rfl

/-- Settles O22: each request's own rule stores what its bytes are read as, clamped (`answerTrim_stores` and the lemmas beside
it). -/
theorem levelSettingsAreStored : Obligations.LevelSettingsAreStored := by
  unfold Obligations.LevelSettingsAreStored
  rintro s _ _ _ _ _ x y src rfl rfl rfl rfl rfl hop
  have ready {k : Kind} (hk : k ∈ zoneKinds) : Ready k s := by
    refine accepted_zone hk ?_
    simpa only [atRequest, arrival_sc] using hop
  have ducked {cls : Class} (h : cls = .call ∨ cls = .prompt ∨ cls = .traffic) (b : Byte) :=
    exec_next_accepting (i := .setClassDuck [byte cls.code, b]) (act := answerDuck _) rfl rfl (ready (by decide))
      (answerDuck_stores (atRequest .setClassDuck s) b h)
  refine ⟨?_, ?_, ?_, ?_, fun hx => ?_, fun hy => ?_, fun hsrc => ?_, fun hy => ?_, fun hx => ⟨?_, ?_, ?_⟩, ?_, ?_, ?_,
    fun hy => ?_⟩
  · exact exec_next_accepting (act := answerBalance _) rfl rfl (ready (by decide)) rfl
  · exact exec_next_accepting (act := answerSpeedLift _) rfl rfl (ready (by decide)) rfl
  · exact exec_next_accepting (act := answerRearQuiet _) rfl rfl (ready (by decide)) rfl
  · exact exec_next_accepting (act := answerRearQuiet _) rfl rfl (ready (by decide)) rfl
  · exact exec_next_accepting (act := answerRearQuiet _) rfl rfl (ready (by decide)) (answerRearQuiet_number hx)
  · exact exec_next_refusing (act := answerRearQuiet _) rfl rfl (ready (by decide)) (answerRearQuiet_refuses hy)
  · exact exec_next_accepting (act := answerTrim _) rfl rfl (ready (by decide)) (answerTrim_stores x hsrc)
  · exact exec_next_refusing (act := answerTrim _) rfl rfl (ready (by decide)) (answerTrim_refuses hy)
  · have h := ducked (.inl rfl) x
    rwa [readDepth_number hx] at h
  · have h := ducked (.inr (.inl rfl)) x
    rwa [readDepth_number hx] at h
  · have h := ducked (.inr (.inr rfl)) x
    rwa [readDepth_number hx] at h
  · exact ducked (.inl rfl) 255#8
  · exact ducked (.inr (.inl rfl)) 255#8
  · exact ducked (.inr (.inr rfl)) 255#8
  · exact exec_next_refusing (act := answerDuck _) rfl rfl (ready (by decide)) (answerDuck_refuses hy)

end Sys2Proof.Machine
end

section
/-! SUPPORT. Steps, mute flags and base sources (R36 to R39, R131, R134, R149): what SET_VOLUME, SET_MUTE and SELECT_SOURCE leave. -/

-- One declaration at a time: together they would start more threads than the check's memory limit has stacks for.
set_option Elab.async false

namespace Sys2Proof.Machine

/-! ### A request that its owner accepts -/

/-- A command's change and the reply that follows it. -/
theorem Within.accepted_keepsBut {bs : List Block} {s t : State} (h : Within bs s t) (k : Kind) (body : Bytes) :
    keepsBut (.cp :: bs) s (t.accepting k body) :=
  h.same.trans ((accepting_keepsBut t k body).mono (by simp))

/-! ### Volume steps (R38, R149) -/

theorem setCabinStep_zr (cls : Class) (n : Nat) (u : State) :
    (setCabinStep cls n u).zr = { u.zr with cabin := u.zr.cabin.setStep cls n } := by
  unfold setCabinStep
  dsimp only
  split
  · rw [restartCanceller_eq]
    rfl
  · rfl

/-- A cabin step of a class is the step set. -/
theorem volumeStep_setCabinStep {cls : Class} (h : cls ≠ .chime) (n : Nat) (u : State) (c : Cabin) :
    volumeStep (setCabinStep cls n u) (.cabin c) cls = n := by
  cases cls with
  | chime => exact absurd rfl h
  | _ => simp only [volumeStep, setCabinStep_zr, CabinSettings.setStep]

/-- Only a change of the CALL step restarts a canceller, and only a running one. -/
theorem setCabinStep_canceller (cls : Class) (n : Nat) (u : State) :
    if cls = .call ∧ n ≠ u.zr.cabin.volCall ∧ u.clp.canceller ≠ .bypass then
      (setCabinStep cls n u).clp = u.clp.recovering
    else (setCabinStep cls n u).clp = u.clp ∧ (setCabinStep cls n u).cp.reports = u.cp.reports := by
  by_cases hchange : cls = .call ∧ n ≠ u.zr.cabin.volCall
  · obtain ⟨hcall, hn⟩ := hchange
    have hstep : setCabinStep cls n u = restartCanceller (modCabin (fun c => c.setStep cls n) u) :=
      if_pos ⟨hcall, hn⟩
    by_cases hbypass : u.clp.canceller = .bypass
    · have hrests : restartCanceller (modCabin (fun c => c.setStep cls n) u) = modCabin (fun c => c.setStep cls n) u := by
        have hstopped : cancellerRunning (modCabin (fun c => c.setStep cls n) u) = false :=
          (bne_eq_false_iff_eq (a := u.clp.canceller)).2 hbypass
        exact if_neg (by simp [hstopped])
      rw [if_neg fun h => h.2.2 hbypass, hstep, hrests]
      exact ⟨rfl, rfl⟩
    · rw [if_pos ⟨hcall, hn, hbypass⟩, hstep, restartCanceller_eq]
      exact if_neg hbypass
  · have hstep : setCabinStep cls n u = modCabin (fun c => c.setStep cls n) u := if_neg hchange
    rw [if_neg fun h => hchange ⟨h.1, h.2.1⟩, hstep]
    exact ⟨rfl, rfl⟩

section
variable {u : State} {c : Cabin} {h : Hp} {cls : Class} {nb zb : Byte}

theorem answerVolume_cabin (hcls : cls ≠ .chime) :
    answerVolume [byte (zoneCode (.cabin c)), byte cls.code, nb] u =
      accept (setCabinStep cls (min nb.toNat 40) u)
        [byte (zoneCode (.cabin c)), byte cls.code, byte (min nb.toNat 40)] := by
  simp only [answerVolume, readZone_code, readClass_code, if_neg hcls]
  rfl

theorem answerVolume_chime : answerVolume [byte (zoneCode (.cabin c)), 1#8, nb] u = refuse u .outOfRange := by
  have hread : readClass 1#8 = some .chime := rfl
  simp only [answerVolume, readZone_code, hread, if_true]

theorem answerVolume_badZone {b : Byte} (hzone : 5 ≤ zb.toNat) : answerVolume [zb, b, nb] u = refuse u .outOfRange := by
  simp only [answerVolume, readZone_none hzone]

theorem answerVolume_badClass {b : Byte} (hclass : zb = 0#8 ∨ 6 ≤ zb.toNat) :
    answerVolume [b, zb, nb] u = refuse u .outOfRange := by
  simp only [answerVolume, readClass_none hclass]
  rcases readZone b with _ | c | h <;> rfl

theorem answerVolume_unfitted (hfit : hpIsFitted u h = false) :
    answerVolume [byte (zoneCode (.hp h)), byte cls.code, nb] u = refuse u .notFitted := by
  simp only [answerVolume, readZone_code, readClass_code, hfit, if_true]

/-- A fitted headphone zone takes a BASE or a CALL step within its ceiling, and has no other. -/
theorem answerVolume_hp (hfit : hpIsFitted u h = true) :
    answerVolume [byte (zoneCode (.hp h)), byte cls.code, nb] u =
      match cls with
      | .base => accept (modHp h (fun r => { r with volBase := min (min nb.toNat 40) (u.zr.hps.get h).ceiling }) u)
          [byte (zoneCode (.hp h)), byte cls.code, byte (min (min nb.toNat 40) (u.zr.hps.get h).ceiling)]
      | .call => accept (modHp h (fun r => { r with volCall := min (min nb.toNat 40) (u.zr.hps.get h).ceiling }) u)
          [byte (zoneCode (.hp h)), byte cls.code, byte (min (min nb.toNat 40) (u.zr.hps.get h).ceiling)]
      | _ => refuse u .outOfRange := by
  simp only [answerVolume, readZone_code, readClass_code, hfit, Bool.true_eq_false, if_false]
  cases cls <;> rfl

end

/-! ### Mute flags (R39, R48) -/

theorem answerMute_of_codes (u : State) (z : Zone) (on : Bool) :
    answerMute [byte (zoneCode z), byte on.toNat] u =
      if zoneUnfitted u z then refuse u .notFitted
      else accept (setMuteFlag z on u) [byte (zoneCode z), byte on.toNat] := by
  simp only [answerMute, readZone_code, readBit_code]

/-- Settles O21: SET_VOLUME's cabin step is `setCabinStep`'s, which restarts a canceller as `setCabinStep_canceller` says, and
every other outcome is the request's own rule read off its bytes. -/
theorem volumeAndMuteAreSet : Obligations.VolumeAndMuteAreSet := by
  unfold Obligations.VolumeAndMuteAreSet
  constructor
  · rintro s _ c h cls nb zb _ _ rfl hop rfl rfl
    have hready : Ready .setVolume s := accepted_zone (by decide) hop
    refine ⟨fun hcls => ?_, ?_, fun hzb => ?_, fun hzb => ?_, fun hfit => ?_, fun hfit => ⟨?_, ?_, fun hb hc => ?_⟩⟩
    · refine ⟨_, exec_next_accepting (act := answerVolume _) rfl rfl hready (answerVolume_cabin hcls),
        setCabinStep_zr _ _ _, ?_, rfl, setCabinStep_canceller _ _ _, ?_⟩
      · exact volumeStep_setCabinStep hcls _ _ c
      · exact (setCabinStep_within cls _ _).accepted_keepsBut _ _
    · exact exec_next_refusing (act := answerVolume _) rfl rfl hready answerVolume_chime
    · exact exec_next_refusing (act := answerVolume _) rfl rfl hready (answerVolume_badZone hzb)
    · exact exec_next_refusing (act := answerVolume _) rfl rfl hready (answerVolume_badClass hzb)
    · exact exec_next_refusing (act := answerVolume _) rfl rfl hready (answerVolume_unfitted hfit)
    · exact exec_next_accepting (act := answerVolume _) rfl rfl hready (answerVolume_hp (cls := .base) hfit)
    · exact exec_next_accepting (act := answerVolume _) rfl rfl hready (answerVolume_hp (cls := .call) hfit)
    · refine exec_next_refusing (act := answerVolume _) rfl rfl hready ((answerVolume_hp hfit).trans ?_)
      cases cls with
      | base => exact absurd rfl hb
      | call => exact absurd rfl hc
      | _ => rfl
  · rintro s _ z on zb rfl hop
    have hready : Ready .setMute s := accepted_zone (by decide) hop
    refine ⟨fun hzb => ?_, fun hzb => ?_, fun hfit => ?_, fun hfit hsame => ?_, fun hfit hnew => ?_⟩
    · exact exec_next_refusing (act := answerMute _) rfl rfl hready (by simp only [answerMute, readZone_none hzb])
    · exact exec_next_refusing (act := answerMute _) rfl rfl hready (by simp only [answerMute, readZone_code, readBit_none hzb])
    · exact exec_next_refusing (act := answerMute _) rfl rfl hready ((answerMute_of_codes _ z on).trans (if_pos hfit))
    · refine exec_next_accepting (act := answerMute _) rfl rfl hready ?_
      rw [answerMute_of_codes, hfit, setMuteFlag, if_pos hsame]
      rfl
    · refine exec_next_accepting (act := answerMute _) rfl rfl hready ?_
      rw [answerMute_of_codes, hfit, setMuteFlag, if_neg hnew]
      cases z <;> rfl

/-! ### RX-B's release (R109, R119, R123) -/

theorem releaseB_sweeps {u : State} (h : u.slm.scanning = true ∧ isPlaying u = true) :
    (releaseB u).slm = { u.slm with holder := .scan, dwell := none, quickThreshold := u.slm.threshold } ∧
      (releaseB u).rx = (orderB u.slm.position .scanning u).rx := by
  obtain ⟨hscan, hplay⟩ := h
  unfold releaseB visitPosition
  rw [if_pos (by rw [hscan, hplay]; rfl), orderB_rx, orderB_rx, (orderB_within _ _ _).same .slm (by decide)]
  exact ⟨rfl, rfl⟩

theorem releaseB_idles {u : State} (h : ¬(u.slm.scanning = true ∧ isPlaying u = true)) :
    (releaseB u).slm = { u.slm with holder := .none, dwell := none } ∧
      (releaseB u).rx = { u.rx with b := { u.rx.b with
        state := .idle, settle := none, qs := none, record := DataRecord.empty } } := by
  unfold releaseB
  rw [if_neg (by simpa using h), (idleB_within _).same .slm (by decide)]
  refine ⟨rfl, ?_⟩
  unfold idleB
  rw [changeReceiver_rx]
  rfl

/-- RX-B after its release visits the sweep's position where the sweep may run, and is IDLE otherwise; its record is cleared
and RX-A is left alone. -/
theorem releaseB_leaves (u : State) {p : Prop} [Decidable p] (hp : p ↔ u.slm.scanning = true ∧ isPlaying u = true) :
    (releaseB u).rx.a = u.rx.a ∧
      (if p then
        (releaseB u).slm = { u.slm with holder := .scan, dwell := none, quickThreshold := u.slm.threshold } ∧
          (releaseB u).rx.b.state = .scanning ∧ (releaseB u).rx.b.station = u.slm.position ∧
          (releaseB u).rx.b.settle = some (settleMs u.slm.position.band)
      else (releaseB u).slm = { u.slm with holder := .none, dwell := none } ∧ (releaseB u).rx.b.state = .idle ∧
        (releaseB u).rx.b.settle = none) ∧
      (releaseB u).rx.b.record = DataRecord.empty := by
  by_cases h : p
  · obtain ⟨hslm, hrx⟩ := releaseB_sweeps (hp.1 h)
    rw [if_pos h, hslm, hrx, orderB_rx]
    exact ⟨rfl, ⟨rfl, rfl, rfl, rfl⟩, rfl⟩
  · obtain ⟨hslm, hrx⟩ := releaseB_idles (mt hp.2 h)
    rw [if_neg h, hslm, hrx]
    exact ⟨rfl, ⟨rfl, rfl, rfl⟩, rfl⟩

/-! ### Base sources (R37, R131, R134) -/

theorem hasBgt_setHpBase (h g : Hp) (src : Option Source) (u : State) :
    hasBgt (setHpBase h src u) g = if g = h then src == some .bgt else hasBgt u g := by
  simp only [hasBgt, setHpBase, modHp, State.modZr_zr, PerHp.get_set]
  split <;> rfl

/-- While a zone stays on BGT, or none was, RX-B keeps its holder. -/
theorem changeHpBase_holds {u : State} {h : Hp} {src : Option Source}
    (hkeep : src = some .bgt ∨ hasBgt u h = false ∨ hasBgt u (Hp.other h) = true) :
    changeHpBase h src u = setHpBase h src u := by
  refine if_neg fun hlast => ?_
  simp only [hasBgt_setHpBase, Bool.and_eq_true, Bool.not_eq_true'] at hlast
  obtain ⟨⟨hbgt, hl⟩, hr⟩ := hlast
  cases h <;> simp_all [Hp.other]

/-- The last zone that leaves BGT releases RX-B. -/
theorem changeHpBase_releases {u : State} {h : Hp} {src : Option Source} (hsrc : src ≠ some .bgt)
    (hbgt : hasBgt u h = true) (hother : hasBgt u (Hp.other h) = false) :
    changeHpBase h src u = releaseB (setHpBase h src u) := by
  refine if_pos ?_
  simp only [hasBgt_setHpBase, Bool.and_eq_true, Bool.not_eq_true']
  cases h <;> simp_all [Hp.other]

section
variable {u : State} {c : Cabin} {h : Hp} {src : Option Source}

theorem answerSelect_cabin :
    answerSelect [byte (zoneCode (.cabin c)), byte ((src.map Source.code).getD 255)] u =
      if cabinAllows src then
        accept (setCabinBase src u) [byte (zoneCode (.cabin c)), byte ((src.map Source.code).getD 255)]
      else refuse u .outOfRange := by
  simp only [answerSelect, readZone_code, readSourceOrNone_code]

theorem answerSelect_badZone {zb sb : Byte} (hzone : 5 ≤ zb.toNat) : answerSelect [zb, sb] u = refuse u .outOfRange := by
  simp only [answerSelect, readZone_none hzone]

theorem answerSelect_hp :
    answerSelect [byte (zoneCode (.hp h)), byte ((src.map Source.code).getD 255)] u =
      if hpIsFitted u h = false then refuse u .notFitted
      else if hpAllows src = false then refuse u .outOfRange
      else if src = some .bgt ∧ hasBgt u h = false ∧ hasBgt u (Hp.other h) = false then refuse u .wrongState
      else accept (changeHpBase h src u) [byte (zoneCode (.hp h)), byte ((src.map Source.code).getD 255)] := by
  simp only [answerSelect, readZone_code, readSourceOrNone_code]

end

/-- The sources a cabin base source may take; a headphone zone's may take them too (R37). -/
theorem cabinAllows_of_mem {src : Option Source} (h : src ∈ [none, some Source.fgt, some .meda, some .medb]) :
    cabinAllows src = true ∧ hpAllows src = true ∧ src ≠ some .bgt := by
  simp only [List.mem_cons, List.not_mem_nil, or_false] at h
  rcases h with rfl | rfl | rfl | rfl <;> exact ⟨rfl, rfl, by decide⟩

/-- Settles O20: the request's own rule by zone, and for the last zone that leaves BGT the release of RX-B. -/
theorem sourceIsSelected : Obligations.SourceIsSelected := by
  unfold Obligations.SourceIsSelected
  rintro s _ c h src _ zb rfl hop rfl
  have hready : Ready .selectSource s := accepted_zone (by decide) hop
  have hp {t : State} (hact : answerSelect [byte (zoneCode (.hp h)), byte ((src.map Source.code).getD 255)]
      (atRequest .selectSource s) = accept t [byte (zoneCode (.hp h)), byte ((src.map Source.code).getD 255)]) :=
    exec_next_accepting (i := .selectSource _) (act := answerSelect _) rfl rfl hready hact
  refine ⟨fun hsrc => ?_, fun hsrc => ?_, fun hzb => ?_, fun hfit => ?_, fun hfit hsrc => ?_, fun hfit hsrc hl hr => ?_,
    fun hfit hsrc => ?_, fun hfit hsrc hbgt hother => ?_⟩
  · refine exec_next_accepting (act := answerSelect _) rfl rfl hready ?_
    rw [answerSelect_cabin, (cabinAllows_of_mem hsrc).1, if_pos rfl]
    rfl
  · refine exec_next_refusing (act := answerSelect _) rfl rfl hready ?_
    simp only [List.mem_cons, List.not_mem_nil, or_false] at hsrc
    rw [answerSelect_cabin, if_neg (by rcases hsrc with rfl | rfl | rfl | rfl <;> decide)]
  · exact exec_next_refusing (act := answerSelect _) rfl rfl hready (answerSelect_badZone hzb)
  · exact exec_next_refusing (act := answerSelect _) rfl rfl hready (answerSelect_hp.trans (if_pos hfit))
  · refine exec_next_refusing (act := answerSelect _) rfl rfl hready ?_
    simp only [List.mem_cons, List.not_mem_nil, or_false] at hsrc
    rw [answerSelect_hp, if_neg (by simp [hfit]), if_pos (by rcases hsrc with rfl | rfl | rfl <;> rfl)]
  · refine exec_next_refusing (act := answerSelect _) rfl rfl hready ?_
    have hnone : hasBgt (atRequest .selectSource s) h = false ∧ hasBgt (atRequest .selectSource s) (Hp.other h) = false := by
      cases h <;> exact ⟨by assumption, by assumption⟩
    rw [answerSelect_hp, if_neg (by simp [hfit]), if_neg (by rw [hsrc]; decide), if_pos ⟨hsrc, hnone⟩]
  · refine hp (t := setHpBase h src _) ?_
    rw [answerSelect_hp, if_neg (by simp [hfit])]
    rcases hsrc with ⟨rfl, hheld⟩ | ⟨hmem, hstays⟩
    · have hnot : ¬(hasBgt (atRequest .selectSource s) h = false ∧ hasBgt (atRequest .selectSource s) (Hp.other h) = false) := by
        rintro ⟨hown, hother⟩
        cases h <;> rcases hheld with hheld | hheld <;> simp_all [Hp.other]
      rw [if_neg (by decide), if_neg fun hbad => hnot hbad.2, changeHpBase_holds (.inl rfl)]
    · obtain ⟨-, hallows, hne⟩ := cabinAllows_of_mem hmem
      rw [if_neg (by simp [hallows]), if_neg fun hbad => hne hbad.1, changeHpBase_holds (.inr hstays)]
  · obtain ⟨-, hallows, hne⟩ := cabinAllows_of_mem hsrc
    have hact : answerSelect [byte (zoneCode (.hp h)), byte ((src.map Source.code).getD 255)] (atRequest .selectSource s) =
        accept (releaseB (setHpBase h src (atRequest .selectSource s)))
          [byte (zoneCode (.hp h)), byte ((src.map Source.code).getD 255)] := by
      rw [answerSelect_hp, if_neg (by simp [hfit]), if_neg (by simp [hallows]), if_neg fun hbad => hne hbad.1,
        changeHpBase_releases hne hbgt hother]
    have hwithin := ((setHpBase_within h src (atRequest .selectSource s)).trans (releaseB_within _)).mono (bs := [.zr, .rx, .slm])
    have hsweeps : (atRequest .selectSource s).slm.scanning = true ∧ (atRequest .selectSource s).sc.opState = .run ↔
        (setHpBase h src (atRequest .selectSource s)).slm.scanning = true ∧
          isPlaying (setHpBase h src (atRequest .selectSource s)) = true := by
      refine and_congr_right fun _ => ?_
      show _ ↔ ((atRequest .selectSource s).sc.opState == .run || (atRequest .selectSource s).sc.opState == .failsafe) = true
      rcases hop with hop | hop <;> simp [hop]
    have hzr : (releaseB (setHpBase h src (atRequest .selectSource s))).zr = (setHpBase h src (atRequest .selectSource s)).zr :=
      (releaseB_within _).zr_eq
    obtain ⟨ha, hholder, hrecord⟩ := releaseB_leaves _ hsweeps
    exact ⟨_, hp hact, hzr, rfl, ha, hholder, hrecord, hwithin.accepted_keepsBut _ _⟩

end Sys2Proof.Machine
end

section
/-! SUPPORT. The cabin lists changed one after another, with ZONE_STATE for each that changes (R44, R48, R51): the prompts. -/

-- One declaration at a time: together they would start more threads than the check's memory limit has stacks for.
set_option Elab.async false

namespace Sys2Proof.Machine

/-! ### A change report that is posted stays -/

/-- A report of a kind and subject stands in the queue. -/
abbrev ControlPort.tells (c : ControlPort) (k : ReportKind) (n : Nat) : Prop :=
  (c.reports.any fun r => r.kind == k && r.subject == n) = true

theorem ControlPort.tells_enqueue {c : ControlPort} {k : ReportKind} {n : Nat} (r : Report) (h : c.tells k n) :
    (c.enqueue r).tells k n := by
  rw [ControlPort.enqueue_by_case]
  split
  · obtain ⟨q, hq, hkey⟩ := List.any_eq_true.1 h
    refine List.any_eq_true.2 ⟨_, List.mem_map_of_mem hq, ?_⟩
    split <;> exact hkey
  · split
    · obtain ⟨q, hq, hkey⟩ := List.any_eq_true.1 h
      exact List.any_eq_true.2 ⟨q, List.mem_append_left _ hq, hkey⟩
    · exact h

theorem Posted.tells {c d : ControlPort} {k : ReportKind} {n : Nat} (h : Posted c d) (hc : c.tells k n) : d.tells k n := by
  induction h with
  | refl => exact hc
  | report r _ ih => exact ControlPort.tells_enqueue r ih

/-- A report that finds room, or one of its kind and subject, stands in the queue. -/
theorem post_tells {k : ReportKind} {n : Nat} {s : State} (d : Bytes) (hroom : s.cp.reports.length < 24) :
    (post k n d s).cp.tells k n := by
  rw [post_cp]
  show ((s.cp.enqueue _).reports.any _) = true
  rw [ControlPort.enqueue_by_case]
  split
  · rename_i h
    obtain ⟨q, hq, hkey⟩ := List.any_eq_true.1 h.2
    refine List.any_eq_true.2 ⟨_, List.mem_map_of_mem hq, ?_⟩
    split <;> exact hkey
  · simp

/-! ### Cabin lists changed one after another -/

/-- The lists of cabin zones changed one after another by one rule. -/
def relistAll (g : List Entry → List Entry) (zs : List Cabin) (s : State) : State :=
  zs.foldl (fun s c => changeList (.cabin c) (g (listOf s (.cabin c))) s) s

theorem startPrompts_eq (zs : List Cabin) (s : State) : startPrompts zs s = relistAll (insertIn promptEntry) zs s := rfl

theorem endPrompts_eq (zs : List Cabin) (s : State) : endPrompts zs s = relistAll (removeFrom .prompt) zs s := rfl

theorem removeTraffic_eq (s : State) : removeTraffic s = relistAll (removeFrom .traffic) Cabin.all s := rfl

section
variable (g : List Entry → List Entry)

theorem relistAll_within (zs : List Cabin) (s : State) : Within [.zr] s (relistAll g zs s) :=
  .foldl (fun s _ => changeList_within _ _ s) zs s

/-- Each zone named once has its list changed once, and no other zone's list changes. -/
theorem listOf_relistAll {zs : List Cabin} (hzs : zs.Nodup) (s : State) (c : Cabin) :
    listOf (relistAll g zs s) (.cabin c) = if c ∈ zs then g (listOf s (.cabin c)) else listOf s (.cabin c) := by
  induction zs generalizing s with
  | nil => rfl
  | cons z zs ih =>
    obtain ⟨hz, hzs⟩ := List.nodup_cons.1 hzs
    have hstep : relistAll g (z :: zs) s = relistAll g zs (changeList (.cabin z) (g (listOf s (.cabin z))) s) := rfl
    rw [hstep, ih hzs, listOf_changeList]
    by_cases hc : c = z
    · subst hc
      simp [hz]
    · simp [hc]

theorem changeList_length_le (z : Zone) (l : List Entry) (s : State) :
    (changeList z l s).cp.reports.length ≤ s.cp.reports.length + 1 := by
  unfold changeList
  split
  · omega
  · exact post_length_le _ _ _ (setList z l s)

theorem relistAll_length_le (zs : List Cabin) (s : State) :
    (relistAll g zs s).cp.reports.length ≤ s.cp.reports.length + zs.length := by
  induction zs generalizing s with
  | nil => simp [relistAll]
  | cons z zs ih =>
    have hhead := changeList_length_le (.cabin z) (g (listOf s (.cabin z))) s
    have htail : (relistAll g (z :: zs) s).cp.reports.length ≤
        (changeList (.cabin z) (g (listOf s (.cabin z))) s).cp.reports.length + zs.length := ih _
    rw [List.length_cons]
    omega

/-- ZONE_STATE tells of every zone whose list changes, while the queue has room for all (R48). -/
theorem relistAll_tells {zs : List Cabin} (hzs : zs.Nodup) {s : State} {c : Cabin} (hc : c ∈ zs)
    (hnew : g (listOf s (.cabin c)) ≠ listOf s (.cabin c)) (hroom : s.cp.reports.length + zs.length ≤ 24) :
    (relistAll g zs s).cp.tells .zoneState (zoneCode (.cabin c)) := by
  induction zs generalizing s with
  | nil => simp at hc
  | cons z zs ih =>
    obtain ⟨hz, hzs⟩ := List.nodup_cons.1 hzs
    have hstep : relistAll g (z :: zs) s = relistAll g zs (changeList (.cabin z) (g (listOf s (.cabin z))) s) := rfl
    rw [List.length_cons] at hroom
    rw [hstep]
    rcases List.mem_cons.1 hc with rfl | hc
    · refine (relistAll_within g zs _).posted.tells ?_
      rw [changeList, if_neg hnew]
      exact post_tells _ (show s.cp.reports.length < 24 by omega)
    · have hne : c ≠ z := fun h => hz (h ▸ hc)
      have hsame : listOf (changeList (.cabin z) (g (listOf s (.cabin z))) s) (.cabin c) = listOf s (.cabin c) := by
        rw [listOf_changeList, if_neg (by simpa using hne)]
      have hlen := changeList_length_le (.cabin z) (g (listOf s (.cabin z))) s
      exact ih hzs hc (by rwa [hsame]) (by omega)

end

/-! ### What stands beside the lists -/

/-- From one state to another the Zone Router has changed in the cabin lists alone. -/
structure CabinRelisted (s t : State) : Prop where
  router : t.zr = { s.zr with zones := t.zr.zones }
  zones : ∀ c, t.zr.zones.get c = { s.zr.zones.get c with list := listOf t (.cabin c) }

theorem CabinRelisted.refl {s : State} : CabinRelisted s s := ⟨rfl, fun _ => rfl⟩

theorem CabinRelisted.trans {s t u : State} (h : CabinRelisted s t) (h' : CabinRelisted t u) : CabinRelisted s u :=
  ⟨by rw [h'.router, h.router], fun c => by rw [h'.zones c, h.zones c]⟩

theorem changeList_cabinRelisted (z : Cabin) (l : List Entry) (s : State) :
    CabinRelisted s (changeList (.cabin z) l s) := by
  unfold changeList
  split
  · exact .refl
  · refine ⟨rfl, fun c => ?_⟩
    show (s.zr.zones.set z { s.zr.zones.get z with list := l }).get c =
      { s.zr.zones.get c with list := ((s.zr.zones.set z { s.zr.zones.get z with list := l }).get c).list }
    rw [PerCabin.get_set]
    split
    · subst_vars; rfl
    · rfl

theorem relistAll_cabinRelisted (g : List Entry → List Entry) (zs : List Cabin) (s : State) :
    CabinRelisted s (relistAll g zs s) := by
  induction zs generalizing s with
  | nil => exact .refl
  | cons z zs ih => exact (changeList_cabinRelisted z _ s).trans (ih _)

/-! ### Prompts (R51) -/

theorem CabinSet.toList_nodup (z : CabinSet) : z.toList.Nodup := List.Nodup.filter _ (by decide)

theorem CabinSet.toList_length_le (z : CabinSet) : z.toList.length ≤ 3 := List.length_filter_le _ _

/-- The cabin zones that a byte's bits name. -/
def zonesNamed (zb : Byte) : CabinSet := ⟨zb.getLsbD 0, zb.getLsbD 1, zb.getLsbD 2⟩

theorem mem_zonesNamed {zb : Byte} {c : Cabin} :
    c ∈ (zonesNamed zb).toList ↔ zb.getLsbD (zoneCode (.cabin c)) = true := by
  rw [CabinSet.toList, List.mem_filter]
  cases c <;> simp [Cabin.all, zonesNamed, PerCabin.get, zoneCode]

theorem readCabinSet_some {zb : Byte} (h0 : zb ≠ 0#8) (h8 : zb.toNat < 8) : readCabinSet zb = some (zonesNamed zb) := by
  have hpos : 0 < zb.toNat := Nat.pos_of_ne_zero fun h => h0 (BitVec.eq_of_toNat_eq h)
  exact if_pos ⟨hpos, h8⟩

theorem readCabinSet_none {zb : Byte} (h : zb = 0#8 ∨ 8 ≤ zb.toNat) : readCabinSet zb = none := by
  refine if_neg fun hin => ?_
  rcases h with rfl | h8
  · exact absurd hin.1 (by decide)
  · omega

theorem answerPrompts_refuses {act : List Cabin → State → State} {zb : Byte} {u : State}
    (h : zb = 0#8 ∨ 8 ≤ zb.toNat) : answerPrompts act [zb] u = refuse u .outOfRange := by
  simp only [answerPrompts, readCabinSet_none h]

theorem answerPrompts_acts {act : List Cabin → State → State} {zb : Byte} {u : State} (h0 : zb ≠ 0#8) (h8 : zb.toNat < 8) :
    answerPrompts act [zb] u =
      accept (act (zonesNamed zb).toList u) (cabinSetField (promptZones (act (zonesNamed zb).toList u))) := by
  simp only [answerPrompts, readCabinSet_some h0 h8]

/-- What a prompt request leaves, for either rule by which it changes the lists of its zones. -/
theorem relistAll_accepted (g : List Entry → List Entry) (zb : Byte) (u t : State) (k : Kind) (body : Bytes)
    (ht : t = (relistAll g (zonesNamed zb).toList u).accepting k body) :
    (∀ c : Cabin, listOf t (.cabin c) =
        if zb.getLsbD (zoneCode (.cabin c)) = true then g (listOf u (.cabin c)) else listOf u (.cabin c)) ∧
      t.zr = { u.zr with zones := t.zr.zones } ∧
      (∀ c : Cabin, t.zr.zones.get c = { u.zr.zones.get c with list := listOf t (.cabin c) }) ∧
      (∀ c : Cabin, listOf t (.cabin c) ≠ listOf u (.cabin c) → u.cp.reports.length + 3 ≤ 24 →
        t.cp.tells .zoneState (zoneCode (.cabin c))) ∧
      keepsBut [.cp, .zr] u t := by
  subst ht
  have hrelisted := relistAll_cabinRelisted g (zonesNamed zb).toList u
  have hlist (c : Cabin) : listOf (relistAll g (zonesNamed zb).toList u) (.cabin c) =
      if zb.getLsbD (zoneCode (.cabin c)) = true then g (listOf u (.cabin c)) else listOf u (.cabin c) := by
    simp only [listOf_relistAll g (CabinSet.toList_nodup _), mem_zonesNamed]
  refine ⟨hlist, hrelisted.router, hrelisted.zones, fun c hnew hroom => ?_,
    (relistAll_within g _ u).accepted_keepsBut k body⟩
  have hnew' : listOf (relistAll g (zonesNamed zb).toList u) (.cabin c) ≠ listOf u (.cabin c) := hnew
  rw [hlist] at hnew'
  have hlen := CabinSet.toList_length_le (zonesNamed zb)
  by_cases hnamed : zb.getLsbD (zoneCode (.cabin c)) = true
  · rw [if_pos hnamed] at hnew'
    exact relistAll_tells g (CabinSet.toList_nodup _) (mem_zonesNamed.2 hnamed) hnew' (by omega)
  · rw [if_neg hnamed] at hnew'
    exact absurd rfl hnew'

/-- Settles O24: both requests change the lists of the zones they name one after another (`relistAll_accepted`), the one by an
insertion, the other by a removal. -/
theorem promptsComeAndGo : Obligations.PromptsComeAndGo := by
  unfold Obligations.PromptsComeAndGo
  rintro s _ _ zb rfl rfl hop
  have hstart : Ready .promptStart s := by rw [Ready, hop]; rfl
  have hend : Ready .promptEnd s := by
    have hop' : (atRequest .promptEnd s).sc.opState = .run := by
      rw [← hop]
      simp only [atRequest, arrival_sc]
    rw [Ready, hop']
    rfl
  refine ⟨fun hzb => ⟨?_, ?_⟩, fun h0 h8 => ⟨?_, ?_⟩⟩
  · exact exec_next_refusing (act := answerPrompts startPrompts _) rfl rfl hstart (answerPrompts_refuses hzb)
  · exact exec_next_refusing (act := answerPrompts endPrompts _) rfl rfl hend (answerPrompts_refuses hzb)
  · have hexec := exec_next_accepting (i := .promptStart [zb]) (act := answerPrompts startPrompts _) rfl rfl hstart
      (answerPrompts_acts h0 h8)
    rw [startPrompts_eq] at hexec
    obtain ⟨hlist, hrouter, hzones, htells, hkeeps⟩ := relistAll_accepted (insertIn promptEntry) zb _ _ _ _ rfl
    exact ⟨_, hexec, hlist, hrouter, hzones, rfl, htells, hkeeps⟩
  · have hexec := exec_next_accepting (i := .promptEnd [zb]) (act := answerPrompts endPrompts _) rfl rfl hend
      (answerPrompts_acts h0 h8)
    rw [endPrompts_eq] at hexec
    obtain ⟨hlist, hrouter, hzones, htells, hkeeps⟩ := relistAll_accepted (removeFrom .prompt) zb _ _ _ _ rfl
    exact ⟨_, hexec, hlist, hrouter, hzones, rfl, htells, hkeeps⟩

end Sys2Proof.Machine
end

section
/-! SUPPORT. The paths after settling (R35, R44, R54): which stand, which retire, and at what gain. -/

-- One declaration at a time: together they would start more threads than the check's memory limit has stacks for.
set_option Elab.async false

namespace Sys2Proof.Machine

theorem Chan.mem_all (c : Chan) : c ∈ Chan.all := by
  revert c
  rintro (k | k | h)
  · revert k; decide
  · revert k; decide
  · cases h <;> decide

/-- The path that an entry of a zone's list calls for to a channel. -/
def calledPath (z : Zone) (e : Entry) (c : Chan) : Path :=
  { zone := z, cls := e.cls, src := e.src, chan := c, target := .mute, audible := .mute, retiring := false }

/-- The called paths: one for each entry but CHIME of each list and each channel that serves the list's zone. -/
theorem mem_calledPaths {s : State} {p : Path} :
    p ∈ calledPaths s ↔ ∃ e ∈ listOf s p.zone, e.cls ≠ .chime ∧ serves s.install p.zone p.chan = true ∧
      p = calledPath p.zone e p.chan := by
  simp only [calledPaths, List.mem_flatMap, List.mem_map, List.mem_filter, bne_iff_ne, channelsOf]
  constructor
  · rintro ⟨z, _, e, ⟨he, hcls⟩, c, ⟨_, hserves⟩, rfl⟩
    exact ⟨e, he, hcls, hserves, rfl⟩
  · rintro ⟨e, he, hcls, hserves, hp⟩
    exact ⟨p.zone, Zone.mem_all _, e, ⟨he, hcls⟩, p.chan, ⟨Chan.mem_all _, hserves⟩, hp.symm⟩

/-- A path that does not retire is a called one, settled. -/
theorem settled_of_standing {s : State} {p : Path} (hp : p ∈ (settle s).ge.paths) (hstays : p.retiring = false) :
    ∃ q ∈ calledPaths s, settledPath s q = p := by
  rw [settle_paths] at hp
  rcases List.mem_append.1 hp with hp | hp
  · exact List.mem_map.1 hp
  · obtain ⟨r, hr, rfl⟩ := List.mem_map.1 hp
    rw [(retargeted_names s r).2.1, (retiringPaths_mem hr).1] at hstays
    exact absurd hstays (by decide)

/-- A path that retires stood before with the same names and the same audible gain. -/
theorem standing_of_retiring {s : State} {p : Path} (hp : p ∈ (settle s).ge.paths) (hretires : p.retiring = true) :
    p.target = .mute ∧ p.audible ≠ .mute ∧ ∃ q ∈ s.ge.paths, q.sameNames p = true ∧ q.audible = p.audible := by
  rw [settle_paths] at hp
  rcases List.mem_append.1 hp with hp | hp
  · obtain ⟨r, hr, rfl⟩ := List.mem_map.1 hp
    rw [(settledPath_names hr).2.1] at hretires
    exact absurd hretires (by decide)
  · obtain ⟨r, hr, rfl⟩ := List.mem_map.1 hp
    obtain ⟨hretiring, hsound⟩ := retiringPaths_mem hr
    obtain ⟨q, hq, rfl⟩ := List.mem_map.1 hr
    exact ⟨rfl, hsound, q, List.mem_of_mem_filter hq, (sameNames_iff _ _).2 ⟨rfl, rfl, rfl, rfl⟩, rfl⟩

/-- A path that does not retire has the target its names call for and the gain its names had before, MUTE where they are new. -/
theorem settledPath_gains {s : State} {q : Path} (hq : q ∈ calledPaths s) :
    (settledPath s q).target = pathTarget s q.zone q.cls q.src q.chan ∧
      (settledPath s q).audible = ((s.ge.paths.find? (fun r => !r.retiring && r.sameNames q)).map Path.audible).getD .mute := by
  obtain ⟨hfresh, hstays⟩ := calledPaths_fresh hq
  obtain ⟨hnames, hretiring, -⟩ := keepAudible_names s.ge.paths q
  obtain ⟨hzone, hcls, hsrc, hchan⟩ := (sameNames_iff _ _).1 hnames
  refine ⟨?_, ?_⟩
  · unfold settledPath retargeted
    rw [hretiring, hstays, hzone, hcls, hsrc, hchan]
    rfl
  · rw [(settledPath_names hq).2.2]
    unfold keepAudible
    split
    · rename_i r hfind
      rw [hfind]
      rfl
    · rename_i hfind
      rw [hfind, hfresh]
      rfl

/-- Settles O28: the standing paths are the called ones (`mem_calledPaths`), the retiring ones those that stood before. -/
theorem pathsFollowTheLists : Obligations.PathsFollowTheLists := by
  unfold Obligations.PathsFollowTheLists
  rintro s _ z e c rfl
  refine ⟨fun b _ => ?_, fun he hcls hserves => ?_, fun p hp hstays => ?_, fun p hp hretires => ?_⟩
  · by_cases hb : b = .cp
    · subst hb
      rfl
    · exact (settle_within s).same b (by simpa using hb)
  · have hcalled : calledPath z e c ∈ calledPaths s := mem_calledPaths.2 ⟨e, he, hcls, hserves, rfl⟩
    obtain ⟨hnames, hretiring, -⟩ := settledPath_names hcalled
    obtain ⟨hzone, hsamecls, hsrc, hchan⟩ := (sameNames_iff _ _).1 hnames
    refine List.any_eq_true.2 ⟨settledPath s (calledPath z e c), ?_, ?_⟩
    · rw [settle_paths]
      exact List.mem_append_left _ (List.mem_map_of_mem hcalled)
    · rw [hzone, hsamecls, hsrc, hchan, hretiring]
      simp [calledPath]
  · obtain ⟨q, hq, rfl⟩ := settled_of_standing hp hstays
    obtain ⟨hnames, -, -⟩ := settledPath_names hq
    obtain ⟨hzone, hcls, hsrc, hchan⟩ := (sameNames_iff _ _).1 hnames
    obtain ⟨htarget, haudible⟩ := settledPath_gains hq
    obtain ⟨x, hx, hxcls, hserves, heq⟩ := mem_calledPaths.1 hq
    have hqcls : q.cls = x.cls := congrArg Path.cls heq
    have hqsrc : q.src = x.src := congrArg Path.src heq
    have hfind : (fun r : Path => !r.retiring && r.sameNames (settledPath s q)) = (fun r => !r.retiring && r.sameNames q) :=
      funext fun r => by rw [sameNames_congr hnames]
    rw [hzone, hcls, hsrc, hchan, hfind]
    refine ⟨hserves, List.any_eq_true.2 ⟨x, hx, ?_⟩, htarget, haudible⟩
    simp [hqcls, hqsrc, hxcls]
  · obtain ⟨htarget, hsound, q, hq, hnames, hgain⟩ := standing_of_retiring hp hretires
    exact ⟨htarget, hsound, List.any_eq_true.2 ⟨q, hq, by simp [hnames, hgain]⟩⟩

end Sys2Proof.Machine
end

section
/-! SUPPORT. The traffic watch (R50, R128 to R130): announcements that begin and end, and the no-carrier note. -/

-- One declaration at a time: together they would start more threads than the check's memory limit has stacks for.
set_option Elab.async false

namespace Sys2Proof.Machine

/-! ### The end of an announcement (R50, R130) -/

theorem endAnnouncement_of_some {cause : EndCause} {s : State} (h : s.tw.announcement ≠ none) :
    endAnnouncement cause s = post .trafficEnded 0 (u8 cause.code)
      ((removeTraffic s).modTw (fun w => { w with announcement := none, bridge := none })) := by
  unfold endAnnouncement
  split
  · exact absurd ‹_› h
  · rfl

theorem removeTraffic_tw (s : State) : (removeTraffic s).tw = s.tw := (removeTraffic_within s).same .tw (by decide)

theorem endAnnouncement_tw (cause : EndCause) (s : State) :
    (endAnnouncement cause s).tw =
      { s.tw with announcement := none, bridge := if s.tw.announcement = none then s.tw.bridge else none } := by
  by_cases h : s.tw.announcement = none
  · rw [endAnnouncement_of_none h, if_pos h, ← h]
  · rw [endAnnouncement_of_some h, if_neg h]
    show { (removeTraffic s).tw with announcement := none, bridge := none } = _
    rw [removeTraffic_tw]

/-- The TRAFFIC entries go from every cabin zone, where there was an announcement to end. -/
theorem listOf_endAnnouncement (cause : EndCause) (s : State) (c : Cabin) :
    listOf (endAnnouncement cause s) (.cabin c) =
      if s.tw.announcement = none then listOf s (.cabin c)
      else (listOf s (.cabin c)).filter (fun e => e.cls != .traffic) := by
  by_cases h : s.tw.announcement = none
  · rw [endAnnouncement_of_none h, if_pos h]
  · rw [endAnnouncement_of_some h, if_neg h]
    show listOf (removeTraffic s) (.cabin c) = _
    rw [removeTraffic_eq, listOf_relistAll _ (by decide), if_pos (Cabin.mem_all c)]
    rfl

theorem endAnnouncement_over (cause : EndCause) (s : State) : AnnouncementOver s (endAnnouncement cause s) := by
  refine ⟨?_, fun h => ?_, fun h => ?_, listOf_endAnnouncement cause s⟩
  · rw [endAnnouncement_tw]
  · rw [endAnnouncement_tw]
    exact if_pos h
  · rw [endAnnouncement_tw]
    exact if_neg h

/-- TRAFFIC_ENDED finds room behind the ZONE_STATE reports of the three cabin zones. -/
theorem endAnnouncement_tells {cause : EndCause} {s : State} (h : s.tw.announcement ≠ none)
    (hroom : s.cp.reports.length < 21) : Told (endAnnouncement cause s) .trafficEnded 0 (u8 cause.code) := by
  have hlen : (removeTraffic s).cp.reports.length ≤ s.cp.reports.length + 3 :=
    relistAll_length_le (removeFrom .traffic) Cabin.all s
  rw [endAnnouncement_of_some h]
  exact mem_post_of_event rfl (show (removeTraffic s).cp.reports.length < 24 by omega)

/-! ### The beginning of an announcement (R49, R129) -/

theorem insertTraffic_eq (d : Bool) (zs : List Cabin) (s : State) :
    insertTraffic d zs s = relistAll (insertIn (trafficEntry d)) zs s := rfl

/-- The zones of an announcement that begins: each zone of the watch that holds no CALL entry sounds, each other is
deferred. -/
theorem beginAnnouncement_tw (s : State) :
    (beginAnnouncement s).tw = { s.tw with
      announcement := some
        { zones := s.tw.zones
          sounding := cabinSet (fun c => s.tw.zones.get c && !holdsClass (listOf s (.cabin c)) .call)
          deferred := cabinSet (fun c => s.tw.zones.get c && holdsClass (listOf s (.cabin c)) .call) }
      bridge := none } := by
  have hsounding : s.tw.zones.minus (cabinSet (fun c => s.tw.zones.get c && holdsClass (listOf s (.cabin c)) .call)) =
      cabinSet (fun c => s.tw.zones.get c && !holdsClass (listOf s (.cabin c)) .call) := by
    refine congrArg cabinSet (funext fun c => ?_)
    rw [get_cabinSet]
    cases s.tw.zones.get c <;> rfl
  have hbegun : (beginAnnouncement s).tw = { (insertTraffic false (s.tw.zones.minus
      (cabinSet (fun c => s.tw.zones.get c && holdsClass (listOf s (.cabin c)) .call))).toList s).tw with
      announcement := some
        { zones := s.tw.zones
          sounding := s.tw.zones.minus (cabinSet (fun c => s.tw.zones.get c && holdsClass (listOf s (.cabin c)) .call))
          deferred := cabinSet (fun c => s.tw.zones.get c && holdsClass (listOf s (.cabin c)) .call) }
      bridge := none } := by
    unfold beginAnnouncement
    dsimp only
    split <;> split <;> rfl
  have hkept (zs : List Cabin) : (insertTraffic false zs s).tw = s.tw :=
    (insertTraffic_within false zs s).same .tw (by decide)
  rw [hbegun, hkept, hsounding]

/-- The zones that sound take a TRAFFIC entry; no other cabin list changes. -/
theorem listOf_beginAnnouncement (s : State) (c : Cabin) :
    listOf (beginAnnouncement s) (.cabin c) =
      if s.tw.zones.get c = true ∧ holdsClass (listOf s (.cabin c)) .call = false then
        insertIn (trafficEntry false) (listOf s (.cabin c))
      else listOf s (.cabin c) := by
  have hzr : (beginAnnouncement s).zr = (insertTraffic false (s.tw.zones.minus
      (cabinSet (fun c => s.tw.zones.get c && holdsClass (listOf s (.cabin c)) .call))).toList s).zr := by
    unfold beginAnnouncement
    dsimp only
    split <;> split <;> rfl
  have hmem : c ∈ (s.tw.zones.minus
      (cabinSet (fun c => s.tw.zones.get c && holdsClass (listOf s (.cabin c)) .call))).toList ↔
      s.tw.zones.get c = true ∧ holdsClass (listOf s (.cabin c)) .call = false := by
    rw [mem_minus_toList, get_cabinSet]
    cases s.tw.zones.get c <;> simp
  have hlist := listOf_relistAll (insertIn (trafficEntry false)) (CabinSet.toList_nodup (s.tw.zones.minus
    (cabinSet (fun c => s.tw.zones.get c && holdsClass (listOf s (.cabin c)) .call)))) s c
  rw [← insertTraffic_eq] at hlist
  simp only [hmem] at hlist
  rw [← hlist]
  simp only [listOf, hzr]

/-! ### The watch set ON (R128) -/

/-- The watch ON, with the announcement that its flag calls for begun. -/
def State.watchBegun (s : State) : State :=
  let s1 := s.modTw (fun w => { w with on := true, note := none })
  if s1.rx.a.record.trafficOn && s1.tw.announcement.isNone then beginAnnouncement s1 else s1

/-- The judgement of a carrier changes the note alone. -/
theorem judgeCarrier_tw (s : State) : (judgeCarrier s).tw = { s.tw with note := (judgeCarrier s).tw.note } := by
  unfold judgeCarrier
  split
  · rfl
  · dsimp only
    split <;> rfl

/-- Behind the announcement that the watch begins a carrier may be judged. -/
theorem watchOn_after (s : State) :
    (∃ note, (watchOn s).tw = { s.watchBegun.tw with note := note }) ∧ (watchOn s).zr = s.watchBegun.zr := by
  have hjudged : ∃ note, (judgeCarrier s.watchBegun).tw = { s.watchBegun.tw with note := note } :=
    ⟨_, judgeCarrier_tw _⟩
  have hrest : (∃ note, s.watchBegun.tw = { s.watchBegun.tw with note := note }) ∧ s.watchBegun.zr = s.watchBegun.zr :=
    ⟨⟨_, rfl⟩, rfl⟩
  have hcases : watchOn s = s.watchBegun ∨ watchOn s = judgeCarrier s.watchBegun := by
    show (match s.watchBegun.tw.codeHeld with
      | some n => if 2000 ≤ n then judgeCarrier s.watchBegun else s.watchBegun
      | none => s.watchBegun) = _ ∨ (match s.watchBegun.tw.codeHeld with
      | some n => if 2000 ≤ n then judgeCarrier s.watchBegun else s.watchBegun
      | none => s.watchBegun) = _
    split
    · split
      · exact .inr rfl
      · exact .inl rfl
    · exact .inl rfl
  rcases hcases with heq | heq <;> rw [heq]
  · exact hrest
  · exact ⟨hjudged, (judgeCarrier_within _).zr_eq⟩

section
variable {s : State}

theorem watchBegun_quiet (h : s.rx.a.record.trafficOn = false ∨ s.tw.announcement ≠ none) :
    s.watchBegun = s.modTw (fun w => { w with on := true, note := none }) := by
  refine if_neg fun hboth => ?_
  obtain ⟨hflag, hnone⟩ := Bool.and_eq_true_iff.1 hboth
  rcases h with h | h
  · exact absurd (h.symm.trans hflag) (by decide)
  · exact h (Option.isNone_iff_eq_none.1 hnone)

theorem watchBegun_begins (h : s.rx.a.record.trafficOn = true) (hnone : s.tw.announcement = none) :
    s.watchBegun = beginAnnouncement (s.modTw (fun w => { w with on := true, note := none })) := by
  refine if_pos ?_
  show (s.rx.a.record.trafficOn && s.tw.announcement.isNone) = true
  rw [h, hnone]
  rfl

theorem watchBegun_on : s.watchBegun.tw.on = true ∧ s.watchBegun.tw.zones = s.tw.zones := by
  unfold State.watchBegun
  dsimp only
  split
  · rw [beginAnnouncement_tw]
    exact ⟨rfl, rfl⟩
  · exact ⟨rfl, rfl⟩

end

section
variable {s : State}

theorem watchOn_on : (watchOn s).tw.on = true ∧ (watchOn s).tw.zones = s.tw.zones := by
  obtain ⟨⟨note, htw⟩, -⟩ := watchOn_after s
  rw [htw]
  exact watchBegun_on

/-- Without the flag, or with an announcement that runs, the watch begins none. -/
theorem watchOn_quiet (h : s.rx.a.record.trafficOn = false ∨ s.tw.announcement ≠ none) :
    (watchOn s).tw.announcement = s.tw.announcement ∧ (watchOn s).tw.bridge = s.tw.bridge ∧ (watchOn s).zr = s.zr := by
  obtain ⟨⟨note, htw⟩, hzr⟩ := watchOn_after s
  rw [htw, hzr, watchBegun_quiet h]
  exact ⟨rfl, rfl, rfl⟩

theorem watchOn_begins (h : s.rx.a.record.trafficOn = true) (hnone : s.tw.announcement = none) :
    (watchOn s).tw.announcement = some
        { zones := s.tw.zones
          sounding := cabinSet (fun c => s.tw.zones.get c && !holdsClass (listOf s (.cabin c)) .call)
          deferred := cabinSet (fun c => s.tw.zones.get c && holdsClass (listOf s (.cabin c)) .call) } ∧
      ∀ c : Cabin, listOf (watchOn s) (.cabin c) =
        if s.tw.zones.get c = true ∧ holdsClass (listOf s (.cabin c)) .call = false then
          insertIn (trafficEntry false) (listOf s (.cabin c))
        else listOf s (.cabin c) := by
  obtain ⟨⟨note, htw⟩, hzr⟩ := watchOn_after s
  rw [watchBegun_begins h hnone] at htw hzr
  refine ⟨?_, fun c => ?_⟩
  · rw [htw, beginAnnouncement_tw]
    rfl
  · show ((watchOn s).zr.zones.get c).list = _
    rw [hzr]
    exact listOf_beginAnnouncement _ c

end

/-! ### The requests (R128, R130) -/

section
variable {u : State} {x zb : Byte}

theorem answerTrafficWatch_refuses (h : 2 ≤ x.toNat ∨ zb = 0#8 ∨ 8 ≤ zb.toNat) :
    answerTrafficWatch [x, zb] u = refuse u .outOfRange := by
  rcases h with h | h
  · simp only [answerTrafficWatch, readBit_none h]
  · simp only [answerTrafficWatch, readCabinSet_none h]
    cases readBit x <;> rfl

theorem answerTrafficWatch_on (h0 : zb ≠ 0#8) (h8 : zb.toNat < 8) :
    answerTrafficWatch [1#8, zb] u =
      accept (if u.tw.on then u.modTw (fun w => { w with zones := zonesNamed zb })
        else watchOn (u.modTw (fun w => { w with zones := zonesNamed zb }))) [1#8, zb] := by
  have hread : readBit 1#8 = some true := rfl
  simp only [answerTrafficWatch, hread, readCabinSet_some h0 h8, if_true]

theorem answerTrafficWatch_off (h0 : zb ≠ 0#8) (h8 : zb.toNat < 8) :
    answerTrafficWatch [0#8, zb] u =
      accept (endAnnouncement .watchOff (u.modTw (fun w => { w with on := false, zones := zonesNamed zb }))) [0#8, zb] := by
  have hread : readBit 0#8 = some false := rfl
  simp only [answerTrafficWatch, hread, readCabinSet_some h0 h8, Bool.false_eq_true, if_false]
  rfl

end

/-! ### The carrier's judgement (R128) -/

theorem codeHeldLong_of_none {s : State} (h : s.tw.codeHeld = none) : codeHeldLong s = s := by
  simp only [codeHeldLong, h]

theorem codeHeldLong_of_some {s : State} (h : s.tw.codeHeld ≠ none) :
    codeHeldLong s =
      if s.tw.on then judgeCarrier (s.modTw (fun w => { w with codeHeld := some 2000 }))
      else s.modTw (fun w => { w with codeHeld := some 2000 }) := by
  unfold codeHeldLong
  split
  · exact absurd ‹_› h
  · rfl

theorem judgeCarrier_of_carrier {s : State} (h : s.rx.a.record.carrier = true) : judgeCarrier s = s := by
  unfold judgeCarrier
  split
  · rfl
  · rw [h]
    rfl

/-- A code without its carrier is noted, unless the note is of it already. -/
theorem judgeCarrier_of_code {s : State} {c : Nat} (hcode : s.rx.a.record.code = some c)
    (hcarrier : s.rx.a.record.carrier = false) :
    judgeCarrier s =
      if s.tw.note = some ⟨s.rx.a.station, c⟩ then s
      else post .trafficNoCarrier 0 (stationField s.rx.a.station ++ u16 c)
        (s.modTw (fun w => { w with note := some ⟨s.rx.a.station, c⟩ })) := by
  simp only [judgeCarrier, hcode, hcarrier, Bool.false_or, beq_iff_eq]

/-- A noted code is told once: the first time with TRAFFIC_NO_CARRIER, a second time not at all. -/
theorem codeHeldLong_notes {s : State} {c : Nat} (hheld : s.tw.codeHeld ≠ none) (hon : s.tw.on = true)
    (hcode : s.rx.a.record.code = some c) (hcarrier : s.rx.a.record.carrier = false) :
    (codeHeldLong s).tw = { s.tw with codeHeld := some 2000, note := some ⟨s.rx.a.station, c⟩ } ∧
      (s.tw.note ≠ some ⟨s.rx.a.station, c⟩ → s.cp.reports.length < 24 →
        Told (codeHeldLong s) .trafficNoCarrier 0 (stationField s.rx.a.station ++ u16 c)) ∧
      (s.tw.note = some ⟨s.rx.a.station, c⟩ → (codeHeldLong s).cp = s.cp) := by
  have hjudged : codeHeldLong s =
      if s.tw.note = some ⟨s.rx.a.station, c⟩ then s.modTw (fun w => { w with codeHeld := some 2000 })
      else post .trafficNoCarrier 0 (stationField s.rx.a.station ++ u16 c)
        (s.modTw (fun w => { w with codeHeld := some 2000, note := some ⟨s.rx.a.station, c⟩ })) := by
    rw [codeHeldLong_of_some hheld, if_pos hon]
    exact judgeCarrier_of_code hcode hcarrier
  rw [hjudged]
  by_cases hnote : s.tw.note = some ⟨s.rx.a.station, c⟩
  · rw [if_pos hnote]
    exact ⟨by rw [← hnote]; rfl, fun h => absurd hnote h, fun _ => rfl⟩
  · rw [if_neg hnote]
    exact ⟨rfl, fun _ hroom => mem_post_of_event rfl hroom, fun h => absurd h hnote⟩

/-! ### The obligation -/

/-- Settles O47: SET_TRAFFIC_WATCH by the byte that sets the watch (`endAnnouncement_over` for OFF, `watchOn_quiet` and
`watchOn_begins` for ON), the other ends of an announcement by `endAnnouncement_over`, the judgement by
`codeHeldLong_notes`. -/
theorem trafficIsWatched : Obligations.TrafficIsWatched := by
  unfold Obligations.TrafficIsWatched
  rintro s _ _ x zb _ rfl rfl rfl
  refine ⟨fun hop hbad => ?_, fun hop hx hpos h8 => ?_, fun hop => ?_, fun hb => ?_, fun hb => ?_, fun hc => ?_,
    fun hc => ⟨fun hquiet => ?_, fun c hcode hon hcarrier => ?_⟩⟩
  · exact exec_next_refusing (act := answerTrafficWatch _) rfl rfl (by rw [Ready, hop]; rfl)
      (answerTrafficWatch_refuses hbad)
  · have h0 : zb ≠ 0#8 := fun h => absurd (h ▸ hpos) (by decide)
    have hready : Ready .setTrafficWatch s := by rw [Ready, hop]; rfl
    rcases (show x = 0#8 ∨ x = 1#8 by bv_omega) with rfl | rfl
    · have hexec := exec_next_accepting (i := .setTrafficWatch [0#8, zb]) (act := answerTrafficWatch _) rfl rfl hready
        (answerTrafficWatch_off h0 h8)
      have htw := endAnnouncement_tw .watchOff ((atRequest .setTrafficWatch s).modTw
        (fun w => { w with on := false, zones := zonesNamed zb }))
      have hover := endAnnouncement_over .watchOff ((atRequest .setTrafficWatch s).modTw
        (fun w => { w with on := false, zones := zonesNamed zb }))
      exact ⟨_, hexec, congrArg TrafficWatch.on htw, congrArg TrafficWatch.zones htw,
        fun _ => ⟨hover, fun hrun hroom => endAnnouncement_tells (cause := .watchOff) hrun hroom⟩,
        fun h => absurd h (by decide), fun h => absurd h (by decide), fun h => absurd h (by decide), rfl,
        (((modTw_within _ _).trans (endAnnouncement_within _ _)).mono (bs := [.zr, .tw])).accepted_keepsBut _ _⟩
    · have hexec := exec_next_accepting (i := .setTrafficWatch [1#8, zb]) (act := answerTrafficWatch _) rfl rfl hready
        (answerTrafficWatch_on h0 h8)
      cases hon : (atRequest .setTrafficWatch s).tw.on
      · rw [hon] at hexec
        obtain ⟨hset, hzones⟩ := watchOn_on (s := (atRequest .setTrafficWatch s).modTw
          (fun w => { w with zones := zonesNamed zb }))
        refine ⟨_, hexec, hset, hzones, fun h => absurd h (by decide), fun _ h => absurd h (by decide),
          fun _ _ hflag => watchOn_quiet (.inl hflag), fun _ _ hflag hnone => ?_, rfl,
          (((modTw_within _ _).trans (watchOn_within _)).mono (bs := [.zr, .tw])).accepted_keepsBut _ _⟩
        obtain ⟨hbegun, hlist⟩ := watchOn_begins (s := (atRequest .setTrafficWatch s).modTw
          (fun w => { w with zones := zonesNamed zb })) hflag hnone
        refine ⟨hbegun, fun c => ⟨fun hin hcall => ?_, fun hout => ?_⟩⟩
        · refine (congrArg (holdsClass · .traffic) ((hlist c).trans (if_pos ⟨hin, hcall⟩))).trans ?_
          rw [holdsClass_insertIn]
          exact Bool.or_true _
        · refine (hlist c).trans (if_neg fun hboth => ?_)
          obtain ⟨hin, hcall⟩ := hboth
          rcases hout with h | h
          · exact absurd (hin.symm.trans h) (by decide)
          · exact absurd (hcall.symm.trans h) (by decide)
      · rw [hon] at hexec
        exact ⟨_, hexec, hon, rfl, fun h => absurd h (by decide), fun _ _ => ⟨rfl, rfl⟩,
          fun _ h => absurd h (by decide), fun _ h => absurd h (by decide), rfl,
          ((modTw_within _ _).mono (bs := [.zr, .tw])).accepted_keepsBut _ _⟩
  · have htw := endAnnouncement_tw .skip (atRequest .trafficSkip s)
    have hon := congrArg TrafficWatch.on htw
    have hzones := congrArg TrafficWatch.zones htw
    have hnote := congrArg TrafficWatch.note htw
    exact ⟨_, exec_next_accepting (act := answerTrafficSkip) rfl rfl (by rw [Ready, hop]; rfl) rfl,
      endAnnouncement_over .skip _, hon, hzones, hnote, fun hrun hroom => endAnnouncement_tells hrun hroom, rfl,
      (endAnnouncement_within _ _).accepted_keepsBut _ _⟩
  · show Host.Outcome.next (if s.tw.bridge.isSome then _ else s) = _
    rw [hb]
    rfl
  · refine ⟨settle (endAnnouncement .fall s), ?_, endAnnouncement_over .fall s,
      fun hrun hroom => endAnnouncement_tells hrun hroom, ((endAnnouncement_within _ _).trans (settle_within _)).same⟩
    show Host.Outcome.next (if s.tw.bridge.isSome then _ else s) = _
    rw [if_pos (Option.isSome_iff_ne_none.2 hb)]
  · show Host.Outcome.next (settle (codeHeldLong s)) = _
    rw [codeHeldLong_of_none hc]
  · show Host.Outcome.next (settle (codeHeldLong s)) = _
    rw [codeHeldLong_of_some hc]
    rcases hquiet with hoff | hcarrier
    · rw [hoff]
      rfl
    · have hjudged : judgeCarrier (s.modTw (fun w => { w with codeHeld := some 2000 })) = _ :=
        judgeCarrier_of_carrier hcarrier
      rw [hjudged, ite_self]
      rfl
  · obtain ⟨htw, htold, hquiet⟩ := codeHeldLong_notes hc hon hcode hcarrier
    exact ⟨_, rfl, htw, htold, hquiet, ((codeHeldLong_within s).trans (settle_within _)).same⟩

end Sys2Proof.Machine
end

section
/-! SUPPORT. The serial audio: the watch over its frame clock (R31, R32) and what its slots carry (R30, R66, R147). -/

-- One declaration at a time: together they would start more threads than the check's memory limit has stacks for.
set_option Elab.async false

namespace Sys2Proof.Machine

section
variable {s : State}

/-! ### The frame clock (R31, R32) -/

theorem clockWatched_iff : clockWatched s = true ↔ s.sc.opState ≠ .boot ∧ s.install.clockRole ≠ some .leader := by
  simp only [clockWatched, Bool.and_eq_true, bne_iff_ne]

theorem execClockLoss_lost (hboot : s.sc.opState ≠ .boot) (hrole : s.install.clockRole ≠ some .leader)
    (h : s.zr.clockLost = false) : exec .clockLoss s = .next (settle (loseClock s)) := by
  refine congrArg Host.Outcome.next (if_pos ?_)
  rw [clockWatched_iff.2 ⟨hboot, hrole⟩, h]
  rfl

theorem execClockLoss_idle (h : s.sc.opState = .boot ∨ s.install.clockRole = some .leader ∨ s.zr.clockLost = true) :
    exec .clockLoss s = .next s := by
  refine congrArg Host.Outcome.next (if_neg fun hlost => ?_)
  obtain ⟨hwatched, hpresent⟩ := Bool.and_eq_true_iff.1 hlost
  obtain ⟨hboot, hrole⟩ := clockWatched_iff.1 hwatched
  rcases h with h | h | h
  · exact hboot h
  · exact hrole h
  · rw [h] at hpresent
    exact absurd hpresent (by decide)

theorem execClockReturn_restored (hboot : s.sc.opState ≠ .boot) (hrole : s.install.clockRole ≠ some .leader)
    (h : s.zr.clockLost = true) : exec .clockReturn s = .next (settle (restoreClock s)) := by
  refine congrArg Host.Outcome.next (if_pos ?_)
  rw [clockWatched_iff.2 ⟨hboot, hrole⟩, h]
  rfl

theorem execClockReturn_idle (h : s.sc.opState = .boot ∨ s.install.clockRole = some .leader ∨ s.zr.clockLost = false) :
    exec .clockReturn s = .next s := by
  refine congrArg Host.Outcome.next (if_neg fun hback => ?_)
  obtain ⟨hwatched, hlost⟩ := Bool.and_eq_true_iff.1 hback
  obtain ⟨hboot, hrole⟩ := clockWatched_iff.1 hwatched
  rcases h with h | h | h
  · exact hboot h
  · exact hrole h
  · rw [h] at hlost
    exact absurd hlost (by decide)

/-- A running canceller restarts with the clock; a canceller in BYPASS stays as it is. -/
theorem restoreClock_leaves :
    (restoreClock s).zr = { s.zr with clockLost := false, lostMs := 0 } ∧
      (restoreClock s).clp = if s.clp.canceller = .bypass then s.clp else s.clp.recovering := by
  unfold restoreClock
  rw [restartCanceller_eq]
  exact ⟨rfl, rfl⟩

/-- CLOCK_RESTORED is posted before any report of the canceller's. -/
theorem restoreClock_tells (hroom : s.cp.reports.length < 24) :
    Told (restoreClock s) .clockRestored 0 (u16 (min (s.zr.lostMs / 100) 65535)) :=
  (restartCanceller_within _).posted.mem_of_event (mem_post_of_event rfl hroom) rfl

/-! ### The mix of a channel (R66, R92) -/

theorem mem_pathContributions {p : Path} {c : Chan} {y : Source} {g : Int} (hp : p ∈ s.ge.paths) (hc : p.chan = c)
    (hsrc : p.src = some y) (hg : p.audible = .num g) :
    (⟨.source y (sideFor s.install y c), g⟩ : Contribution) ∈ pathContributions s c := by
  refine List.mem_filterMap.2 ⟨p, List.mem_filter.2 ⟨hp, beq_iff_eq.2 hc⟩, ?_⟩
  rw [hsrc, hg]

theorem mem_voiceContributions {v : Voice} {p : ChimePath} {c : Chan} (hp : p ∈ v.paths) (hc : p.chan = c)
    (htone : v.phase = .tone) :
    (⟨.tone (presentSegment s v).freq (presentSegment s v).waveform, p.gain⟩ : Contribution) ∈
      voiceContributions s c (some v) := by
  simp only [voiceContributions, if_pos htone]
  exact List.mem_map.2 ⟨p, List.mem_filter.2 ⟨hp, beq_iff_eq.2 hc⟩, rfl⟩

theorem mem_channelMix_of_voice {v : Voice} {p : ChimePath} {c : Chan} (hp : p ∈ v.paths) (hc : p.chan = c)
    (htone : v.phase = .tone) (hv : s.chimes.v1 = some v ∨ s.chimes.v2 = some v) :
    (⟨.tone (presentSegment s v).freq (presentSegment s v).waveform, p.gain⟩ : Contribution) ∈ channelMix s c := by
  have hmem := mem_voiceContributions (s := s) hp hc htone
  rcases hv with hv | hv <;> rw [← hv] at hmem
  · exact (mem_channelMix s c _).2 (.inr (.inl hmem))
  · exact (mem_channelMix s c _).2 (.inr (.inr hmem))

/-! ### The output slots (R30, R31, R147) -/

theorem channelOutput_of_sends {c : Chan} (h : chanSends s c = true) : channelOutput s c = some (channelSignal s c) :=
  if_pos h

theorem channelOutput_of_silent {c : Chan} (h : chanSends s c = false) : channelOutput s c = none :=
  if_neg (Bool.eq_false_iff.1 h)

/-- With the clock present a digital channel sends exactly while its driver is ON. -/
theorem chanSends_dout {k : Dout} (h : s.zr.clockLost = false) : chanSends s (.dout k) = true ↔ s.os.douts[k] = .on := by
  simp only [chanSends, h, Bool.not_false, Bool.and_true, beq_iff_eq]

theorem uplinkOpen_iff :
    uplinkOpen s = true ↔ s.clp.state = .active ∧ s.clp.uplinkMute = false ∧ s.clp.selection.basis ≠ .none := by
  simp only [uplinkOpen, Bool.and_eq_true, beq_iff_eq, bne_iff_ne, Bool.not_eq_true', and_assoc]

theorem outputSlot_lost (h : s.zr.clockLost = true) (n : Fin 8) : outputSlot s n = .nothing := if_pos h

/-- A digital channel that sends nothing leaves its slot silent. -/
theorem outputSlot_of_silent {k : Dout} (h : s.zr.clockLost = false) (hout : channelOutput s (.dout k) = none) :
    outputSlot s ⟨k.val, by omega⟩ = .silence := by
  have hslot (hlt : k.val < 6) : channelOutput s (.dout ⟨k.val, hlt⟩) = none := hout
  unfold outputSlot
  rw [if_neg (Bool.eq_false_iff.1 h), dif_pos k.isLt]
  simp only [hslot]

theorem outputSlot_of_signal {k : Dout} {x : Signal} (h : s.zr.clockLost = false)
    (hout : channelOutput s (.dout k) = some x) : outputSlot s ⟨k.val, by omega⟩ = .signal x := by
  have hslot (hlt : k.val < 6) : channelOutput s (.dout ⟨k.val, hlt⟩) = some x := hout
  unfold outputSlot
  rw [if_neg (Bool.eq_false_iff.1 h), dif_pos k.isLt]
  simp only [hslot]

theorem outputSlot_uplink (h : s.zr.clockLost = false) :
    outputSlot s 6 =
      if s.clp.state = .active ∧ s.clp.uplinkMute = false ∧ s.clp.selection.basis ≠ .none then
        .uplink s.clp.selection.mics (if s.clp.attenuated = true then 48 else 0)
      else .silence := by
  unfold outputSlot
  rw [if_neg (Bool.eq_false_iff.1 h), dif_neg (by decide)]
  simp only [uplinkOpen_iff, show ((6 : Fin 8).val = 6) from rfl, true_and]

theorem outputSlot_unused (h : s.zr.clockLost = false) : outputSlot s 7 = .silence := by
  unfold outputSlot
  rw [if_neg (Bool.eq_false_iff.1 h), dif_neg (by decide)]
  exact if_neg fun hsix => absurd hsix.1 (by decide)

end

/-! ### The obligation -/

/-- Settles O26: the clock's loss and return by whether its watch runs and how it stands, then the mix of a channel from its
paths and voices, then the output slots in their order. -/
theorem serialOutputFollowsTheClock : Obligations.SerialOutputFollowsTheClock := by
  unfold Obligations.SerialOutputFollowsTheClock
  refine ⟨fun s => ⟨fun hboot hrole hlost => execClockLoss_lost hboot hrole hlost, fun h => execClockLoss_idle h,
    fun hboot hrole hlost => ?_, fun h => execClockReturn_idle h⟩, fun s k c x => ⟨by decide, ?_, ?_, ?_, ?_, ?_, ?_⟩⟩
  · have hwithin := (restoreClock_within s).trans (settle_within _)
    exact ⟨_, execClockReturn_restored hboot hrole hlost, restoreClock_leaves.1, restoreClock_leaves.2,
      restoreClock_tells, hwithin.posted.reply_eq, hwithin.posted.masked_eq, hwithin.posted.watchdog_eq, hwithin.same⟩
  · exact fun p hp hc y hsrc g hg => (mem_channelMix s c _).2 (.inl (mem_pathContributions hp hc hsrc hg))
  · exact fun p hp hc htone hv => mem_channelMix_of_voice hp hc htone hv
  · exact channelOutput_of_silent
  · exact channelOutput_of_sends
  · exact outputSlot_lost
  · refine fun h => ⟨fun hoff => ?_, fun hon => ⟨rfl, ?_⟩, outputSlot_uplink h, outputSlot_unused h⟩
    · have hsilent : chanSends s (.dout k) = false := Bool.eq_false_iff.2 fun hs => hoff ((chanSends_dout h).1 hs)
      exact outputSlot_of_silent h (channelOutput_of_silent hsilent)
    · exact outputSlot_of_signal h (channelOutput_of_sends ((chanSends_dout h).2 hon))

end Sys2Proof.Machine
end

section
/-! SUPPORT. The targets and the chime gains (R56 to R59, R62 to R64): the causes of MUTE, the limits of the sum, and the ranges
of its terms. -/

-- One declaration at a time: together they would start more threads than the check's memory limit has stacks for.
set_option Elab.async false

namespace Sys2Proof.Machine

/-! ### The causes of MUTE (R62) -/

section
variable {s : State} {z : Zone} {c : Class} {x : Source} {ch : Chan}

/-- The classes that a zone's mute flag mutes: BASE, and in a cabin zone TRAFFIC. -/
def mutedByFlag : Zone → Class → Bool
  | .cabin _, c => c == .base || c == .traffic
  | .hp _, c => c == .base

theorem mutedByFlag_iff : mutedByFlag z c = true ↔ c = .base ∨ (c = .traffic ∧ ∃ cabin, z = .cabin cabin) := by
  cases z <;> simp [mutedByFlag]

/-- Whether a zone's jack lets its paths sound; a cabin zone has none. -/
def jackAllows (s : State) : Zone → Bool
  | .cabin _ => true
  | .hp h => (s.zr.hps.get h).jack

/-- The causes of MUTE that do not need the path's source (R62). -/
inductive MuteCause (s : State) (z : Zone) (c : Class) : Prop where
  | silent (h : s.sc.opState ∈ [OpState.boot, .config, .standby])
  | stepZero (h : volumeStep s z c = 0)
  | flag (h : muteOf s z = true) (hcls : mutedByFlag z c = true)
  | ducked (h : duckOf s (listOf s z) c = some .full)
  | rearQuiet (h : rearQuietOn s z c = some .full)
  | quiet (h : quietOf s z = true) (hcls : c = .base ∨ c = .prompt ∨ c = .traffic)
  | jackOut (h : jackAllows s z = false)

theorem zoneMuted_iff : zoneMuted s z c = true ↔ MuteCause s z c := by
  have hcauses : zoneMuted s z c = true ↔
      s.sc.opState ∈ [OpState.boot, .config, .standby] ∨ volumeStep s z c = 0 ∨
        (muteOf s z = true ∧ mutedByFlag z c = true) ∨ duckOf s (listOf s z) c = some .full ∨
        rearQuietOn s z c = some .full ∨ (quietOf s z = true ∧ (c = .base ∨ c = .prompt ∨ c = .traffic)) ∨
        jackAllows s z = false := by
    cases z <;>
      simp only [zoneMuted, mutedByFlag, jackAllows, Bool.or_eq_true, Bool.and_eq_true, beq_iff_eq, List.mem_cons,
        List.not_mem_nil, or_false, or_assoc, Bool.not_eq_true', Bool.false_eq_true, Bool.true_eq_false]
  rw [hcauses]
  constructor
  · rintro (h | h | ⟨h, hcls⟩ | h | h | ⟨h, hcls⟩ | h)
    exacts [.silent h, .stepZero h, .flag h hcls, .ducked h, .rearQuiet h, .quiet h hcls, .jackOut h]
  · rintro (h | h | ⟨h, hcls⟩ | h | h | ⟨h, hcls⟩ | h) <;> simp [*]

/-- A zone and class that each cause spares. -/
theorem not_muteCause (hop : s.sc.opState ∈ [OpState.run, .failsafe]) (hstep : volumeStep s z c ≠ 0)
    (hflag : muteOf s z = true → mutedByFlag z c = false) (hduck : duckOf s (listOf s z) c ≠ some .full)
    (hrear : rearQuietOn s z c ≠ some .full) (hquiet : quietOf s z = true → c = .call) (hjack : jackAllows s z = true) :
    ¬ MuteCause s z c := by
  rintro (hsilent | hzero | ⟨hmute, hmuted⟩ | hfull | hfull | ⟨hq, hcls⟩ | hout)
  · revert hop hsilent
    cases s.sc.opState <;> decide
  · exact hstep hzero
  · exact absurd ((hflag hmute).symm.trans hmuted) (by decide)
  · exact hduck hfull
  · exact hrear hfull
  · rw [hquiet hq] at hcls
    revert hcls
    decide
  · exact absurd (hjack.symm.trans hout) (by decide)

theorem pathTarget_of_cause (h : zoneMuted s z c = true ∨ muteGate s z x = true ∨ isPresent s x = false) :
    pathTarget s z c (some x) ch = .mute := by
  refine if_pos ?_
  rcases h with h | h | h <;> simp [h]

theorem pathTarget_of_heard (hzone : zoneMuted s z c = false) (hgate : muteGate s z x = false)
    (hpresent : isPresent s x = true) : pathTarget s z c (some x) ch = targetOf (rawGain s z c x ch) := by
  refine if_neg ?_
  simp [hzone, hgate, hpresent]

end

/-! ### The limits of the sum (R63, R64) -/

theorem targetOf_low {raw : Int} (h : raw < -400) : targetOf raw = .mute := if_pos h

theorem targetOf_high {raw : Int} (h : -400 ≤ raw) : targetOf raw = .num (min raw 24) := if_neg (Int.not_lt.2 h)

theorem chimeGain_eq (s : State) (level : Int) (ch : Chan)
    (h : s.safety.config.chimeFloor ≤ s.safety.config.chimeCeiling) :
    chimeGain s level ch =
      min (max (level + liftOf (heldSpeed s) s.safety.config.chimeLift + channelTrim s ch - foldback s ch)
        s.safety.config.chimeFloor) s.safety.config.chimeCeiling := by
  unfold chimeGain
  dsimp only
  split
  · omega
  · split <;> omega

/-! ### The terms (R56 to R59) -/

/-- The curve's numbers, by its three slopes. -/
theorem curveNumber_eq {n : Nat} (h : n ≠ 0) :
    curveNumber n = if n ≤ 10 then -214 - 12 * (11 - (n : Int)) else if n ≤ 30 then -54 - 8 * (31 - (n : Int))
      else -6 * (40 - (n : Int)) := by
  rw [curveNumber, volumeCurve, if_neg h]
  split_ifs <;> rfl

theorem volumeCurve_eq_num {n : Nat} (h : n ≠ 0) : volumeCurve n = .num (curveNumber n) := by
  rw [curveNumber_eq h, volumeCurve, if_neg h]
  split_ifs <;> rfl

theorem curveNumber_lt {m n : Nat} (hm : 0 < m) (hmn : m < n) : curveNumber m < curveNumber n := by
  rw [curveNumber_eq (by omega), curveNumber_eq (by omega)]
  split_ifs <;> omega

theorem receptionOf_good {q : Nat} (h : 30 ≤ q) : receptionOf q = 0 := if_pos h

theorem receptionOf_poor {q : Nat} (h : q ≤ 30) : receptionOf q = -2 * (30 - (q : Int)) := by
  unfold receptionOf
  split <;> omega

theorem liftOf_bounds (v : Int) (perTen : Nat) : 0 ≤ liftOf v perTen ∧ liftOf v perTen ≤ 48 := by
  have htens : 0 ≤ (max v 30 - 30) / 10 := Int.ediv_nonneg (by omega) (by decide)
  have hlift : 0 ≤ (max v 30 - 30) / 10 * (perTen : Int) := Int.mul_nonneg htens (Int.natCast_nonneg _)
  exact ⟨le_min (by decide) hlift, min_le_left _ _⟩

theorem liftOf_slow {v : Int} (perTen : Nat) (h : v ≤ 39) : liftOf v perTen = 0 := by
  have htens : (max v 30 - 30) / 10 = 0 := by omega
  unfold liftOf
  rw [htens, Int.zero_mul]
  rfl

/-- Balance and fader never raise a path, and each lowers it by at most 120 qdB. -/
theorem balancePart_bounds (p : Position) (b : Int) :
    balancePart p b ≤ 0 ∧ (-20 ≤ b → b ≤ 20 → -120 ≤ balancePart p b) := by
  cases p <;> simp only [balancePart] <;> omega

theorem faderPart_bounds (z : Cabin) (f : Int) : faderPart z f ≤ 0 ∧ (-20 ≤ f → f ≤ 20 → -120 ≤ faderPart z f) := by
  cases z <;> simp only [faderPart] <;> omega

/-- Settles O27: a target by `zoneMuted_iff` and the limits of its sum, then each term's range, then the chime gain. -/
theorem targetIsTheLimitedSum : Obligations.TargetIsTheLimitedSum := by
  unfold Obligations.TargetIsTheLimitedSum
  refine ⟨fun s z c x ch raw h hraw => ?_, fun m n q lift v b f z p => ?_, fun s level g ch hg hlimits => ?_⟩
  · replace hraw : raw = rawGain s z c x ch := hraw
    refine ⟨rfl, fun hcause => pathTarget_of_cause ?_, fun hop hstep hflag hduck hgate hpresent hrear hquiet hjack => ?_⟩
    · rcases hcause with hop | hvol | ⟨hflag, hcls⟩ | hduck | hgate | habsent | hrear | ⟨hquiet, hcls⟩ | ⟨rfl, hjack⟩
      · exact .inl (zoneMuted_iff.2 (.silent hop))
      · exact .inl (zoneMuted_iff.2 (.stepZero hvol))
      · have hmuted : mutedByFlag z c = true := by
          rw [mutedByFlag_iff]
          rcases hcls with hbase | ⟨htraffic, hz⟩ | ⟨htraffic, hz⟩ | ⟨htraffic, hz⟩
          · exact .inl hbase
          · exact .inr ⟨htraffic, _, hz⟩
          · exact .inr ⟨htraffic, _, hz⟩
          · exact .inr ⟨htraffic, _, hz⟩
        exact .inl (zoneMuted_iff.2 (.flag hflag hmuted))
      · exact .inl (zoneMuted_iff.2 (.ducked hduck))
      · exact .inr (.inl hgate)
      · exact .inr (.inr habsent)
      · exact .inl (zoneMuted_iff.2 (.rearQuiet hrear))
      · exact .inl (zoneMuted_iff.2 (.quiet hquiet hcls))
      · exact .inl (zoneMuted_iff.2 (.jackOut hjack))
    · have hspared (hmute : muteOf s z = true) : mutedByFlag z c = false := by
        rcases hflag hmute with rfl | ⟨rfl, -⟩ <;> cases z <;> rfl
      have hinserted : jackAllows s z = true := by
        cases z with
        | cabin _ => rfl
        | hp h => exact hjack h rfl
      have hzone : zoneMuted s z c = false :=
        Bool.eq_false_iff.2 fun h =>
          not_muteCause hop hstep hspared hduck hrear hquiet hinserted (zoneMuted_iff.1 h)
      rw [pathTarget_of_heard hzone hgate hpresent, ← hraw]
      refine ⟨targetOf_low, fun hlow hhigh => ?_, fun hhigh => ?_⟩
      · rw [targetOf_high hlow, min_eq_left hhigh]
      · rw [targetOf_high (by omega), min_eq_right hhigh.le]
  · have hbalance := balancePart_bounds p b
    have hfader := faderPart_bounds z f
    exact ⟨rfl, rfl, fun hm hmn _ => ⟨curveNumber_lt hm hmn, volumeCurve_eq_num (by omega)⟩, receptionOf_good,
      receptionOf_poor, liftOf_bounds v lift, liftOf_slow lift, by omega, by omega⟩
  · rw [chimeGain_eq s level ch hlimits, ← hg]
    exact ⟨by omega, by omega, rfl⟩

end Sys2Proof.Machine
end

section
/-! SUPPORT. Every step leaves every target and every chime gain at the present values (R55, R96). -/

-- One declaration at a time: together they would start more threads than the check's memory limit has stacks for.
set_option Elab.async false

namespace Sys2Proof.Machine

/-! ### What the gains are computed from -/

/-- Two states in which every target and every chime gain comes out the same. -/
structure SameGains (s t : State) : Prop where
  target : ∀ z c src ch, pathTarget t z c src ch = pathTarget s z c src ch
  chime : ∀ level ch, chimeGain t level ch = chimeGain s level ch

/-- The gains read neither the paths nor the voices, which are all that settling changes. -/
theorem sameGains_settle (s : State) : SameGains s (settle s) := ⟨fun _ _ _ _ => rfl, fun _ _ => rfl⟩

/-- After settling every gain is current (R55, R96). -/
theorem settle_gainsCurrent (s : State) : GainsCurrent (settle s) := by
  refine ⟨fun p hp => ?_, fun v hv p hp => ?_⟩
  · obtain ⟨q, -, rfl⟩ : ∃ q ∈ formedPaths s, retargeted s q = p := List.mem_map.1 hp
    rw [(retargeted_names s q).2.1]
    unfold retargeted
    split
    · rfl
    · exact ((sameGains_settle s).target ..).symm
  · obtain ⟨w, -, rfl⟩ : ∃ w ∈ s.chimes.v1.toList ++ s.chimes.v2.toList, revoiced s w = v := by
      rw [settle_eq] at hv
      simpa [or_and_right, exists_or] using hv
    obtain ⟨q, -, rfl⟩ : ∃ q ∈ w.paths, { q with gain := chimeGain s w.level q.chan } = p := List.mem_map.1 hp
    exact ((sameGains_settle s).chime ..).symm

/-- An event that settles where it finds something to act on, and else changes nothing. -/
theorem settleIf_gainsCurrent {c : Prop} [Decidable c] {s u : State} (h : GainsCurrent s) :
    GainsCurrent (if c then settle u else s) := by
  split
  · exact settle_gainsCurrent u
  · exact h

/-! ### A millisecond (log 5) -/

theorem records_elapse (s : State) : records (elapse s) = (records s).map Condition.tick := by
  simp only [records, elapse, Vector.toList_map, List.filterMap_map, List.map_filterMap]
  rfl

/-- A record's timer is no part of what the record mutes or cuts. -/
theorem muteGate_elapse (s : State) (z : Zone) (src : Source) : muteGate (elapse s) z src = muteGate s z src := by
  unfold muteGate
  rw [records_elapse, List.any_map]
  rfl

theorem cutOf_elapse (s : State) (z : Zone) (src : Source) : cutOf (elapse s) z src = cutOf s z src := by
  unfold cutOf
  rw [records_elapse, List.filter_map, List.foldl_map]
  rfl

theorem isPresent_elapse (s : State) (src : Source) : isPresent (elapse s) src = isPresent s src := by
  cases src <;> rfl

theorem rawGain_elapse (s : State) (z : Zone) (c : Class) (src : Source) (ch : Chan) :
    rawGain (elapse s) z c src ch = rawGain s z c src ch := by
  unfold rawGain
  rw [cutOf_elapse]
  rfl

theorem sameGains_elapse (s : State) : SameGains s (elapse s) := by
  refine ⟨fun z c src ch => ?_, fun level ch => rfl⟩
  have hzone : zoneMuted (elapse s) z c = zoneMuted s z c := rfl
  cases src with
  | none => rfl
  | some x => simp only [pathTarget, hzone, muteGate_elapse, isPresent_elapse, rawGain_elapse]

theorem elapse_gainsCurrent {s : State} (h : GainsCurrent s) : GainsCurrent (elapse s) := by
  obtain ⟨htargets, hgains⟩ := h
  refine ⟨fun p hp => ?_, fun v hv p hp => ?_⟩
  · rw [(sameGains_elapse s).target]
    exact htargets p hp
  · obtain ⟨w, hw, rfl⟩ : ∃ w ∈ s.chimes.v1.toList ++ s.chimes.v2.toList, w.tick = v := by
      simpa [elapse, or_and_right, exists_or] using hv
    exact (hgains w hw p hp).trans ((sameGains_elapse s).chime ..).symm

/-! ### Every command -/

/-- A request ends by settling, whatever its answer; an event settles or leaves every gain as it was. A damaged frame sets
the reply alone, and a power-on reset leaves neither a path nor a voice. -/
theorem exec_gainsCurrent {i : Instr} {s t : State} (h : exec i s = .next t) (hs : GainsCurrent s) : GainsCurrent t := by
  have next {u : State} (hu : exec i s = .next u) : u = t := Host.Outcome.next.inj (hu.symm.trans h)
  cases i with
  | powerOnReset => exact next rfl ▸ ⟨fun _ hp => absurd hp List.not_mem_nil, fun _ hv => absurd hv List.not_mem_nil⟩
  | frameError => exact next rfl ▸ hs
  | poll | fetchReports | setReportMask | getPartState | setInstall | getInstall | openSafetyEdit | setSafety | lockSafety
  | startAudio | standby | wake | restart | selectSource | setVolume | setMute | setBalanceFader | setSourceTrim
  | setClassDuck | setSpeedLift | setRearQuiet | getZone | promptStart | promptEnd | setVoicing | vehicleState
  | setCondition | patternLoad | patternSegment | definePattern | chimeRequest | chimeCancel | tune | step | seek
  | setReception | getStation | scanNow | setScan | setFollow | setTrafficWatch | trafficSkip | rearTune
  | setRearCeiling | callState | callRoute | setUplinkMute | setMicPolicy | loadTest | setProtection | setMonitor
  | retryChannel | clearFault | getFaults | unknownKind => exact next rfl ▸ settle_gainsCurrent _
  | watchdogExpiry | rampStep | voicingBlockBoundary | holdTimerRunout | voicePhaseEnd | tuneSettleEnd
  | qualityMeasurement | seekStepEnd | rxBSettleEnd | dataGroup | trafficTimerRunout | carrierJudgement =>
    exact next rfl ▸ settle_gainsCurrent _
  | initialisationComplete | clockLoss | clockReturn | dwellEnd | lowTimerRunout | checkTimeout | switchSettleEnd
  | blindCheckDecision | afReturnSettleEnd | verifyTimeout | backoffRunout | bridgeTimerRunout | monitorSample
  | erleEstimate | convergenceTimerRunout | divergenceTimerRunout | softStartEnd | tripTimerRunout | retryTimerRunout
  | openTimerRunout => exact next rfl ▸ settleIf_gainsCurrent hs
  | jackStateChange x inserted =>
    have hjack : GainsCurrent (s.modPins (fun p => { p with jack := p.jack.set x inserted })) := hs
    exact next rfl ▸ settleIf_gainsCurrent hjack
  | noiseEstimate fl fr =>
    refine next rfl ▸ ?_
    split
    · split
      · exact settle_gainsCurrent _
      · exact hs
    · exact hs
  | limitEngage | limitRelease =>
    refine next rfl ▸ ?_
    split
    · exact settle_gainsCurrent _
    · exact settle_gainsCurrent _
    · exact hs
  | loadTestCheckEnd registered =>
    refine next rfl ▸ ?_
    split
    · exact hs
    · exact settle_gainsCurrent _

/-- Settles O29: a millisecond changes nothing that the gains are computed from, and a command ends by settling or leaves
them as they stand. -/
theorem gainsAreAlwaysCurrent : Obligations.GainsAreAlwaysCurrent := by
  unfold Obligations.GainsAreAlwaysCurrent
  intro s t hs h
  rcases step_cases h with ⟨-, rfl⟩ | ⟨i, rest, -, hexec⟩
  · exact elapse_gainsCurrent hs
  · have hwaiting : GainsCurrent (s.setPending rest) := hs
    exact exec_gainsCurrent hexec hwaiting

end Sys2Proof.Machine
end

section
/-! SUPPORT. RAMP_STEP: the ramp table, the paths that it moves, and the channels that it turns OFF in STANDBY (R54, R65, R163). -/

-- One declaration at a time: together they would start more threads than the check's memory limit has stacks for.
set_option Elab.async false

namespace Sys2Proof.Machine

/-! ### The ramp table (R65) -/

theorem rampStep_fade (a : Int) : rampStep .mute (.num a) = if a - 6 ≤ -240 then .mute else .num (a - 6) := rfl

theorem rampStep_rise {a g : Int} (h : a < g) : rampStep (.num g) (.num a) = .num (min g (a + 2)) := if_pos h

theorem rampStep_fall {a g : Int} (h : g < a) : rampStep (.num g) (.num a) = .num (max g (a - 6)) := by
  simp only [rampStep, if_neg (show ¬ a < g by omega), if_pos h]

theorem rampStep_arrived (g : Int) : rampStep (.num g) (.num g) = .num g := by
  simp only [rampStep, lt_irrefl, if_false]

/-! ### The paths a millisecond on -/

/-- The state with its non-chime paths a millisecond on. -/
def State.rampedPaths (s : State) : State := s.modGe (fun g => { g with paths := rampPaths g.paths })

/-- A channel's paths are all at MUTE after the ramps exactly if each ramps there: those that are dropped are at MUTE. -/
theorem allMuted_rampedPaths (s : State) (c : Chan) :
    allMuted s.rampedPaths c = true ↔ ∀ p ∈ s.ge.paths, p.chan = c → rampStep p.target p.audible = .mute := by
  rw [allMuted_iff]
  constructor
  · intro h p hp hc
    by_contra hsound
    exact h ⟨{ p with audible := rampStep p.target p.audible },
      List.mem_filter.2 ⟨List.mem_map_of_mem hp, by simp [hsound]⟩, hc, hsound⟩
  · rintro h ⟨q, hq, hc, hsound⟩
    obtain ⟨p, hp, rfl⟩ := List.mem_map.1 (List.mem_of_mem_filter hq)
    exact hsound (h p hp hc)

theorem rampedPaths_keepsBut (s : State) : keepsBut [] s s.rampedPaths :=
  fun b _ => by cases b <;> simp [Block.same, State.rampedPaths]

theorem settle_keepsBut (s : State) : keepsBut [] s (settle s) := fun b _ => by
  by_cases hb : b = .cp
  · subst hb
    rfl
  · exact (settle_within s).same b (by simpa using hb)

theorem ramped_of_awake {s : State} (h : s.sc.opState ≠ .standby) : ramped s = s.rampedPaths := if_neg h

theorem ramped_of_standby {s : State} (h : s.sc.opState = .standby) : ramped s = standbyOff false s.rampedPaths := if_pos h

/-- Where nothing plays, settling reads the lists, the channels, the paths and the voicing alone: every target is MUTE. -/
theorem settle_ge_of_silent {s t : State} (hs : s.sc.opState ∈ [OpState.boot, .config, .standby]) (hsc : t.sc = s.sc)
    (hzr : t.zr = s.zr) (hinstall : t.install = s.install) (hge : t.ge = s.ge) : (settle t).ge = (settle s).ge := by
  have hcalled : calledPaths t = calledPaths s := calledPaths_congr hzr hinstall
  have hformed : formedPaths t = formedPaths s := by simp only [formedPaths, hcalled, hge]
  have htarget (p : Path) : retargeted t p = retargeted s p := by
    simp only [retargeted, pathTarget_of_silent hs, pathTarget_of_silent (s := t) (hsc ▸ hs)]
  show ({ t.ge with paths := (formedPaths t).map (retargeted t) } : GainEngine) =
    { s.ge with paths := (formedPaths s).map (retargeted s) }
  rw [hformed, hge, funext htarget]

/-- Settles O30: the ramps move every path by the table; in STANDBY the channels whose paths they bring to MUTE
(`allMuted_rampedPaths`) enter OFF, which the paths do not depend on (`settle_ge_of_silent`). -/
theorem rampsMoveByTheTable : Obligations.RampsMoveByTheTable := by
  unfold Obligations.RampsMoveByTheTable
  intro s a g
  refine ⟨fun hawake => ?_, fun hstandby hbypass => ?_, rfl, fun hlow => ?_, fun hhigh => ?_, rfl, rampStep_rise,
    rampStep_fall, rampStep_arrived g⟩
  · exact congrArg (fun t => Host.Outcome.next (settle t)) (ramped_of_awake hawake)
  · have hoff : keepsBut [.os] s.rampedPaths (standbyOff false s.rampedPaths) := standbyOff_of_bypass false hbypass
    obtain ⟨hge, amps, douts, hps, hos, hamps, hdouts, hhps⟩ := standbyOff_outputs false s.rampedPaths
    simp only [Bool.false_or, allMuted_rampedPaths] at hamps hdouts hhps
    refine ⟨settle (standbyOff false s.rampedPaths),
      congrArg (fun t => Host.Outcome.next (settle t)) (ramped_of_standby hstandby), ?_⟩
    simp only [settle_os, hos]
    refine ⟨fun k => ?_, hdouts, hhps, ?_, ?_⟩
    · rw [hamps, apply_ite AmpChannel.state, wentOff_state]
      rfl
    · exact settle_ge_of_silent (s := s.rampedPaths) (by simp [State.rampedPaths, hstandby]) (hoff .sc (by decide))
        (hoff .zr (by decide)) (hoff .install (by decide)) hge
    · exact ((rampedPaths_keepsBut s).mono.trans hoff).trans (settle_keepsBut _).mono
  · rw [rampStep_fade, if_pos hlow]
  · rw [rampStep_fade, if_neg (by omega)]

end Sys2Proof.Machine
end

section
/-! SUPPORT. The voicing records (R68 to R70): what SET_VOICING's body is read as, and a channel's voicing across a block
boundary. -/

-- One declaration at a time: together they would start more threads than the check's memory limit has stacks for.
set_option Elab.async false

namespace Sys2Proof.Machine

theorem modGe_keepsBut (g : GainEngine → GainEngine) (s : State) : keepsBut [.ge] s (s.modGe g) := fun b hb => by
  cases b <;> simp [Block.same] at hb ⊢

/-! ### What SET_VOICING's body is read as (R68) -/

theorem readChan_code (c : Chan) : readChan (byte (chanCode c)) = some c := by
  have hcode : ∀ c ∈ Chan.all, readChan (byte (chanCode c)) = some c := by decide
  exact hcode c (Chan.mem_all c)

theorem readChan_none {b : Byte} (h : b = 0#8 ∨ 19 ≤ b.toNat) : readChan b = none := by
  revert b
  decide

/-- A band's type is read exactly where its byte is one of the four codes. -/
theorem readBandType_eq_some_iff {b : Byte} {t : BandType} : readBandType b = some t ↔ t.code = b.toNat := by
  revert b
  cases t <;> decide

theorem readBandType_eq_none_iff {b : Byte} : readBandType b = none ↔ 4 ≤ b.toNat := by
  revert b
  decide

/-- The band record that stands at a place of SET_VOICING's bands. -/
def bandAt (bands : Bytes) (j : Nat) : Option BandRecord :=
  readBandRecord (bands.getD (5 * j) 0#8) (bands.getD (5 * j + 1) 0#8) (bands.getD (5 * j + 2) 0#8)
    (bands.getD (5 * j + 3) 0#8) (bands.getD (5 * j + 4) 0#8)

theorem bandAt_eq_none_iff (bands : Bytes) (j : Nat) : bandAt bands j = none ↔ 4 ≤ (bands.getD (5 * j) 0#8).toNat := by
  rw [bandAt, readBandRecord, Option.map_eq_none_iff, readBandType_eq_none_iff]

/-- A band record that is read has the type of its code and its numeric fields clamped. -/
theorem bandAt_fields {bands : Bytes} {j : Nat} {r : BandRecord} (h : bandAt bands j = some r) :
    r.type.code = (bands.getD (5 * j) 0#8).toNat ∧
      r.freq = min (max (nat16 (bands.getD (5 * j + 1) 0#8) (bands.getD (5 * j + 2) 0#8)) 20) 20000 ∧
      r.gain = min (max (bands.getD (5 * j + 3) 0#8).toInt (-48)) 48 ∧
      r.q = min (max (bands.getD (5 * j + 4) 0#8).toNat 3) 80 := by
  obtain ⟨t, ht, rfl⟩ := Option.map_eq_some_iff.1 h
  exact ⟨readBandType_eq_some_iff.1 ht, rfl, rfl, rfl⟩

/-- The bands that are read are those that stand at the five places. -/
theorem bandAt_of_readBands {bands : Bytes} {bs : Vector BandRecord 5} (h : readBands bands = some bs) (j : Fin 5) :
    bandAt bands j.val = some bs[j] := by
  unfold readBands at h
  dsimp only at h
  split at h
  · rename_i h0 h1 h2 h3 h4
    obtain rfl := Option.some.inj h
    fin_cases j
    · exact h0
    · exact h1
    · exact h2
    · exact h3
    · exact h4
  · exact absurd h (by simp)

theorem readBands_isSome {bands : Bytes} (h : ∀ j ∈ [0, 1, 2, 3, 4], bandAt bands j ≠ none) : readBands bands ≠ none := by
  obtain ⟨a, ha⟩ := Option.ne_none_iff_exists'.1 (h 0 (by decide))
  obtain ⟨b, hb⟩ := Option.ne_none_iff_exists'.1 (h 1 (by decide))
  obtain ⟨c, hc⟩ := Option.ne_none_iff_exists'.1 (h 2 (by decide))
  obtain ⟨d, hd⟩ := Option.ne_none_iff_exists'.1 (h 3 (by decide))
  obtain ⟨e, he⟩ := Option.ne_none_iff_exists'.1 (h 4 (by decide))
  unfold bandAt at ha hb hc hd he
  simp only [readBands, ha, hb, hc, hd, he, ne_eq, reduceCtorEq, not_false_eq_true]

/-- The bands are refused exactly where the type of one of them is none of the four. -/
theorem readBands_eq_none_iff (bands : Bytes) :
    readBands bands = none ↔ ∃ j ∈ [0, 1, 2, 3, 4], 4 ≤ (bands.getD (5 * j) 0#8).toNat := by
  simp only [← bandAt_eq_none_iff]
  constructor
  · intro h
    by_contra hall
    exact readBands_isSome (fun j hj hnone => hall ⟨j, hj, hnone⟩) h
  · rintro ⟨j, hj, hnone⟩
    have hlt : j < 5 := (by decide : ∀ j ∈ [0, 1, 2, 3, 4], j < 5) j hj
    rw [Option.eq_none_iff_forall_ne_some]
    intro bs h
    exact Option.some_ne_none _ ((bandAt_of_readBands h ⟨j, hlt⟩).symm.trans hnone)

/-! ### SET_VOICING's own rule (R68) -/

theorem accepted_setVoicing {o : OpState} (h : o = .config ∨ o = .run) : accepted .setVoicing o = true := by
  rcases h with rfl | rfl <;> rfl

section
variable {u : State} {c : Chan} {d tr : Byte} {bands : Bytes}

theorem answerVoicing_noChan {cb : Byte} (h : readChan cb = none) :
    answerVoicing ([cb, d, tr] ++ bands) u = refuse u .outOfRange := by
  simp only [answerVoicing, List.cons_append, List.nil_append, h]

theorem answerVoicing_unfitted (h : chanUnfitted u c = true) :
    answerVoicing ([byte (chanCode c), d, tr] ++ bands) u = refuse u .notFitted := by
  simp only [answerVoicing, List.cons_append, List.nil_append, readChan_code, h, if_true]

theorem answerVoicing_noBands (h : chanUnfitted u c = false) (hbands : readBands bands = none) :
    answerVoicing ([byte (chanCode c), d, tr] ++ bands) u = refuse u .outOfRange := by
  simp only [answerVoicing, List.cons_append, List.nil_append, readChan_code, h, hbands, Bool.false_eq_true, if_false]

theorem answerVoicing_writes {bs : Vector BandRecord 5} (h : chanUnfitted u c = false) (hbands : readBands bands = some bs) :
    answerVoicing ([byte (chanCode c), d, tr] ++ bands) u =
      accept (writeVoicing c ⟨min (max tr.toInt (-48)) 0, min d.toNat 200, bs⟩ u)
        (voicingField c ⟨min (max tr.toInt (-48)) 0, min d.toNat 200, bs⟩) := by
  simp only [answerVoicing, List.cons_append, List.nil_append, readChan_code, h, hbands, Bool.false_eq_true, if_false]
  rfl

end

/-! ### A channel across a block boundary (R69, R70) -/

theorem boundary_of_written {v : ChannelVoicing} (h : v.written = true) :
    v.boundary =
      { record := v.record, written := false, trim := v.record.trim, processing := v.record.processing
        fade := some { outgoing := v.mix, block := 1 } } := if_pos h

theorem boundary_of_unwritten {v : ChannelVoicing} (h : v.written = false) :
    v.boundary =
      { v with fade := v.fade.bind (fun f => if f.block < 10 then some { f with block := f.block + 1 } else none) } := by
  have hblocks : Config.fadeBlocks = 10 := rfl
  obtain ⟨record, written, trim, processing, fade⟩ := v
  cases fade with
  | none => simp [ChannelVoicing.boundary, show written = false from h]
  | some f =>
    by_cases hlast : f.block < 10
    · simp [ChannelVoicing.boundary, show written = false from h, hblocks, hlast]
    · simp [ChannelVoicing.boundary, show written = false from h, hblocks, hlast, Nat.le_of_not_lt hlast]

/-- Settles O31: SET_VOICING's own rule by what its bytes are read as, then each channel's voicing at a block boundary by
whether its record waits. -/
theorem voicingIsWrittenAndFaded : Obligations.VoicingIsWrittenAndFaded := by
  unfold Obligations.VoicingIsWrittenAndFaded
  constructor
  · rintro s u c cb d tr bands rfl hop hlen
    have hready : Ready .setVoicing s := accepted_setVoicing hop
    have hlength (b : Byte) : lengthAllowed .setVoicing ([b, d, tr] ++ bands) = true := by simp [lengthAllowed, hlen]
    refine ⟨fun hcb => ?_, fun hc => ?_, fun hc hbands => ?_, (readBands_eq_none_iff bands).symm,
      fun bs hbands hc => ⟨fun j => bandAt_fields (bandAt_of_readBands hbands j), ?_⟩⟩
    · exact exec_next_refusing rfl (hlength cb) hready (answerVoicing_noChan (readChan_none hcb))
    · exact exec_next_refusing rfl (hlength _) hready (answerVoicing_unfitted hc)
    · exact exec_next_refusing rfl (hlength _) hready (answerVoicing_noBands hc hbands)
    · exact exec_next_accepting rfl (hlength _) hready (answerVoicing_writes hc hbands)
  · intro s
    refine ⟨_, rfl, fun c => ?_, (modGe_keepsBut _ s).trans (settle_keepsBut _).mono⟩
    have hboundary : (s.ge.voicing.map ChannelVoicing.boundary)[c] = s.ge.voicing[c].boundary := by simp
    exact ⟨fun hc => hboundary.trans (boundary_of_written hc), fun hc => hboundary.trans (boundary_of_unwritten hc)⟩

end Sys2Proof.Machine
end

section
/-! SUPPORT. Receipts of quantities (R73, R76): the value held and every condition record after one, and VEHICLE_STATE (R71). -/

-- One declaration at a time: together they would start more threads than the check's memory limit has stacks for.
set_option Elab.async false

namespace Sys2Proof.Machine

/-! ### One record (R76) -/

theorem evaluated_quantity (r : Condition) (v : Int) : (r.evaluated v).quantity = r.quantity := by
  unfold Condition.evaluated
  dsimp only
  split
  · rfl
  · split
    · rfl
    · split
      · rfl
      · split <;> rfl

section
variable {r : Condition} {v : Int}

theorem evaluated_of_unset (h : r.state = none) :
    r.evaluated v = { r with state := some (r.comparison.holds v r.threshold), change := none } := by
  simp only [Condition.evaluated, h]

theorem evaluated_of_same (h : r.state = some (r.comparison.holds v r.threshold)) :
    r.evaluated v = { r with change := none } := by
  simp only [Condition.evaluated, h, if_true]

theorem evaluated_of_other (h : r.state = some (!r.comparison.holds v r.threshold)) :
    r.evaluated v =
      if r.change.isSome = true then r
      else if r.hold = 0 then { r with state := some (r.comparison.holds v r.threshold) }
      else { r with change := some { result := r.comparison.holds v r.threshold, remaining := r.hold } } := by
  simp only [Condition.evaluated, h, Bool.eq_not_self, if_false]
  split <;> simp_all

end

/-- A record after a receipt: evaluated where it is on the quantity received. -/
def Condition.received (q : Quantity) (v : Int) (r : Condition) : Condition :=
  if r.quantity = q then r.evaluated v else r

theorem received_on {q : Quantity} {r : Condition} (v : Int) (h : r.quantity = q) : r.received q v = r.evaluated v := if_pos h

theorem received_off {q : Quantity} {r : Condition} (v : Int) (h : r.quantity ≠ q) : r.received q v = r := if_neg h

/-! ### A receipt (R73, R76) -/

theorem setSlot_cu (i : Fin 16) (c : Option Condition) (s : State) :
    (setSlot i c s).cu = { s.cu with slots := s.cu.slots.set i c } := by rw [setSlot_eq]

theorem evaluateSlot_cu (q : Quantity) (v : Int) (s : State) (i : Fin 16) :
    (evaluateSlot q v s i).cu =
      { s.cu with slots := s.cu.slots.set i (s.cu.slots[i].map (Condition.received q v)) } := by
  have hself (c : Option Condition) (h : s.cu.slots[i] = c) : s.cu = { s.cu with slots := s.cu.slots.set i c } := by
    subst h
    simp
  unfold evaluateSlot
  split
  · next h =>
    rw [h]
    exact hself _ h
  · next r h =>
    rw [h, Option.map_some]
    split
    · next hq => rw [setSlot_cu, received_on v hq]
    · next hq =>
      rw [received_off v hq]
      exact hself _ h

theorem foldl_evaluateSlot_cu (q : Quantity) (v : Int) {l : List (Fin 16)} (hl : l.Nodup) (s : State) :
    (l.foldl (evaluateSlot q v) s).cu.values = s.cu.values ∧
      ∀ j : Fin 16, (l.foldl (evaluateSlot q v) s).cu.slots[j] =
        if j ∈ l then s.cu.slots[j].map (Condition.received q v) else s.cu.slots[j] := by
  induction l generalizing s with
  | nil => exact ⟨rfl, fun j => by simp⟩
  | cons i l ih =>
    obtain ⟨hi, hl⟩ := List.nodup_cons.1 hl
    obtain ⟨hvalues, hslots⟩ := ih hl (evaluateSlot q v s i)
    refine ⟨hvalues.trans (by rw [evaluateSlot_cu]), fun j => ?_⟩
    have hfirst : (evaluateSlot q v s i).cu.slots[j] =
        if j = i then s.cu.slots[i].map (Condition.received q v) else s.cu.slots[j] := by
      rw [evaluateSlot_cu]
      simp only [Fin.getElem_fin, Vector.getElem_set, Fin.ext_iff, eq_comm]
    rw [List.foldl_cons, hslots, hfirst]
    by_cases hj : j = i
    · subst hj
      simp [hi]
    · simp [hj]

theorem storeValue_slots (q : Quantity) (v : Int) (s : State) : (storeValue q v s).cu.slots = s.cu.slots := rfl

/-- A receipt hands every record its value. -/
theorem receipt_slot (q : Quantity) (v : Int) (s : State) (i : Fin 16) :
    (receipt q v s).cu.slots[i] = s.cu.slots[i].map (Condition.received q (clampQuantity q v)) := by
  have hall : i ∈ slotsInOrder := by revert i; decide
  unfold receipt
  rw [(foldl_evaluateSlot_cu q _ (l := slotsInOrder) (by decide) _).2, if_pos hall, storeValue_slots]

theorem quantityIndex_injective {p q : Quantity} (h : quantityIndex p = quantityIndex q) : p = q := by
  revert h
  cases p <;> cases q <;> decide

theorem heldValue_storeValue (p q : Quantity) (v : Int) (s : State) :
    heldValue (storeValue q v s) p = if p = q then some v else heldValue s p := by
  have hindex : quantityIndex q = quantityIndex p ↔ p = q := ⟨fun h => (quantityIndex_injective h).symm, fun h => h ▸ rfl⟩
  simp only [heldValue, storeValue, State.modCu_cu, Fin.getElem_fin, Vector.getElem_set, ← Fin.ext_iff, hindex]

/-- A receipt stores its value, clamped, and no other quantity's. -/
theorem heldValue_receipt (p q : Quantity) (v : Int) (s : State) :
    heldValue (receipt q v s) p = if p = q then some (clampQuantity q v) else heldValue s p := by
  rw [← heldValue_storeValue]
  unfold receipt heldValue
  rw [(foldl_evaluateSlot_cu q _ (l := slotsInOrder) (by decide) _).1]

/-! ### VEHICLE_STATE (R71) -/

section
variable (speed reverse tailgate ignition : Nat) (s : State)

/-- The store and the receipts of VEHICLE_STATE leave its four quantities at its values, and no other changed. -/
theorem heldValue_vehicle (p : Quantity) :
    heldValue (receiveVehicle speed reverse tailgate ignition (storeVehicle speed reverse tailgate ignition s)) p =
      match p with
      | .speed => some (clampQuantity .speed speed)
      | .reverse => some (clampQuantity .reverse reverse)
      | .tailgate => some (clampQuantity .tailgate tailgate)
      | .ignition => some (clampQuantity .ignition ignition)
      | p => heldValue s p := by
  simp only [receiveVehicle, storeVehicle, heldValue_receipt, heldValue_storeValue]
  cases p <;> rfl

/-- Each record is evaluated once, by the receipt of its own quantity. -/
theorem slot_vehicle (i : Fin 16) :
    (receiveVehicle speed reverse tailgate ignition (storeVehicle speed reverse tailgate ignition s)).cu.slots[i] =
      s.cu.slots[i].map (fun r =>
        match r.quantity with
        | .speed => r.evaluated (clampQuantity .speed speed)
        | .reverse => r.evaluated (clampQuantity .reverse reverse)
        | .tailgate => r.evaluated (clampQuantity .tailgate tailgate)
        | .ignition => r.evaluated (clampQuantity .ignition ignition)
        | _ => r) := by
  simp only [receiveVehicle, storeVehicle, receipt_slot, storeValue_slots, Option.map_map]
  refine congrArg (Option.map · s.cu.slots[i]) (funext fun r => ?_)
  simp only [Function.comp_apply]
  cases hq : r.quantity <;> simp [Condition.received, evaluated_quantity, hq]

end

/-- A clamped number that lies in its quantity's range already. -/
theorem clampQuantity_of_range {q : Quantity} {v : Int} (h : (quantityRange q).1 ≤ v ∧ v ≤ (quantityRange q).2) :
    clampQuantity q v = v := by
  unfold clampQuantity clampInt
  omega

theorem accepted_conditions {k : Kind} {o : OpState} (hk : k = .vehicleState ∨ k = .setCondition)
    (ho : o = .config ∨ o = .run) : accepted k o = true := by
  rcases hk with rfl | rfl <;> rcases ho with rfl | rfl <;> rfl

theorem answerVehicle_refuses {u : State} {v1 v0 rb tb ib : Byte} (h : 2 ≤ rb.toNat ∨ 2 ≤ tb.toNat ∨ 4 ≤ ib.toNat) :
    answerVehicle [v1, v0, rb, tb, ib] u = refuse u .outOfRange := if_pos h

theorem answerVehicle_stores {u : State} {v1 v0 rb tb ib : Byte} (hr : rb.toNat < 2) (ht : tb.toNat < 2) (hi : ib.toNat < 4) :
    answerVehicle [v1, v0, rb, tb, ib] u =
      accept (receiveVehicle (min (nat16 v1 v0) 300) rb.toNat tb.toNat ib.toNat
        (storeVehicle (min (nat16 v1 v0) 300) rb.toNat tb.toNat ib.toNat u)) (u16 (min (nat16 v1 v0) 300) ++ [rb, tb, ib]) :=
  if_neg (by omega)

/-- Settles O32: VEHICLE_STATE by what its four receipts make of the values and of each record, a receipt by the case of
`Condition.evaluated` that the record's state and the result give. -/
theorem vehicleStateIsEvaluated : Obligations.VehicleStateIsEvaluated := by
  unfold Obligations.VehicleStateIsEvaluated
  constructor
  · rintro s u v1 v0 rb tb ib rfl hop
    have hready : Ready .vehicleState s := accepted_conditions (.inl rfl) hop
    refine ⟨fun hbad => exec_next_refusing rfl rfl hready (answerVehicle_refuses hbad), fun hr ht hi => ?_⟩
    have hspeed : clampQuantity .speed (min (nat16 v1 v0) 300 : Nat) = (min (nat16 v1 v0) 300 : Nat) :=
      clampQuantity_of_range (by simp only [quantityRange]; omega)
    have hreverse : clampQuantity .reverse rb.toNat = rb.toNat :=
      clampQuantity_of_range (by simp only [quantityRange]; omega)
    have htailgate : clampQuantity .tailgate tb.toNat = tb.toNat :=
      clampQuantity_of_range (by simp only [quantityRange]; omega)
    have hignition : clampQuantity .ignition ib.toNat = ib.toNat :=
      clampQuantity_of_range (by simp only [quantityRange]; omega)
    have hheld := heldValue_vehicle (min (nat16 v1 v0) 300) rb.toNat tb.toNat ib.toNat (atRequest .vehicleState s)
    have hslot := slot_vehicle (min (nat16 v1 v0) 300) rb.toNat tb.toNat ib.toNat (atRequest .vehicleState s)
    rw [hspeed, hreverse, htailgate, hignition] at hheld hslot
    have hwithin : Within [.cu] (atRequest .vehicleState s)
        (receiveVehicle (min (nat16 v1 v0) 300) rb.toNat tb.toNat ib.toNat
          (storeVehicle (min (nat16 v1 v0) 300) rb.toNat tb.toNat ib.toNat (atRequest .vehicleState s))) :=
      ((storeVehicle_within ..).trans (receiveVehicle_within ..)).mono
    have hexec := exec_next_accepting (i := .vehicleState [v1, v0, rb, tb, ib]) rfl rfl hready (answerVehicle_stores hr ht hi)
    generalize receiveVehicle _ _ _ _ _ = w at hexec hheld hslot hwithin
    refine ⟨_, hexec, hheld .speed, hheld .reverse, hheld .tailgate, hheld .ignition, fun q hq => (hheld q).trans ?_, hslot,
      rfl, hwithin.accepted_keepsBut _ _⟩
    cases q <;> simp at hq ⊢
  · intro s t q v x ht hx
    rw [ht]
    have hclamp : clampQuantity q v = x := hx.symm
    refine ⟨by rw [heldValue_receipt, if_pos rfl, hclamp], fun p hp => by rw [heldValue_receipt, if_neg hp],
      fun i r hr => ?_, fun i hi => by rw [receipt_slot, hi, Option.map_none], (receipt_within q v s).same⟩
    have hslot : (receipt q v s).cu.slots[i] = some (r.received q x) := by
      rw [receipt_slot, hr, Option.map_some, hclamp]
    rw [hslot]
    refine ⟨fun hq => by rw [received_off _ hq], fun hq hstate => ?_, fun hq hstate => ?_, fun hq hstate => ?_⟩
    · rw [received_on _ hq, evaluated_of_unset hstate]
    · rw [received_on _ hq, evaluated_of_same hstate]
    · rw [received_on _ hq, evaluated_of_other hstate]

end Sys2Proof.Machine
end

section
/-! SUPPORT. SET_CONDITION and the hold timers (R74, R75, R77, R78): what a body is read as, and a slot's contents replaced. -/

-- One declaration at a time: together they would start more threads than the check's memory limit has stacks for.
set_option Elab.async false

namespace Sys2Proof.Machine

/-! ### A slot's contents replaced (R75 to R78) -/

/-- Where the slot's state stays, nothing is reported. -/
theorem setSlot_silent {i : Fin 16} {c : Option Condition} {s : State}
    (h : conditionStateCode c = conditionStateCode s.cu.slots[i]) : (setSlot i c s).cp = s.cp := by
  unfold setSlot
  dsimp only
  rw [if_pos h, State.modCu_cp]

theorem setSlot_tells {i : Fin 16} {c : Option Condition} {s : State}
    (h : conditionStateCode c ≠ conditionStateCode s.cu.slots[i]) (hroom : s.cp.reports.length < 24) :
    (setSlot i c s).cp.tells .conditionChanged i.val := by
  unfold setSlot
  dsimp only
  rw [if_neg h]
  exact post_tells (s := s.modCu _) _ hroom

theorem conditionStateCode_none_ne (r : Condition) : conditionStateCode none ≠ conditionStateCode (some r) := by
  rcases hr : r.state with _ | (_ | _) <;> simp [conditionStateCode, hr]

theorem conditionStateCode_some_ne {q r : Condition} (h : r.state ≠ q.state) :
    conditionStateCode (some q) ≠ conditionStateCode (some r) := by
  rcases hq : q.state with _ | (_ | _) <;> rcases hr : r.state with _ | (_ | _) <;> simp_all [conditionStateCode]

/-! ### What a body is read as (R74) -/

theorem readQuantity_code (q : Quantity) : readQuantity (byte q.code) = some q := by cases q <;> rfl

theorem readQuantity_none {b : Byte} (h : 11 ≤ b.toNat) : readQuantity b = none := by
  revert b
  decide

theorem readComparison_code (c : Comparison) : readComparison (byte c.code) = some c := by cases c <;> rfl

theorem readComparison_none {b : Byte} (h : 3 ≤ b.toNat) : readComparison b = none := by
  revert b
  decide

theorem readEffect_some {eb db : Byte} {e : Effect}
    (h : (eb = 0#8 ∧ e = .muteWhenTrue) ∨ (eb = 1#8 ∧ e = .muteWhenFalse) ∨
      (eb = 2#8 ∧ e = .cutWhenTrue (min (max db.toNat 1) 240))) : readEffect eb db = some e := by
  rcases h with ⟨rfl, rfl⟩ | ⟨rfl, rfl⟩ | ⟨rfl, rfl⟩ <;> rfl

theorem readEffect_none {b : Byte} (db : Byte) (h : 3 ≤ b.toNat) : readEffect b db = none := by
  have hcodes : (0 == b.toNat) = false ∧ (1 == b.toNat) = false ∧ (2 == b.toNat) = false := by
    simp only [beq_eq_false_iff_ne]
    omega
  obtain ⟨h0, h1, h2⟩ := hcodes
  simp [readEffect, ofCode, Effect.code, List.find?, h0, h1, h2]

section
variable {qb cb t1 t0 h1 h0 zb sb eb db : Byte}

/-- R74 refuses a record of which one operand is outside its set. -/
theorem readCondition_none
    (h : readQuantity qb = none ∨ readComparison cb = none ∨ readZoneSet zb = none ∨ readSourceSet sb = none ∨
      readEffect eb db = none) : readCondition qb cb t1 t0 h1 h0 zb sb eb db = none := by
  unfold readCondition
  split
  · simp_all
  · rfl

theorem readCondition_some {q : Quantity} {c : Comparison} {e : Effect} (hq : readQuantity qb = some q)
    (hc : readComparison cb = some c) (hz : zb.toNat < 32) (hs : sb.toNat < 64) (he : readEffect eb db = some e) :
    readCondition qb cb t1 t0 h1 h0 zb sb eb db =
      some
        { quantity := q, comparison := c, threshold := clampQuantity q (int16 t1 t0)
          hold := min (nat16 h1 h0) 5000 / 100 * 100
          zones := ⟨zb.getLsbD 0, zb.getLsbD 1, zb.getLsbD 2, zb.getLsbD 3, zb.getLsbD 4⟩
          sources := ⟨sb.getLsbD 0, sb.getLsbD 1, sb.getLsbD 2, sb.getLsbD 3, sb.getLsbD 4, sb.getLsbD 5⟩
          effect := e, state := none, change := none } := by
  simp only [readCondition, hq, hc, he, readZoneSet, readSourceSet, if_pos hz, if_pos hs]

/-- A record of no state yet, evaluated as it is written. -/
theorem atWrite_eq {r : Condition} (h : r.state = none) (held : Option Int) :
    r.atWrite held = { r with state := held.map (fun v => r.comparison.holds v r.threshold) } := by
  cases held with
  | none => rw [Condition.atWrite, Option.map_none, ← h]
  | some v => rfl

/-! ### SET_CONDITION's own rule (R74, R75) -/

theorem byte_slot (i : Fin 16) : (byte i.val).toNat = i.val := by
  rw [BitVec.toNat_ofNat]
  omega

variable {u : State}

theorem answerCondition_noSlot {x mark : Byte} (h : 16 ≤ x.toNat) :
    answerCondition [x, mark, qb, cb, t1, t0, h1, h0, zb, sb, eb, db] u = refuse u .outOfRange := dif_neg (by omega)

theorem answerCondition_empties (i : Fin 16) :
    answerCondition [byte i.val, 0#8, qb, cb, t1, t0, h1, h0, zb, sb, eb, db] u =
      accept (setSlot i none u) (conditionField i none) := by
  simp only [answerCondition, byte_slot, i.isLt, dif_pos, if_true]

theorem answerCondition_noMark (i : Fin 16) {x : Byte} (h : 2 ≤ x.toNat) :
    answerCondition [byte i.val, x, qb, cb, t1, t0, h1, h0, zb, sb, eb, db] u = refuse u .outOfRange := by
  have hne : x ≠ 0#8 ∧ x ≠ 1#8 := by
    constructor <;> rintro rfl <;> simp at h
  simp only [answerCondition, hne.1, hne.2, if_false, dite_eq_ite, ite_self]

theorem answerCondition_unread (i : Fin 16) (h : readCondition qb cb t1 t0 h1 h0 zb sb eb db = none) :
    answerCondition [byte i.val, 1#8, qb, cb, t1, t0, h1, h0, zb, sb, eb, db] u = refuse u .outOfRange := by
  have hmark : (1#8 : Byte) ≠ 0#8 := by decide
  simp only [answerCondition, hmark, h, if_false, dite_eq_ite, ite_self]

theorem answerCondition_writes (i : Fin 16) {r : Condition} (h : readCondition qb cb t1 t0 h1 h0 zb sb eb db = some r) :
    answerCondition [byte i.val, 1#8, qb, cb, t1, t0, h1, h0, zb, sb, eb, db] u =
      accept (setSlot i (some (r.atWrite (heldValue u r.quantity))) u)
        (conditionField i (some (r.atWrite (heldValue u r.quantity)))) := by
  have hmark : (1#8 : Byte) ≠ 0#8 := by decide
  simp only [answerCondition, byte_slot, i.isLt, dif_pos, hmark, h, if_false, if_true]

end

/-- What SET_CONDITION leaves where it replaces a slot's contents. -/
theorem setSlot_accepted (i : Fin 16) (c : Option Condition) (u : State) (body : Bytes) {t : State}
    (ht : t = (setSlot i c u).accepting .setCondition body) :
    t.cu = { u.cu with slots := u.cu.slots.set i c } ∧ t.cp.reply = some ⟨0x1b#8, .ok, body⟩ ∧
      (conditionStateCode c ≠ conditionStateCode u.cu.slots[i] → u.cp.reports.length < 24 →
        t.cp.tells .conditionChanged i.val) ∧
      (conditionStateCode c = conditionStateCode u.cu.slots[i] → t.cp.reports = u.cp.reports) ∧ keepsBut [.cp, .cu] u t := by
  subst ht
  have hreports : ((setSlot i c u).accepting .setCondition body).cp.reports = (setSlot i c u).cp.reports := rfl
  refine ⟨setSlot_cu i c u, rfl, fun hne hroom => ?_, fun heq => by rw [hreports, setSlot_silent heq],
    (setSlot_within i c u).accepted_keepsBut _ _⟩
  rw [ControlPort.tells, hreports]
  exact setSlot_tells hne hroom

/-! ### The hold timer (R77) -/

theorem holdRunsOut_idle {i : Fin 16} {s : State} (h : s.cu.slots[i] = none ∨ s.cu.slots[i].bind Condition.change = none) :
    holdRunsOut i s = s := by
  unfold holdRunsOut
  split
  · rfl
  · split <;> simp_all

theorem holdRunsOut_takes {i : Fin 16} {s : State} {r : Condition} {p : PendingChange} (hr : s.cu.slots[i] = some r)
    (hp : r.change = some p) : holdRunsOut i s = setSlot i (some (r.ranOut p)) s := by
  simp only [holdRunsOut, hr, hp]

/-- Settles O33: each body by what its operands are read as, and each change of a slot by `setSlot`, which reports it where
the slot's state changes. -/
theorem conditionsAreWrittenAndTimed : Obligations.ConditionsAreWrittenAndTimed := by
  unfold Obligations.ConditionsAreWrittenAndTimed
  constructor
  · rintro s u i q cmp t1 t0 h1 h0 zb sb eb db x e r rfl hop hr heffect
    have hready : Ready .setCondition s := accepted_conditions (.inr rfl) hop
    have refuses {body : Bytes} (hlen : body.length = 12)
        (hact : answerCondition body (atRequest .setCondition s) = refuse _ .outOfRange) :
        exec (.setCondition body) s = .next ((atRequest .setCondition s).refusing .setCondition .outOfRange) :=
      exec_next_refusing rfl (by simp [lengthAllowed, hlen]) hready hact
    refine ⟨fun hz hs => ?_, ?_, fun hx => refuses rfl (answerCondition_noSlot hx),
      fun hx => refuses rfl (answerCondition_noMark i hx),
      fun hx => refuses rfl (answerCondition_unread i (readCondition_none (.inl (readQuantity_none hx)))),
      fun hx => ⟨?_, ?_⟩, fun hsets => ?_⟩
    · obtain ⟨w, hread, hwritten⟩ : ∃ w : Condition,
          readCondition (byte q.code) (byte cmp.code) t1 t0 h1 h0 zb sb eb db = some w ∧
          w.atWrite (heldValue (atRequest .setCondition s) w.quantity) = r :=
        ⟨_, readCondition_some (readQuantity_code q) (readComparison_code cmp) hz hs (readEffect_some heffect),
          (atWrite_eq rfl _).trans hr.symm⟩
      have hexec := exec_next_accepting (i := .setCondition _) rfl rfl hready (answerCondition_writes i hread)
      rw [hwritten] at hexec
      exact ⟨_, hexec, setSlot_accepted i (some r) _ _ rfl⟩
    · obtain ⟨hcu, hreply, htells, hsilent, hkeeps⟩ :=
        setSlot_accepted i none (atRequest .setCondition s) (conditionField i none) rfl
      refine ⟨_, exec_next_accepting rfl rfl hready (answerCondition_empties i), hcu, hreply, fun hne => htells ?_,
        fun hnone => hsilent (by rw [hnone]), hkeeps⟩
      obtain ⟨w, hw⟩ := Option.ne_none_iff_exists'.1 hne
      rw [hw]
      exact conditionStateCode_none_ne w
    · exact refuses rfl (answerCondition_unread i (readCondition_none (.inr (.inl (readComparison_none hx)))))
    · exact refuses rfl (answerCondition_unread i (readCondition_none (.inr (.inr (.inr (.inr (readEffect_none db hx)))))))
    · refine refuses rfl (answerCondition_unread i (readCondition_none (.inr (.inr ?_))))
      rcases hsets with hz | hs
      · exact .inl (if_neg (by omega))
      · exact .inr (.inl (if_neg (by omega)))
  · intro s i
    have hexec : exec (.holdTimerRunout i) s = .next (settle (holdRunsOut i s)) := rfl
    refine ⟨fun hidle => by rw [hexec, holdRunsOut_idle hidle], fun r hr p hp => ?_⟩
    rw [holdRunsOut_takes hr hp] at hexec
    have hslot := setSlot_within i (some (r.ranOut p)) s
    refine ⟨_, hexec, setSlot_cu i _ s, fun hne hroom => ?_, hslot.posted.reply_eq, hslot.posted.masked_eq,
      hslot.posted.watchdog_eq, hslot.settled.same⟩
    have hcode : conditionStateCode (some (r.ranOut p)) ≠ conditionStateCode s.cu.slots[i] :=
      hr ▸ conditionStateCode_some_ne hne
    exact setSlot_tells hcode hroom

end Sys2Proof.Machine
end

section
/-! SUPPORT. The amplifier channels' records, one after another: what the shutdowns, the ends of causes and the waiting starts make
of each (R154, R157, R158, R161, R163). -/

-- One declaration at a time: together they would start more threads than the check's memory limit has stacks for.
set_option Elab.async false

namespace Sys2Proof.Machine

/-! ### One channel's record replaced -/

/-- One channel's record is replaced, reports are posted, and the canceller may have been restarted. -/
def SetsAmp (k : Amp) (a : AmpChannel) (s t : State) : Prop := Within [.clp] (s.putAmp k a) t

theorem SetsAmp.of_same (k : Amp) (s : State) : SetsAmp k s.os.amps[k] s s := by
  unfold SetsAmp
  rw [putAmp_self]
  exact .refl

theorem putAmp_putAmp (k : Amp) (a b : AmpChannel) (s : State) : (s.putAmp k a).putAmp k b = s.putAmp k b := by
  simp [State.putAmp, State.modOs]

theorem SetsAmp.of_put {k : Amp} {a b : AmpChannel} {s t : State} (h : SetsAmp k b (s.putAmp k a) t) : SetsAmp k b s t := by
  unfold SetsAmp at h ⊢
  rwa [putAmp_putAmp] at h

theorem SetsAmp.os_eq {k : Amp} {a : AmpChannel} {s t : State} (h : SetsAmp k a s t) :
    t.os = { s.os with amps := s.os.amps.set k a } := Within.os_eq h

theorem SetsAmp.within {k : Amp} {a : AmpChannel} {s t : State} (h : SetsAmp k a s t) : Within [.os, .clp] s t :=
  (modOs_within _ s).trans h

theorem changeAmp_sets (k : Amp) (f : AmpChannel → AmpChannel) (s : State) :
    SetsAmp k (s.os.amps[k].kept (f s.os.amps[k])) s (changeAmp k f s) :=
  .ite (restartCanceller_within _) .refl

theorem modAmp_eq_putAmp (k : Amp) (f : AmpChannel → AmpChannel) (s : State) : modAmp k f s = s.putAmp k (f s.os.amps[k]) := rfl

theorem endCause_eq_putAmp (kind : FaultKind) (k : Amp) (s : State) :
    endCause kind k s = s.putAmp k (s.os.amps[k].endCause kind s.os.protection.holding) := rfl

theorem endCause_putAmp (kind : FaultKind) (k : Amp) (a : AmpChannel) (s : State) :
    endCause kind k (s.putAmp k a) = s.putAmp k (a.endCause kind s.os.protection.holding) := by
  rw [endCause_eq_putAmp, putAmp_putAmp, putAmp_amp, if_pos rfl]
  rfl

theorem not_mem_causes_endCause (kind : FaultKind) (holding : FaultHolding) (a : AmpChannel) :
    kind ∉ (a.endCause kind holding).causes := by
  simp [AmpChannel.endCause, faultRemove]

/-! ### Channels one after another -/

/-- In the Output Stage the channels' records alone may have changed, and beside it the canceller may have been restarted and
reports have been posted. -/
structure AmpsOnly (s t : State) : Prop where
  within : Within [.os, .clp] s t
  os_eq : t.os = { s.os with amps := t.os.amps }

theorem AmpsOnly.refl {s : State} : AmpsOnly s s := ⟨.refl, rfl⟩

theorem AmpsOnly.trans {s t u : State} (h : AmpsOnly s t) (h' : AmpsOnly t u) : AmpsOnly s u :=
  ⟨(h.within.trans h'.within).mono, by rw [h'.os_eq, h.os_eq]⟩

theorem SetsAmp.ampsOnly {k : Amp} {a : AmpChannel} {s t : State} (h : SetsAmp k a s t) : AmpsOnly s t :=
  ⟨h.within, by rw [h.os_eq]⟩

/-- The banks' states are no part of the amplifiers' records. -/
theorem bankState_congr {s t : State} {amps : Vector AmpChannel 10} (hos : t.os = { s.os with amps := amps }) (b : Bank) :
    bankState t b = bankState s b := by
  cases b <;> simp only [bankState, hos]

section
variable {s t : State} (h : AmpsOnly s t)
include h

theorem AmpsOnly.protection_eq : t.os.protection = s.os.protection := by rw [h.os_eq]

theorem AmpsOnly.bankState_eq (b : Bank) : bankState t b = bankState s b := bankState_congr h.os_eq b

theorem AmpsOnly.gateOpen_eq (k : Amp) : gateOpen t k = gateOpen s k := gateOpen_congr h.within.install_eq h.os_eq k

end

/-- Steps of which each replaces its own channel's record, by that record and by what none of them changes, replace each
channel's record once. -/
theorem foldl_setsAmp {f : State → Amp → State} {g : Amp → AmpChannel → AmpChannel} {s : State}
    (h : ∀ t k, AmpsOnly s t → SetsAmp k (g k t.os.amps[k]) t (f t k)) {l : List Amp} (hl : l.Nodup) :
    AmpsOnly s (l.foldl f s) ∧
      ∀ j : Amp, (l.foldl f s).os.amps[j] = if j ∈ l then g j s.os.amps[j] else s.os.amps[j] := by
  have key : ∀ t, AmpsOnly s t → AmpsOnly s (l.foldl f t) ∧
      ∀ j : Amp, (l.foldl f t).os.amps[j] = if j ∈ l then g j t.os.amps[j] else t.os.amps[j] := by
    induction l with
    | nil => exact fun t ht => ⟨ht, fun j => by simp⟩
    | cons k l ih =>
      intro t ht
      obtain ⟨hk, hl⟩ := List.nodup_cons.1 hl
      have hstep := h t k ht
      obtain ⟨honly, hamps⟩ := ih hl (f t k) (ht.trans hstep.ampsOnly)
      have hfirst (j : Amp) : (f t k).os.amps[j] = if j = k then g k t.os.amps[k] else t.os.amps[j] := by
        rw [hstep.os_eq]
        exact putAmp_amp k j _ t
      refine ⟨honly, fun j => ?_⟩
      rw [List.foldl_cons, hamps, hfirst]
      by_cases hj : j = k
      · subst hj
        simp [hk]
      · simp [hj]
  exact key s .refl

/-! ### Starts that waited (R154, R157, R158) -/

/-- The record of a channel whose waiting start goes on, where `go` says that it may. -/
def AmpChannel.proceeded (go : Bool) (a : AmpChannel) : AmpChannel :=
  if a.startPending && go then
    a.kept { a with state := .starting, startPending := false, soft := some 20, trip := none, retry := none }
  else a

/-- Whether a channel may start: its gate is open, and the part is not in STANDBY (R153, R163). -/
def mayStart (s : State) (k : Amp) : Bool := gateOpen s k && s.sc.opState != .standby

theorem proceeded_starts {a : AmpChannel} (h : a.startPending = true) :
    (a.proceeded true).state = .starting ∧ (a.proceeded true).startPending = false := by
  simp [AmpChannel.proceeded, h, AmpChannel.kept]

theorem proceeded_stays {go : Bool} {a : AmpChannel} (h : a.startPending = false ∨ go = false) : a.proceeded go = a :=
  if_neg (by rcases h with h | h <;> simp [h])

theorem proceeded_faults (go : Bool) (a : AmpChannel) :
    (a.proceeded go).causes = a.causes ∧ (a.proceeded go).faults = a.faults := by
  unfold AmpChannel.proceeded
  split <;> exact ⟨rfl, rfl⟩

/-- One channel's waiting start, which goes on where its gate is open. -/
def proceedStart (s : State) (k : Amp) : State :=
  if s.os.amps[k].startPending && gateOpen s k then startAmp k s.os.amps[k].restartMark s else s

theorem proceedStarts_eq (s : State) : proceedStarts s = Amp.all.foldl proceedStart s := rfl

theorem proceedStart_sets (s : State) (k : Amp) : SetsAmp k (s.os.amps[k].proceeded (mayStart s k)) s (proceedStart s k) := by
  unfold proceedStart
  split
  · next hgo =>
    obtain ⟨hpending, hgate⟩ := Bool.and_eq_true_iff.1 hgo
    by_cases hop : s.sc.opState = .standby
    · rw [proceeded_stays (.inr (by simp [mayStart, hop])), startAmp, if_pos hop]
      exact .of_same k s
    · rw [AmpChannel.proceeded, if_pos (by rw [hpending, mayStart, hgate]; simp [hop]), startAmp, if_neg hop, if_pos hgate]
      exact changeAmp_sets k (fun a =>
        { a with state := .starting, startPending := false, soft := some 20, trip := none, retry := none
                 restartMark := s.os.amps[k].restartMark }) s
  · next hgo =>
    have hstays : s.os.amps[k].startPending = false ∨ mayStart s k = false := by
      rcases Bool.and_eq_false_iff.1 (Bool.eq_false_iff.2 hgo) with hp | hgate
      · exact .inl hp
      · exact .inr (by rw [mayStart, hgate, Bool.false_and])
    rw [proceeded_stays hstays]
    exact .of_same k s

theorem AmpsOnly.mayStart_eq {s t : State} (h : AmpsOnly s t) (k : Amp) : mayStart t k = mayStart s k := by
  rw [mayStart, mayStart, h.gateOpen_eq, h.within.sc_eq]

theorem proceedStarts_amps (s : State) :
    AmpsOnly s (proceedStarts s) ∧
      ∀ j : Amp, (proceedStarts s).os.amps[j] = (s.os.amps[j]).proceeded (mayStart s j) := by
  obtain ⟨honly, hamps⟩ := foldl_setsAmp (f := proceedStart) (g := fun k a => a.proceeded (mayStart s k)) (s := s)
    (fun t k ht => ht.mayStart_eq k ▸ proceedStart_sets t k) (l := Amp.all) (by decide)
  rw [proceedStarts_eq]
  exact ⟨honly, fun j => (hamps j).trans (if_pos (mem_ampAll j))⟩

/-! ### Shutdowns (R157, R158, R163) -/

/-- The record of a channel shut down by a protection, whose rule gives it its state. -/
def AmpChannel.shutBy (kind : FaultKind) (rule : AmpChannel → AmpChannel) (a : AmpChannel) : AmpChannel :=
  a.kept { (rule a).addFault kind with soft := none, trip := none }

/-- What becomes of a channel in STANDBY, whatever the rule of the protection: OFF, and no start waits (R163). -/
def AmpChannel.barred (a : AmpChannel) : AmpChannel :=
  { a with state := .off, startPending := false, retry := none, restartMark := false }

/-- The rule by which a channel is shut down in an operating state. -/
def ruleIn (s : State) (rule : AmpChannel → AmpChannel) : AmpChannel → AmpChannel :=
  if s.sc.opState = .standby then AmpChannel.barred else rule

theorem shutDown_sets (kind : FaultKind) (rule : AmpChannel → AmpChannel) (k : Amp) (s : State) :
    SetsAmp k (s.os.amps[k].shutBy kind (ruleIn s rule)) s (shutDown kind rule k s) := by
  have hrule (a : AmpChannel) : (if s.sc.opState = .standby then a.barred else rule a) = ruleIn s rule a := by
    unfold ruleIn
    split <;> rfl
  have hchange := changeAmp_sets k (fun a => { (ruleIn s rule a).addFault kind with soft := none, trip := none }) s
  unfold shutDown
  simp only [← AmpChannel.barred.eq_def, hrule]
  exact (hchange.trans (postChannelFault_within kind k _)).mono

theorem shutBy_fields (kind : FaultKind) (rule : AmpChannel → AmpChannel) (a : AmpChannel) :
    (a.shutBy kind rule).state = (rule a).state ∧ (a.shutBy kind rule).startPending = (rule a).startPending ∧
      (a.shutBy kind rule).restartMark = (rule a).restartMark ∧ kind ∈ (a.shutBy kind rule).faults ∧
      (a.shutBy kind rule).thermalBank = (rule a).thermalBank :=
  ⟨rfl, rfl, rfl, mem_faultInsert kind _, rfl⟩

end Sys2Proof.Machine
end

section
/-! SUPPORT. A bank's temperature and the supply (R157, R158, R161): the bank's state and the supply's, their reports, and what
their changes make of each channel. -/

-- One declaration at a time: together they would start more threads than the check's memory limit has stacks for.
set_option Elab.async false

namespace Sys2Proof.Machine

/-! ### A report of a kind that stands in the queue with its data -/

/-- A posted report that finds room, or one of its kind and subject, stands in the queue with its data. -/
theorem post_stands {k : ReportKind} {n : Nat} {s : State} (d : Bytes) (hroom : s.cp.reports.length < 24) :
    ∃ r ∈ (post k n d s).cp.reports, r.kind = k ∧ r.data = reportData d := by
  rw [post_cp]
  show ∃ r ∈ (s.cp.enqueue _).reports, _
  rw [ControlPort.enqueue_by_case]
  split
  · next h =>
    obtain ⟨q, hq, hkey⟩ := List.any_eq_true.1 h.2
    have hsame : q.kind = k ∧ q.subject = n := by simpa using hkey
    exact ⟨_, List.mem_map_of_mem hq, by rw [if_pos hsame]; exact hsame.1, by rw [if_pos hsame]⟩
  · exact ⟨_, List.mem_append_right _ (List.mem_singleton.2 rfl), rfl, rfl⟩

/-- A report of a kind in the queue, whatever its subject. -/
theorem ControlPort.tells.kind {c : ControlPort} {k : ReportKind} {n : Nat} (h : c.tells k n) :
    (c.reports.any (fun r => r.kind == k)) = true := by
  obtain ⟨r, hr, hkey⟩ := List.any_eq_true.1 h
  exact List.any_eq_true.2 ⟨r, hr, (Bool.and_eq_true_iff.1 hkey).1⟩

/-- The queued SUPPLY_STATE reports stay as they are. -/
def SupplyKept (s t : State) : Prop := ∀ r ∈ s.cp.reports, r.kind = .supplyState → r ∈ t.cp.reports

theorem SupplyKept.refl {s : State} : SupplyKept s s := fun _ hr _ => hr

theorem SupplyKept.trans {s t u : State} (h : SupplyKept s t) (h' : SupplyKept t u) : SupplyKept s u :=
  fun r hr hk => h' r (h r hr hk) hk

theorem SupplyKept.settled {s t : State} (h : SupplyKept s t) : SupplyKept s (settle t) := h

theorem SupplyKept.ite {s a b : State} {c : Prop} [Decidable c] (ha : SupplyKept s a) (hb : SupplyKept s b) :
    SupplyKept s (if c then a else b) := by
  split <;> assumption

theorem SupplyKept.foldl {α : Type} {f : State → α → State} (h : ∀ s a, SupplyKept s (f s a)) (l : List α) (s : State) :
    SupplyKept s (l.foldl f s) :=
  foldl_keeps (P := SupplyKept s) (fun t a ht => ht.trans (h t a)) l .refl

theorem post_supplyKept {k : ReportKind} (hk : k ≠ .supplyState) (n : Nat) (d : Bytes) (s : State) :
    SupplyKept s (post k n d s) :=
  fun r hr hkind => post_keeps_report k n d s r hr (hkind ▸ hk.symm)

theorem changeAmp_supplyKept (k : Amp) (f : AmpChannel → AmpChannel) (s : State) : SupplyKept s (changeAmp k f s) := by
  have hrestart (t : State) : SupplyKept t (restartCanceller t) :=
    .ite (post_supplyKept (k := .aecState) (by decide) _ _ (t.modClp _)) .refl
  exact .ite (hrestart (s.modOs _)) .refl

theorem shutDown_supplyKept (kind : FaultKind) (rule : AmpChannel → AmpChannel) (k : Amp) (s : State) :
    SupplyKept s (shutDown kind rule k s) :=
  (changeAmp_supplyKept k _ s).trans (post_supplyKept (k := .channelFault) (by decide) _ _ _)

theorem startAmp_supplyKept (k : Amp) (mark : Bool) (s : State) : SupplyKept s (startAmp k mark s) :=
  .ite .refl (.ite (changeAmp_supplyKept k _ s) (changeAmp_supplyKept k _ s))

theorem supplyActs_supplyKept (was now : SupplyState) (s : State) : SupplyKept s (supplyActs was now s) := by
  have hhold (t : State) (k : Amp) : SupplyKept t (overvoltageHold t k) := .ite (shutDown_supplyKept _ _ k t) .refl
  have hcause (t : State) (k : Amp) : SupplyKept t (holdCauseEnds t k) := SupplyKept.refl (s := t)
  have hstart (t : State) (k : Amp) : SupplyKept t (proceedStart t k) := .ite (startAmp_supplyKept k _ t) .refl
  refine .ite (.foldl hhold Amp.all s) (.ite ?_ .refl)
  exact (SupplyKept.foldl hcause Amp.all s).trans (.foldl hstart Amp.all _)

theorem receipt_supplyKept (q : Quantity) (v : Int) (s : State) : SupplyKept s (receipt q v s) := by
  have hslot (i : Fin 16) (c : Option Condition) (t : State) : SupplyKept t (setSlot i c t) :=
    .ite .refl (post_supplyKept (k := .conditionChanged) (by decide) _ _ (t.modCu _))
  have hevaluate (t : State) (i : Fin 16) : SupplyKept t (evaluateSlot q (clampQuantity q v) t i) := by
    unfold evaluateSlot
    split
    · exact .refl
    · exact .ite (hslot i _ t) .refl
  have hstore : SupplyKept s (storeValue q (clampQuantity q v) s) := fun _ hr _ => hr
  unfold receipt
  exact hstore.trans (.foldl hevaluate slotsInOrder _)

/-! ### A bank's state (R157) -/

/-- A bank's state after a sample of its temperature. -/
def bankAfter (s : State) (b : Bank) (temp : Int) : BankState :=
  { level := levelAfter (bankState s b).level temp, shutdown := shutdownAfter (bankState s b).shutdown temp }

/-- The state after a temperature sample, before the shutdown flag's change acts on the channels. -/
def State.banked (b : Bank) (temp : Int) (s : State) : State :=
  if bankAfter s b temp = bankState s b then setBank b (bankAfter s b temp) s
  else
    post .thermalLevel (bankCode b) (u8 (bankAfter s b temp).level ++ (bit (bankAfter s b temp).shutdown ++ s16 temp))
      (setBank b (bankAfter s b temp) s)

theorem thermalSample_eq (b : Bank) (temp : Int) (s : State) :
    thermalSample b temp s =
      shutdownActs b (bankState s b).shutdown (shutdownAfter (bankState s b).shutdown temp) (s.banked b temp) := rfl

section
variable (b : Bank) (temp : Int) (s : State)

theorem banked_within : Within [] (setBank b (bankAfter s b temp) s) (s.banked b temp) := .ite .refl (post_within _ _ _ _)

theorem bankState_setBank (c : Bank) (x : BankState) : bankState (setBank b x s) c = if c = b then x else bankState s c := by
  cases b <;> cases c <;> rfl

theorem bankState_banked (c : Bank) :
    bankState (s.banked b temp) c = if c = b then bankAfter s b temp else bankState s c := by
  rw [← bankState_setBank]
  cases c <;> rw [bankState, bankState, (banked_within b temp s).os_eq]

theorem setBank_others (x : BankState) :
    (setBank b x s).os.amps = s.os.amps ∧ (setBank b x s).os.protection = s.os.protection := by
  cases b <;> exact ⟨rfl, rfl⟩

theorem banked_others : (s.banked b temp).sc = s.sc ∧ (s.banked b temp).install = s.install ∧
    (s.banked b temp).os.amps = s.os.amps ∧ (s.banked b temp).os.protection = s.os.protection := by
  have hwithin := banked_within b temp s
  rw [hwithin.os_eq]
  exact ⟨hwithin.sc_eq, hwithin.install_eq, setBank_others b s _⟩

variable {b temp s}

theorem banked_tells (hnew : bankAfter s b temp ≠ bankState s b) (hroom : s.cp.reports.length < 24) :
    (s.banked b temp).cp.tells .thermalLevel (bankCode b) := by
  unfold State.banked
  rw [if_neg hnew]
  exact post_tells (s := setBank b _ s) _ hroom

end

/-! ### The shutdown flag and the channels (R157, R161) -/

/-- The rule by which a thermal shutdown leaves a channel: waiting to start again, or latched. -/
def thermalRule (mode : ProtectionMode) (a : AmpChannel) : AmpChannel :=
  if mode = .retry then { a with state := .faultWait, startPending := true, restartMark := true, retry := none }
  else { a with state := .faultLatched }

/-- The record of a channel that a bank's shutdown reaches. -/
def AmpChannel.thermallyDown (b : Bank) (rule : AmpChannel → AmpChannel) (a : AmpChannel) : AmpChannel :=
  if a.state.running then { a with thermalBank := some b }.shutBy .thermalShutdown rule else a

/-- The record of a channel as the flag of a bank clears. -/
def AmpChannel.thermallyEnded (b : Bank) (holding : FaultHolding) (a : AmpChannel) : AmpChannel :=
  if a.thermalBank = some b then { a with thermalBank := none }.endCause .thermalShutdown holding else a

theorem thermalDown_sets (b : Bank) (s : State) (k : Amp) :
    SetsAmp k (s.os.amps[k].thermallyDown b (ruleIn s (thermalRule s.os.protection.mode))) s (thermalDown b s k) := by
  unfold thermalDown AmpChannel.thermallyDown
  split
  · rw [modAmp_eq_putAmp]
    have hshut := shutDown_sets .thermalShutdown (thermalRule s.os.protection.mode) k
      (s.putAmp k { s.os.amps[k] with thermalBank := some b })
    rw [putAmp_amp, if_pos rfl] at hshut
    exact hshut.of_put
  · exact .of_same k s

theorem thermalCauseEnds_sets (b : Bank) (s : State) (k : Amp) :
    SetsAmp k (s.os.amps[k].thermallyEnded b s.os.protection.holding) s (thermalCauseEnds b s k) := by
  unfold thermalCauseEnds AmpChannel.thermallyEnded
  split
  · rw [modAmp_eq_putAmp, endCause_putAmp]
    exact Within.refl
  · exact .of_same k s

theorem mem_bankReach {s : State} {b : Bank} {j : Amp} : j ∈ bankReach s b ↔ b ∈ gateBanks s.install j := by
  simp [bankReach, mem_ampAll]

theorem shutdownActs_of_rise (b : Bank) (s : State) :
    shutdownActs b false true s = (bankReach s b).foldl (thermalDown b) s := rfl

theorem shutdownActs_of_fall (b : Bank) (s : State) :
    shutdownActs b true false s = proceedStarts (Amp.all.foldl (thermalCauseEnds b) s) := rfl

/-- The flag's rise shuts down the channels of the bank's reach. -/
theorem shutdownActs_rise (b : Bank) (s : State) :
    AmpsOnly s (shutdownActs b false true s) ∧
      ∀ j : Amp, (shutdownActs b false true s).os.amps[j] =
        if b ∈ gateBanks s.install j then
          s.os.amps[j].thermallyDown b (ruleIn s (thermalRule s.os.protection.mode)) else s.os.amps[j] := by
  have hsets (t : State) (k : Amp) (ht : AmpsOnly s t) :
      SetsAmp k (t.os.amps[k].thermallyDown b (ruleIn s (thermalRule s.os.protection.mode))) t (thermalDown b t k) := by
    have hstep := thermalDown_sets b t k
    rwa [ruleIn, ht.within.sc_eq, ht.protection_eq] at hstep
  obtain ⟨honly, hamps⟩ := foldl_setsAmp hsets (l := bankReach s b) (List.Nodup.filter _ (by decide))
  rw [shutdownActs_of_rise]
  exact ⟨honly, fun j => (hamps j).trans (if_congr mem_bankReach rfl rfl)⟩

/-- The flag's fall ends the causes it was, and the starts that waited for it go on. -/
theorem shutdownActs_fall (b : Bank) (s : State) :
    AmpsOnly s (shutdownActs b true false s) ∧
      ∀ j : Amp, (shutdownActs b true false s).os.amps[j] =
        (s.os.amps[j].thermallyEnded b s.os.protection.holding).proceeded (mayStart s j) := by
  have hsets (t : State) (k : Amp) (ht : AmpsOnly s t) :
      SetsAmp k (t.os.amps[k].thermallyEnded b s.os.protection.holding) t (thermalCauseEnds b t k) :=
    ht.protection_eq ▸ thermalCauseEnds_sets b t k
  obtain ⟨hended, hcauses⟩ := foldl_setsAmp hsets (l := Amp.all) (by decide)
  obtain ⟨hstarted, hstarts⟩ := proceedStarts_amps (Amp.all.foldl (thermalCauseEnds b) s)
  rw [shutdownActs_of_fall]
  refine ⟨hended.trans hstarted, fun j => (hstarts j).trans ?_⟩
  rw [hcauses, if_pos (mem_ampAll j), hended.mayStart_eq]

theorem shutdownActs_same (b : Bank) (flag : Bool) (s : State) : shutdownActs b flag flag s = s := by cases flag <;> rfl

theorem shutdownActs_ampsOnly (b : Bank) (was now : Bool) (s : State) : AmpsOnly s (shutdownActs b was now s) := by
  cases was <;> cases now
  · exact .refl
  · exact (shutdownActs_rise b s).1
  · exact (shutdownActs_fall b s).1
  · exact .refl

/-! ### The supply's state and the channels (R158, R161) -/

/-- The state after a supply sample, before the supply state's change acts on the channels. -/
def State.supplied (v : Nat) (s : State) : State :=
  if supplyAfter s.os.supply v = s.os.supply then s.modOs (fun o => { o with supply := supplyAfter s.os.supply v })
  else
    post .supplyState 0 (u8 (supplyAfter s.os.supply v).code ++ u8 (min v 250))
      (s.modOs (fun o => { o with supply := supplyAfter s.os.supply v }))

theorem supplySample_eq (v : Nat) (s : State) :
    supplySample v s = supplyActs s.os.supply (supplyAfter s.os.supply v) (s.supplied v) := rfl

theorem supplied_within (v : Nat) (s : State) : Within [.os] s (s.supplied v) :=
  .ite (modOs_within _ s) ((modOs_within _ s).trans (post_within _ _ _ _))

theorem supplied_os (v : Nat) (s : State) : (s.supplied v).os = { s.os with supply := supplyAfter s.os.supply v } := by
  unfold State.supplied
  split <;> rfl

theorem supplied_stands {v : Nat} {s : State} (hnew : supplyAfter s.os.supply v ≠ s.os.supply)
    (hroom : s.cp.reports.length < 24) :
    ∃ r ∈ (s.supplied v).cp.reports,
      r.kind = .supplyState ∧ r.data = reportData [byte (supplyAfter s.os.supply v).code, byte (min v 250)] := by
  unfold State.supplied
  rw [if_neg hnew]
  exact post_stands (s := s.modOs _) _ hroom

/-- The rule by which an over-voltage leaves a channel: OFF, to start again. -/
def holdRule (a : AmpChannel) : AmpChannel := { a with state := .off, startPending := true, restartMark := true }

/-- The record of a channel at the entry to OVERVOLTAGE. -/
def AmpChannel.heldOff (rule : AmpChannel → AmpChannel) (a : AmpChannel) : AmpChannel :=
  if a.state.running then a.shutBy .ovHold rule else a

theorem overvoltageHold_sets (s : State) (k : Amp) :
    SetsAmp k (s.os.amps[k].heldOff (ruleIn s holdRule)) s (overvoltageHold s k) := by
  unfold overvoltageHold AmpChannel.heldOff
  split
  · exact shutDown_sets .ovHold holdRule k s
  · exact .of_same k s

theorem supplyActs_enters {was : SupplyState} (h : was ≠ .overvoltage) (s : State) :
    AmpsOnly s (supplyActs was .overvoltage s) ∧
      ∀ j : Amp, (supplyActs was .overvoltage s).os.amps[j] = (s.os.amps[j]).heldOff (ruleIn s holdRule) := by
  have hsets (t : State) (k : Amp) (ht : AmpsOnly s t) :
      SetsAmp k (t.os.amps[k].heldOff (ruleIn s holdRule)) t (overvoltageHold t k) := by
    have hstep := overvoltageHold_sets t k
    rwa [ruleIn, ht.within.sc_eq] at hstep
  obtain ⟨honly, hamps⟩ := foldl_setsAmp hsets (l := Amp.all) (by decide)
  rw [supplyActs, if_pos ⟨h, rfl⟩]
  exact ⟨honly, fun j => (hamps j).trans (if_pos (mem_ampAll j))⟩

theorem supplyActs_leaves {now : SupplyState} (h : now ≠ .overvoltage) (s : State) :
    AmpsOnly s (supplyActs .overvoltage now s) ∧
      ∀ j : Amp, (supplyActs .overvoltage now s).os.amps[j] =
        (s.os.amps[j].endCause .ovHold s.os.protection.holding).proceeded (mayStart s j) := by
  have hsets (t : State) (k : Amp) (ht : AmpsOnly s t) :
      SetsAmp k (t.os.amps[k].endCause .ovHold s.os.protection.holding) t (holdCauseEnds t k) := by
    rw [← ht.protection_eq]
    exact Within.refl
  obtain ⟨hended, hcauses⟩ := foldl_setsAmp hsets (l := Amp.all) (by decide)
  obtain ⟨hstarted, hstarts⟩ := proceedStarts_amps (Amp.all.foldl holdCauseEnds s)
  rw [supplyActs, if_neg (by simp), if_pos ⟨rfl, h⟩]
  refine ⟨hended.trans hstarted, fun j => (hstarts j).trans ?_⟩
  rw [hcauses, if_pos (mem_ampAll j), hended.mayStart_eq]

theorem supplyActs_idle {was now : SupplyState} (h : now = .overvoltage ↔ was = .overvoltage) (s : State) :
    supplyActs was now s = s := by
  unfold supplyActs
  rw [if_neg (by tauto), if_neg (by tauto)]

theorem supplyActs_ampsOnly (was now : SupplyState) (s : State) : AmpsOnly s (supplyActs was now s) := by
  by_cases hwas : was = .overvoltage <;> by_cases hnow : now = .overvoltage
  · rw [supplyActs_idle (by simp [hwas, hnow])]
    exact .refl
  · exact hwas ▸ (supplyActs_leaves hnow s).1
  · exact hnow ▸ (supplyActs_enters hwas s).1
  · rw [supplyActs_idle (by simp [hwas, hnow])]
    exact .refl

end Sys2Proof.Machine
end

section
/-! SUPPORT. MONITOR_SAMPLE: which items yield a sample, and what each sample leaves (R138, R145, R157, R158, R160, R162). -/

-- One declaration at a time: together they would start more threads than the check's memory limit has stacks for.
set_option Elab.async false

namespace Sys2Proof.Machine

/-! ### Which items are sampled (R162) -/

theorem exec_monitorSample (x : Sample) (s : State) :
    exec (.monitorSample x) s = .next (if isSampled s (sampleItem x) then settle (sampled x s) else s) := rfl

theorem exec_monitorSample_of_sampled {x : Sample} {s : State} (h : isSampled s (sampleItem x) = true) :
    exec (.monitorSample x) s = .next (settle (sampled x s)) := by
  rw [exec_monitorSample, if_pos h]

theorem exec_monitorSample_of_unsampled {x : Sample} {s : State} (h : isSampled s (sampleItem x) = false) :
    exec (.monitorSample x) s = .next s := by
  rw [exec_monitorSample, if_neg (Bool.eq_false_iff.1 h)]

theorem isSampled_eq_false {s : State} {i : Item} (h : s.sc.opState = .boot ∨ i ∈ s.os.excluded) : isSampled s i = false := by
  unfold isSampled
  rcases h with h | h <;> simp [h]

/-! ### A sample that is a quantity (R73) -/

/-- The receipt that follows a sample's own effect, and the settling, change the Condition Unit alone. -/
theorem received_within (q : Quantity) (v : Int) (s : State) : Within [.cu] s (settle (receipt q v s)) :=
  (receipt_within q v s).settled

theorem heldValue_settle (s : State) (q : Quantity) : heldValue (settle s) q = heldValue s q := rfl

theorem heldValue_received (q : Quantity) (v : Int) (s : State) :
    heldValue (settle (receipt q v s)) q = some (clampQuantity q v) := by
  rw [heldValue_settle, heldValue_receipt, if_pos rfl]

theorem Within.gateOpen_eq {bs : List Block} {s t : State} (h : Within bs s t) (k : Amp) (hi : .install ∉ bs := by decide)
    (ho : .os ∉ bs := by decide) : gateOpen t k = gateOpen s k := by
  simp only [gateOpen, bankState, h.install_eq hi, h.os_eq ho]

theorem Within.bankState_eq {bs : List Block} {s t : State} (h : Within bs s t) (b : Bank) (ho : .os ∉ bs := by decide) :
    bankState t b = bankState s b := by
  cases b <;> simp only [bankState, h.os_eq ho]

/-! ### One channel's record after a change of its gate -/

section
variable {b : Bank} {a : AmpChannel}

theorem thermallyDown_running (mode : ProtectionMode) (h : a.state.running = true) :
    (a.thermallyDown b (thermalRule mode)).state = (if mode = .retry then .faultWait else .faultLatched) ∧
      (mode = .retry → (a.thermallyDown b (thermalRule mode)).startPending = true ∧
        (a.thermallyDown b (thermalRule mode)).restartMark = true) ∧
      FaultKind.thermalShutdown ∈ (a.thermallyDown b (thermalRule mode)).faults ∧
      (a.thermallyDown b (thermalRule mode)).thermalBank = some b := by
  obtain ⟨hstate, hpending, hmark, hfault, hbank⟩ :=
    shutBy_fields .thermalShutdown (thermalRule mode) { a with thermalBank := some b }
  rw [AmpChannel.thermallyDown, if_pos h, hstate, hpending, hmark, hbank]
  cases mode
  · exact ⟨rfl, fun _ => ⟨rfl, rfl⟩, hfault, rfl⟩
  · exact ⟨rfl, fun hretry => absurd hretry (by decide), hfault, rfl⟩

theorem thermallyDown_idle (rule : AmpChannel → AmpChannel) (h : a.state.running = false) : a.thermallyDown b rule = a :=
  if_neg (by simp [h])

theorem thermallyEnded_other (holding : FaultHolding) (h : a.thermalBank ≠ some b) : a.thermallyEnded b holding = a := if_neg h

theorem thermallyEnded_fields (holding : FaultHolding) :
    (a.thermallyEnded b holding).state = a.state ∧ (a.thermallyEnded b holding).startPending = a.startPending := by
  unfold AmpChannel.thermallyEnded
  split <;> exact ⟨rfl, rfl⟩

theorem thermallyEnded_cause (holding : FaultHolding) (h : a.thermalBank = some b) :
    FaultKind.thermalShutdown ∉ (a.thermallyEnded b holding).causes := by
  rw [AmpChannel.thermallyEnded, if_pos h]
  exact not_mem_causes_endCause _ _ _

theorem heldOff_running (h : a.state.running = true) :
    (a.heldOff holdRule).state = .off ∧ (a.heldOff holdRule).startPending = true ∧
      FaultKind.ovHold ∈ (a.heldOff holdRule).faults := by
  obtain ⟨hstate, hpending, -, hfault, -⟩ := shutBy_fields .ovHold holdRule a
  rw [AmpChannel.heldOff, if_pos h, hstate, hpending]
  exact ⟨rfl, rfl, hfault⟩

theorem heldOff_idle (rule : AmpChannel → AmpChannel) (h : a.state.running = false) : a.heldOff rule = a := if_neg (by simp [h])

end

theorem ruleIn_awake {s : State} (h : s.sc.opState ≠ .standby) (rule : AmpChannel → AmpChannel) : ruleIn s rule = rule :=
  if_neg h

theorem mayStart_awake {s : State} (h : s.sc.opState ≠ .standby) (k : Amp) : mayStart s k = gateOpen s k := by
  simp [mayStart, h]

/-! ### A temperature sample (R157) -/

theorem levelAfter_eq (level : Nat) (temp : Int) :
    levelAfter level temp =
      if level < levelMet temp then levelMet temp
      else if 0 < level ∧ temp ≤ 125 + 10 * (level : Int) then level - 1 else level := by
  have hfall : fallAt level = 125 + 10 * (level : Int) := by
    unfold fallAt
    omega
  rw [levelAfter, hfall]

section
variable {b : Bank} {temp : Int} {s : State}

theorem thermalSample_ampsOnly (b : Bank) (temp : Int) (s : State) : AmpsOnly (s.banked b temp) (thermalSample b temp s) :=
  shutdownActs_ampsOnly b _ _ _

theorem bankState_thermalSample (b c : Bank) (temp : Int) (s : State) :
    bankState (thermalSample b temp s) c = if c = b then bankAfter s b temp else bankState s c := by
  rw [(thermalSample_ampsOnly b temp s).bankState_eq, bankState_banked]

theorem thermalSample_same (h : shutdownAfter (bankState s b).shutdown temp = (bankState s b).shutdown) :
    (thermalSample b temp s).os.amps = s.os.amps := by
  obtain ⟨-, -, hamps, -⟩ := banked_others b temp s
  rw [thermalSample_eq, h, shutdownActs_same, hamps]

theorem thermalSample_rise (hold : (bankState s b).shutdown = false)
    (hnew : shutdownAfter (bankState s b).shutdown temp = true) (hop : s.sc.opState ≠ .standby) (j : Amp) :
    (thermalSample b temp s).os.amps[j] =
      if b ∈ gateBanks s.install j then s.os.amps[j].thermallyDown b (thermalRule s.os.protection.mode) else s.os.amps[j] := by
  obtain ⟨hsc, hinstall, hamps, hprotection⟩ := banked_others b temp s
  rw [thermalSample_eq, hnew, hold, (shutdownActs_rise b _).2, ruleIn_awake (hsc ▸ hop), hinstall, hamps, hprotection]

theorem thermalSample_fall (hold : (bankState s b).shutdown = true)
    (hnew : shutdownAfter (bankState s b).shutdown temp = false) (j : Amp) :
    (thermalSample b temp s).os.amps[j] =
      (s.os.amps[j].thermallyEnded b s.os.protection.holding).proceeded (mayStart (thermalSample b temp s) j) := by
  obtain ⟨-, -, hamps, hprotection⟩ := banked_others b temp s
  rw [(thermalSample_ampsOnly b temp s).mayStart_eq, thermalSample_eq, hnew, hold, (shutdownActs_fall b _).2, hamps,
    hprotection]

/-- The channels as a bank's shutdown flag rises. -/
theorem thermalSample_shuts (hold : (bankState s b).shutdown = false)
    (hnew : shutdownAfter (bankState s b).shutdown temp = true) (hop : s.sc.opState ≠ .standby) (j : Amp) :
    (s.os.amps[j].state.running = true → b ∈ gateBanks s.install j →
      (thermalSample b temp s).os.amps[j].state =
        (if s.os.protection.mode = .retry then .faultWait else .faultLatched) ∧
      (s.os.protection.mode = .retry → (thermalSample b temp s).os.amps[j].startPending = true ∧
        (thermalSample b temp s).os.amps[j].restartMark = true) ∧
      FaultKind.thermalShutdown ∈ (thermalSample b temp s).os.amps[j].faults ∧
      (thermalSample b temp s).os.amps[j].thermalBank = some b) ∧
    (s.os.amps[j].state.running = false ∨ b ∉ gateBanks s.install j →
      (thermalSample b temp s).os.amps[j] = s.os.amps[j]) := by
  rw [thermalSample_rise hold hnew hop j]
  constructor
  · intro hrun hreach
    rw [if_pos hreach]
    exact thermallyDown_running _ hrun
  · rintro (hidle | hfar)
    · rw [thermallyDown_idle _ hidle, ite_self]
    · rw [if_neg hfar]

/-- The channels as a bank's shutdown flag clears. -/
theorem thermalSample_frees (hold : (bankState s b).shutdown = true)
    (hnew : shutdownAfter (bankState s b).shutdown temp = false) (j : Amp) :
    (s.os.amps[j].startPending = true → gateOpen (thermalSample b temp s) j = true → s.sc.opState ≠ .standby →
      (thermalSample b temp s).os.amps[j].state = .starting ∧ (thermalSample b temp s).os.amps[j].startPending = false) ∧
    (s.os.amps[j].startPending = false ∨ gateOpen (thermalSample b temp s) j = false →
      (thermalSample b temp s).os.amps[j].state = s.os.amps[j].state) ∧
    (s.os.amps[j].thermalBank = some b → FaultKind.thermalShutdown ∉ (thermalSample b temp s).os.amps[j].causes) ∧
    (s.os.amps[j].thermalBank ≠ some b → (thermalSample b temp s).os.amps[j].causes = s.os.amps[j].causes ∧
      (thermalSample b temp s).os.amps[j].faults = s.os.amps[j].faults) := by
  obtain ⟨hstate, hpending⟩ := thermallyEnded_fields (b := b) (a := s.os.amps[j]) s.os.protection.holding
  rw [thermalSample_fall hold hnew j]
  refine ⟨fun hwaits hgate hop => ?_, fun hstays => ?_, fun hbank => ?_, fun hother => ?_⟩
  · have hop' : (thermalSample b temp s).sc.opState ≠ .standby := by rwa [(thermalSample_within b temp s).sc_eq]
    rw [mayStart_awake hop', hgate]
    exact proceeded_starts (hpending.trans hwaits)
  · rw [proceeded_stays ?_, hstate]
    rcases hstays with hnone | hshut
    · exact .inl (hpending.trans hnone)
    · exact .inr (by rw [mayStart, hshut, Bool.false_and])
  · rw [(proceeded_faults _ _).1]
    exact thermallyEnded_cause _ hbank
  · rw [thermallyEnded_other _ hother]
    exact proceeded_faults _ _

/-- What a temperature sample leaves, by what `thermalSample` does before the receipt. -/
theorem exec_temperature (h : isSampled s (.bank b) = true) :
    ∃ t, exec (.monitorSample (.temperature b temp)) s = .next t ∧ Within [.cu] (thermalSample b temp s) t ∧
      heldValue t (bankQuantity b) = some (min (max temp (-40)) 175) := by
  have hclamp : clampQuantity (bankQuantity b) temp = min (max temp (-40)) 175 := by cases b <;> rfl
  exact ⟨_, exec_monitorSample_of_sampled h, received_within _ _ _, hclamp ▸ heldValue_received _ _ _⟩

end

/-! ### A supply sample (R158) -/

theorem supplyAfter_eq (x : SupplyState) (v : Nat) :
    supplyAfter x v =
      if v < 90 then .undervoltage else if 180 < v then .overvoltage
      else if x = .undervoltage ∧ v < 95 then .undervoltage
      else if x = .overvoltage ∧ 170 < v then .overvoltage else .normal := by
  unfold supplyAfter
  cases x with
  | normal => simp
  | undervoltage =>
    by_cases h : v < 95
    · simp [h, Nat.not_le.2 h]
    · simp [h, Nat.le_of_not_lt h]
  | overvoltage =>
    by_cases h : 170 < v
    · simp [h, Nat.not_le.2 h]
    · simp [h, Nat.le_of_not_lt h]

theorem supplySample_ampsOnly (v : Nat) (s : State) : AmpsOnly (s.supplied v) (supplySample v s) :=
  supplyActs_ampsOnly _ _ _

theorem supplySample_supply (v : Nat) (s : State) : (supplySample v s).os.supply = supplyAfter s.os.supply v := by
  rw [(supplySample_ampsOnly v s).os_eq, supplied_os]

section
variable {v : Nat} {s : State}

theorem supplySample_enters (hold : s.os.supply ≠ .overvoltage) (hnew : supplyAfter s.os.supply v = .overvoltage)
    (hop : s.sc.opState ≠ .standby) (j : Amp) : (supplySample v s).os.amps[j] = s.os.amps[j].heldOff holdRule := by
  have hop' : (s.supplied v).sc.opState ≠ .standby := by rwa [(supplied_within v s).sc_eq]
  rw [supplySample_eq, hnew, (supplyActs_enters hold _).2, ruleIn_awake hop', supplied_os]

theorem supplySample_leaves (hold : s.os.supply = .overvoltage) (hnew : supplyAfter s.os.supply v ≠ .overvoltage) (j : Amp) :
    (supplySample v s).os.amps[j] =
      (s.os.amps[j].endCause .ovHold s.os.protection.holding).proceeded (mayStart (supplySample v s) j) := by
  rw [(supplySample_ampsOnly v s).mayStart_eq, supplySample_eq]
  rw [hold] at hnew ⊢
  rw [(supplyActs_leaves hnew _).2, supplied_os]

theorem supplySample_idle (h : supplyAfter s.os.supply v = .overvoltage ↔ s.os.supply = .overvoltage) :
    (supplySample v s).os = { s.os with supply := supplyAfter s.os.supply v } := by
  rw [supplySample_eq, supplyActs_idle h, supplied_os]

/-- The channels at the entry to OVERVOLTAGE. -/
theorem supplySample_holds (hold : s.os.supply ≠ .overvoltage) (hnew : supplyAfter s.os.supply v = .overvoltage)
    (hop : s.sc.opState ≠ .standby) (j : Amp) :
    (s.os.amps[j].state.running = true →
      (supplySample v s).os.amps[j].state = .off ∧ (supplySample v s).os.amps[j].startPending = true ∧
        FaultKind.ovHold ∈ (supplySample v s).os.amps[j].faults) ∧
    (s.os.amps[j].state.running = false → (supplySample v s).os.amps[j] = s.os.amps[j]) := by
  rw [supplySample_enters hold hnew hop j]
  exact ⟨heldOff_running, heldOff_idle _⟩

/-- The channels as the supply leaves OVERVOLTAGE. -/
theorem supplySample_frees (hold : s.os.supply = .overvoltage) (hnew : supplyAfter s.os.supply v ≠ .overvoltage)
    (hop : s.sc.opState ≠ .standby) (j : Amp) :
    (s.os.amps[j].startPending = true → gateOpen (supplySample v s) j = true →
      (supplySample v s).os.amps[j].state = .starting) ∧
    (s.os.amps[j].startPending = false → (supplySample v s).os.amps[j].state = s.os.amps[j].state) := by
  have hop' : (supplySample v s).sc.opState ≠ .standby := by rwa [(supplySample_within v s).sc_eq]
  rw [supplySample_leaves hold hnew j, mayStart_awake hop']
  have hpending : (s.os.amps[j].endCause .ovHold s.os.protection.holding).startPending = s.os.amps[j].startPending := rfl
  have hstate : (s.os.amps[j].endCause .ovHold s.os.protection.holding).state = s.os.amps[j].state := rfl
  constructor
  · intro hwaits hgate
    rw [hgate]
    exact (proceeded_starts (hpending.trans hwaits)).1
  · intro hnone
    rw [proceeded_stays (.inl (hpending.trans hnone)), hstate]

/-- What a supply sample leaves, by what `supplySample` does before the receipt. -/
theorem exec_supply (h : isSampled s .supply = true) :
    ∃ t, exec (.monitorSample (.supply v)) s = .next t ∧ Within [.cu] (supplySample v s) t ∧
      SupplyKept (s.supplied v) t ∧ heldValue t .supply = some ((min v 250 : Nat) : Int) := by
  have hclamp : clampQuantity .supply v = ((min v 250 : Nat) : Int) := by
    simp only [clampQuantity, clampInt, quantityRange]
    omega
  have hacts : SupplyKept (s.supplied v) (supplySample v s) := by
    rw [supplySample_eq]
    exact supplyActs_supplyKept _ _ _
  exact ⟨_, exec_monitorSample_of_sampled h, received_within _ _ _, hacts.trans (receipt_supplyKept _ _ _).settled,
    hclamp ▸ heldValue_received _ _ _⟩

end

/-! ### A microphone's bias (R145, R146) -/

theorem PerMic.set_get {α : Type} (p : PerMic α) (m : Mic) : p.set m (p.get m) = p := by cases m <;> rfl

section
variable {m : Mic} {inside : Bool} {s : State}

theorem biasSample_same (h : s.clp.faulty.get m = !inside) : biasSample m inside s = s := if_pos h

theorem biasSample_new (h : s.clp.faulty.get m = inside) :
    biasSample m inside s =
      remakeSelection (!inside) (s.modClp (fun c => { c with faulty := c.faulty.set m (!inside) })) :=
  if_neg (by rw [h]; cases inside <;> decide)

theorem biasSample_clp (h : s.clp.faulty.get m = inside) :
    (settle (biasSample m inside s)).clp =
      { s.clp with
        faulty := s.clp.faulty.set m (!inside), selection := selectionOf (settle (biasSample m inside s)) } := by
  have hwithin := (biasSample_within m inside s).settled
  have hclp : (settle (biasSample m inside s)).clp = _ :=
    (congrArg State.clp (biasSample_new h)).trans (remakeSelection_clp _ _)
  have hsel : selectionOf (settle (biasSample m inside s)) =
      selectionOf (s.modClp (fun c => { c with faulty := c.faulty.set m (!inside) })) :=
    selectionOf_congr hwithin.install_eq hclp
  rw [hsel]
  exact hclp

theorem biasSample_faulty : (settle (biasSample m inside s)).clp.faulty = s.clp.faulty.set m (!inside) := by
  rcases Bool.eq_or_eq_not (s.clp.faulty.get m) inside with hnew | hsame
  · rw [biasSample_clp hnew]
  · rw [biasSample_same hsame, settle_clp, ← hsame, PerMic.set_get]

theorem sampled_bias : sampled (.micBias m inside) s = biasSample m inside s := rfl

theorem biasSample_tells (h : s.clp.faulty.get m = false) (hroom : s.cp.reports.length < 24) :
    (biasSample m false s).cp.tells .micFault 0 := by
  rw [biasSample_new h]
  exact post_tells (s := reselect _) _ hroom

end

/-! ### A headphone driver (R138) -/

section
variable {h : Hp} {s : State}

theorem sampled_noShort {above : Bool} (hnone : above = false ∨ isPlaying s = false) : sampled (.hpCurrent h above) s = s :=
  if_neg (by rcases hnone with hnone | hnone <;> simp [findsShorts, hnone])

theorem sampled_short (hplay : isPlaying s = true) : sampled (.hpCurrent h true) s = driverShort h s := if_pos hplay

theorem driverShort_told (hroom : s.cp.reports.length < 24) :
    Told (driverShort h s) .headphoneShort (zoneCode (.hp h)) (bit (s.zr.hps.get h).jack ++ sourceField (s.zr.hps.get h).base) :=
  mem_post_of_event (s := setDriver h .heldOff s) rfl hroom

end

/-! ### An amplifier's current (R160) -/

/-- An amplifier's record after a current sample. -/
def AmpChannel.currentSampled (below driven : Bool) (holding : FaultHolding) (a : AmpChannel) : AmpChannel :=
  let timed : AmpChannel :=
    if a.state = .on then { a with openTimer := if below && driven then some (a.openTimer.getD 2000) else none } else a
  if below then timed else timed.endCause .onOpenSuspect holding

theorem currentSampled_eq (k : Amp) (below : Bool) (out : Int) (s : State) :
    currentSampled k below out s =
      s.putAmp k (s.os.amps[k].currentSampled below (decide (-20 < out)) s.os.protection.holding) := by
  unfold currentSampled AmpChannel.currentSampled
  dsimp only
  by_cases hon : s.os.amps[k].state = .on
  · rw [if_pos hon, if_pos hon, modAmp_eq_putAmp, endCause_putAmp]
    cases below <;> rfl
  · rw [if_neg hon, if_neg hon]
    cases below
    · exact endCause_eq_putAmp _ k s
    · exact (putAmp_self k s).symm

section
variable (below driven : Bool) (holding : FaultHolding) (a : AmpChannel)

theorem currentSampled_state : (a.currentSampled below driven holding).state = a.state := by
  unfold AmpChannel.currentSampled
  by_cases hon : a.state = .on <;> cases below <;> simp [hon, AmpChannel.endCause]

theorem currentSampled_openTimer :
    (a.currentSampled below driven holding).openTimer =
      if a.state = .on then if below = true ∧ driven = true then some (a.openTimer.getD 2000) else none else a.openTimer := by
  unfold AmpChannel.currentSampled
  by_cases hon : a.state = .on <;> cases below <;> cases driven <;> simp [hon, AmpChannel.endCause]

theorem currentSampled_cause : FaultKind.onOpenSuspect ∉ (a.currentSampled false driven holding).causes :=
  not_mem_causes_endCause _ _ _

end

/-- Settles O56: an item that is sampled hands its sample to its block. A temperature and a supply act on each channel once
(`thermalSample_shuts`, `thermalSample_frees`, `supplySample_holds`, `supplySample_frees`) before the Condition Unit receives
them. -/
theorem samplesReachTheirBlocks : Obligations.SamplesReachTheirBlocks := by
  unfold Obligations.SamplesReachTheirBlocks
  intro s x b temp v m inside below h k out lv met sd st hlv hmet hsd hst
  refine ⟨exec_monitorSample_of_unsampled, fun hout => exec_monitorSample_of_unsampled (isSampled_eq_false hout),
    fun hs => ?_, fun hs => ?_, fun hs => ?_, fun hs => ⟨?_, fun hsilent => ?_, fun hplay => ?_⟩, fun hs => ?_⟩
  · obtain ⟨t, hexec, hwithin, hheld⟩ := exec_temperature (temp := temp) hs
    have hflag : shutdownAfter (bankState s b).shutdown temp = sd := hsd.symm
    have hmet' : levelMet temp = met := hmet.symm
    have hbanks (c : Bank) : bankState t c = if c = b then bankAfter s b temp else bankState s c := by
      rw [hwithin.bankState_eq, bankState_thermalSample]
    have hafter := (hbanks b).trans (if_pos rfl)
    refine ⟨t, hexec, ?_, fun c hc => (hbanks c).trans (if_neg hc), ?_, fun hroom hnew => ?_, ?_, ?_, ?_,
      ((thermalSample_within b temp s).trans hwithin).mono.same⟩
    · rw [hafter, bankAfter, levelAfter_eq, hmet', hflag, hlv]
    · cases b <;> exact hheld
    · have htells := banked_tells (hafter ▸ hnew) hroom
      exact (((thermalSample_ampsOnly b temp s).within.posted.trans hwithin.posted).tells htells).kind
    · intro hsame j
      rw [hwithin.os_eq, thermalSample_same (hflag.trans hsame)]
    · intro hnew hold hop j
      rw [hwithin.os_eq]
      exact thermalSample_shuts hold (hflag.trans hnew) hop j
    · intro hnew hold j
      rw [hwithin.gateOpen_eq, hwithin.os_eq]
      exact thermalSample_frees hold (hflag.trans hnew) j
  · obtain ⟨t, hexec, hwithin, hkept, hheld⟩ := exec_supply (v := v) hs
    have hafter : supplyAfter s.os.supply v = st := (supplyAfter_eq _ v).trans hst.symm
    refine ⟨t, hexec, ?_, hheld, fun hnew hroom => ?_, ?_, ?_, fun hidle => ?_,
      ((supplySample_within v s).trans hwithin).mono.same⟩
    · rw [hwithin.os_eq, supplySample_supply, hafter]
    · obtain ⟨r, hr, hkind, hdata⟩ := supplied_stands (hafter ▸ hnew) hroom
      rw [hafter] at hdata
      exact List.any_eq_true.2 ⟨r, hkept r hr hkind, by simp [hkind, hdata]⟩
    · intro hnew hold hop j
      rw [hwithin.os_eq]
      exact supplySample_holds hold (hafter.trans hnew) hop j
    · intro hnew hold hop j
      rw [hwithin.gateOpen_eq, hwithin.os_eq]
      exact supplySample_frees hold (hafter ▸ hnew) hop j
    · rw [hwithin.os_eq, supplySample_idle (hafter ▸ hidle), hafter]
  · have hwithin := (biasSample_within m inside s).settled
    refine ⟨_, exec_monitorSample_of_sampled hs, biasSample_faulty, fun hsame => ?_,
      fun hnew => ⟨biasSample_clp hnew, fun hfaulty hroom => ?_⟩, hwithin.same⟩
    · rw [sampled_bias, biasSample_same hsame]
      exact ⟨rfl, rfl⟩
    · subst hfaulty
      exact (biasSample_tells hnew hroom).kind
  · rw [exec_monitorSample_of_sampled hs, sampled_noShort (.inl rfl)]
  · have hnone : isPlaying s = false := by
      simp only [List.mem_cons, List.not_mem_nil, or_false] at hsilent
      rcases hsilent with ho | ho | ho <;> simp [isPlaying, ho]
    rw [exec_monitorSample_of_sampled hs, sampled_noShort (.inr hnone)]
  · have hon : isPlaying s = true := by
      simp only [List.mem_cons, List.not_mem_nil, or_false] at hplay
      rcases hplay with ho | ho <;> simp [isPlaying, ho]
    have hexec := exec_monitorSample_of_sampled (x := .hpCurrent h true) hs
    rw [sampled_short hon] at hexec
    exact ⟨_, hexec, rfl, driverShort_told, (driverShort_within h s).settled.same⟩
  · have hexec := exec_monitorSample_of_sampled (x := .ampCurrent k below out) hs
    have hsampled : sampled (.ampCurrent k below out) s = currentSampled k below out s := rfl
    rw [hsampled, currentSampled_eq] at hexec
    have hamp (a : AmpChannel) : (settle (s.putAmp k a)).os.amps[k] = a := (putAmp_amp k k a s).trans (if_pos rfl)
    have htimer := currentSampled_openTimer below (decide (-20 < out)) s.os.protection.holding s.os.amps[k]
    refine ⟨_, hexec, fun hon => ?_, fun hoff => ?_, fun hbelow => ?_, ?_, ?_,
      (modOs_keepsBut _ s).trans (settle_keepsBut _).mono⟩
    · rw [hamp, htimer, if_pos hon]
      simp only [decide_eq_true_eq]
    · rw [hamp, htimer, if_neg hoff]
    · rw [hamp, hbelow]
      exact currentSampled_cause _ _ _
    · rw [hamp, currentSampled_state]
    · unfold OnlyAmp
      rw [hamp]
      rfl

end Sys2Proof.Machine
end

section
/-! SUPPORT. The chime queue and the voices kept in order (R86, R90): each playing voice has its entry, and no operation but a
request's placing changes the order in which the entries stand. -/

-- One declaration at a time: together they would start more threads than the check's memory limit has stacks for.
set_option Elab.async false

namespace Sys2Proof.Machine

/-! ### Each playing voice has its entry -/

/-- A voice plays a pattern exactly while the pattern's one key names it (R86, R90). -/
structure Paired (s : State) : Prop where
  voiced : Voiced s
  named : ∀ p v, (voiceOf s v).map Voice.pattern = some p → (p, some v) ∈ keysOf s

section
variable {s t : State}

theorem mem_keysOf {p : PatternId} {w : Option VoiceId} :
    (p, w) ∈ keysOf s ↔ ∃ e ∈ s.chimes.queue, e.pattern = p ∧ e.voice = w := by
  simp [keysOf]

/-- The keys of one pattern are one key. -/
theorem Voiced.voice_unique (hs : Voiced s) {p : PatternId} {a b : Option VoiceId} (ha : (p, a) ∈ keysOf s)
    (hb : (p, b) ∈ keysOf s) : a = b := by
  obtain ⟨x, hx, hxp, rfl⟩ := mem_keysOf.1 ha
  obtain ⟨y, hy, hyp, rfl⟩ := mem_keysOf.1 hb
  rw [hs.eq_of_pattern hx hy (hxp.trans hyp.symm)]

theorem chimesOk_iff (s : State) : ChimesOk s ↔ s.chimes.queue.length ≤ 8 ∧ Paired s := by
  have hmem (v : VoiceId) : v ∈ [VoiceId.v1, .v2] := by cases v <;> simp
  constructor
  · intro hs
    obtain ⟨hlen, _, _, hon⟩ := id hs
    refine ⟨hlen, hs.voiced, fun p v hv => ?_⟩
    obtain ⟨x, hx, rfl⟩ := Option.map_eq_some_iff.1 hv
    obtain ⟨e, he, hep⟩ := Option.map_eq_some_iff.1 (hon v (hmem v) x (by simp [hx]))
    exact mem_keysOf.2 ⟨e, List.mem_of_find?_eq_some he, hep, by simpa using List.find?_some he⟩
  · rintro ⟨hlen, hvoiced, hnamed⟩
    have hnodup := hvoiced.distinct
    rw [keysOf, List.map_map] at hnodup
    refine ⟨hlen, hnodup, fun e he v _ hv => hvoiced.plays _ v (mem_keysOf.2 ⟨e, he, rfl, hv⟩), fun v _ x hx => ?_⟩
    have hplays : (voiceOf s v).map Voice.pattern = some x.pattern := by
      rw [Option.mem_toList.1 hx]
      rfl
    obtain ⟨e, he, _, hev⟩ := mem_keysOf.1 (hnamed _ v hplays)
    have hsome : (entryOn s v).isSome = true := List.find?_isSome.2 ⟨e, he, by simp [hev]⟩
    obtain ⟨y, hy⟩ := Option.isSome_iff_exists.1 hsome
    have hyv : y.voice = some v := by simpa using List.find?_some hy
    rw [hy, ← hplays]
    exact (hvoiced.plays _ v (mem_keysOf.2 ⟨y, List.mem_of_find?_eq_some hy, rfl, hyv⟩)).symm

theorem Paired.of_patterns (hs : Paired s) (hkeys : keysOf t = keysOf s)
    (hvoice : ∀ v, (voiceOf t v).map Voice.pattern = (voiceOf s v).map Voice.pattern) : Paired t :=
  ⟨hs.voiced.of_patterns hkeys hvoice, fun p v h => hkeys ▸ hs.named p v (hvoice v ▸ h)⟩

theorem Paired.of_chimes (hs : Paired s) (h : t.chimes = s.chimes) : Paired t :=
  hs.of_patterns (keysOf_congr (congrArg ChimeUnit.queue h)) fun v => by rw [voiceOf_congr h]

/-- An idle voice takes the waiting entry of a pattern. -/
theorem Paired.take {p : PatternId} {v : VoiceId} (hs : Paired s) (hidle : voiceOf s v = none)
    (hwaits : (p, none) ∈ keysOf s) (hkeys : keysOf t = (keysOf s).map (fun k => if k.1 == p then (k.1, some v) else k))
    (hplays : (voiceOf t v).map Voice.pattern = some p) (hother : ∀ w, w ≠ v → voiceOf t w = voiceOf s w) : Paired t := by
  refine ⟨hs.voiced.take (fun q hq => ?_) hkeys hplays hother, fun q w h => ?_⟩
  · simpa [hidle] using hs.voiced.plays q v hq
  · rw [hkeys]
    by_cases hw : w = v
    · subst hw
      obtain rfl := Option.some.inj (hplays.symm.trans h)
      exact List.mem_map.2 ⟨_, hwaits, by simp⟩
    · rw [hother w hw] at h
      have hq : q ≠ p := fun hqp =>
        Option.some_ne_none w (hs.voiced.voice_unique (hqp ▸ hs.named q w h) hwaits)
      exact List.mem_map.2 ⟨_, hs.named q w h, by simp [hq]⟩

/-- A voice leaves the entry of the pattern it plays, and is idle. -/
theorem Paired.release {p : PatternId} {v : VoiceId} (hs : Paired s) (hx : (voiceOf s v).map Voice.pattern = some p)
    (hkeys : keysOf t = (keysOf s).map (fun k => if k.1 == p then (k.1, none) else k)) (hidle : voiceOf t v = none)
    (hother : ∀ w, w ≠ v → voiceOf t w = voiceOf s w) : Paired t := by
  refine ⟨(hs.voiced.release hx hkeys hother).1, fun q w h => ?_⟩
  by_cases hw : w = v
  · subst hw
    simp [hidle] at h
  · rw [hother w hw] at h
    have hq : q ≠ p := fun hqp =>
      hw (Option.some.inj (hs.voiced.voice_unique (hs.named q w h) (hqp ▸ hs.named p v hx)))
    rw [hkeys]
    exact List.mem_map.2 ⟨_, hs.named q w h, by simp [hq]⟩

/-- The entry of a pattern leaves, and the voice that played it with it. -/
theorem Paired.drop {p : PatternId} (hs : Paired s) (hkeys : keysOf t = (keysOf s).filter (fun k => k.1 != p))
    (hvoice : ∀ w, voiceOf t w = if (p, some w) ∈ keysOf s then none else voiceOf s w) : Paired t := by
  refine ⟨hs.voiced.drop hkeys fun w => ?_, fun q w h => ?_⟩
  · by_cases hw : (p, some w) ∈ keysOf s
    · refine .inr fun q hq => ?_
      exact Option.some.inj ((hs.voiced.plays q w hq).symm.trans (hs.voiced.plays p w hw))
    · exact .inl (by rw [hvoice, if_neg hw])
  · rw [hvoice] at h
    split at h
    · simp at h
    · rename_i hfree
      rw [hkeys]
      refine List.mem_filter.2 ⟨hs.named q w h, ?_⟩
      rw [bne_iff_ne]
      rintro rfl
      exact hfree (hs.named q w h)

end

/-! ### The voices' turns -/

theorem voiceOf_modEntry (p : PatternId) (f : ChimeEntry → ChimeEntry) (s : State) : voiceOf (modEntry p f s) = voiceOf s := by
  funext v
  cases v <;> rfl

theorem firstQueued_waits {s : State} {e : ChimeEntry} (h : firstQueued s = some e) :
    e ∈ s.chimes.queue ∧ e.voice = none :=
  ⟨List.mem_of_find?_eq_some h, by simpa using List.find?_some h⟩

theorem takeEntry_paired {v : VoiceId} {s : State} (hs : Paired s) (hidle : voiceOf s v = none) : Paired (takeEntry v s) := by
  unfold takeEntry
  split
  · exact hs
  · rename_i e he
    obtain ⟨hmem, hwaits⟩ := firstQueued_waits he
    dsimp only
    have hvoices (w : VoiceId) := voiceOf_beginTone v w
      { pattern := e.pattern, rep := e.reached, seg := 1, phase := .tone, remaining := 0, start := s.chimes.nextStart
        level := 0, paths := [] }
      ((modEntry e.pattern (fun e => { e with voice := some v, played := true }) s).modChimes
        (fun c => { c with nextStart := c.nextStart + 1 }))
    refine Paired.of_chimes (Paired.take hs hidle (mem_keysOf.2 ⟨e, hmem, rfl, hwaits⟩) ?_ (hvoices v).1 fun w hw => ?_)
      (insertChimes_chimes _)
    · rw [keysOf_beginTone]
      exact (keysOf_congr rfl).trans
        (keysOf_modEntry_voice (f := fun e => { e with voice := some v, played := true }) (some v) (fun _ => ⟨rfl, rfl⟩) s)
    · refine ((hvoices w).2 hw).trans ?_
      cases w <;> rfl

theorem takeIfIdle_paired (v : VoiceId) {s : State} (hs : Paired s) : Paired (takeIfIdle v s) := by
  unfold takeIfIdle
  split
  · rename_i hidle
    exact takeEntry_paired hs (Option.isNone_iff_eq_none.1 hidle)
  · exact hs

theorem preempt_paired {s : State} (hs : Paired s) : Paired (preempt s) := by
  unfold preempt
  split
  · split
    · rename_i v x e hlow _ _
      have hplays := lowerRanked_plays hlow
      have hidle : voiceOf (setVoice v none (modEntry x.pattern (fun e => { e with voice := none }) s)) v = none := by
        rw [voiceOf_setVoice, if_pos rfl]
      have hreleased : Paired (setVoice v none (modEntry x.pattern (fun e => { e with voice := none }) s)) := by
        refine hs.release (p := x.pattern) (by rw [hplays]; rfl) ?_ hidle fun w hw => ?_
        · rw [keysOf_setVoice]
          exact keysOf_modEntry_voice (f := fun e => { e with voice := none }) none (fun _ => ⟨rfl, rfl⟩) s
        · rw [voiceOf_setVoice, if_neg hw, voiceOf_modEntry]
      exact (takeEntry_paired hreleased hidle).of_chimes (removeChimes_chimes _)
    · exact hs
  · exact hs

theorem voicesLook_paired {s : State} (hs : Paired s) : Paired (voicesLook s) :=
  preempt_paired (takeIfIdle_paired .v2 (takeIfIdle_paired .v1 hs))

/-! ### Ends and cuts -/

/-- What an ended entry makes of the voices: its own is idle. -/
theorem voiceOf_endEntry_eq (e : ChimeEntry) (cause : ChimeEnd) (s : State) (w : VoiceId) :
    voiceOf (endEntry e cause s) w = if e.voice = some w then none else voiceOf s w := by
  split
  · rename_i hw
    unfold endEntry
    dsimp only
    rw [hw, voiceOf_congr (removeChimes_chimes _)]
    cases w <;> rfl
  · exact voiceOf_endEntry cause s ‹_›

/-- The keys still in the queue agree with an entry that is to be cut: of its pattern or of its voice there is no other. -/
def Agrees (e : ChimeEntry) (s : State) : Prop :=
  ∀ p w, (p, w) ∈ keysOf s → (p = e.pattern → w = e.voice) ∧ (w.isSome = true → w = e.voice → p = e.pattern)

theorem Agrees.mono {e : ChimeEntry} {s t : State} (h : Agrees e s) (hsub : keysOf t ⊆ keysOf s) : Agrees e t :=
  fun p w hk => h p w (hsub hk)

theorem Paired.agrees {e : ChimeEntry} {s : State} (hs : Paired s) (he : e ∈ s.chimes.queue) : Agrees e s := by
  have hkey : (e.pattern, e.voice) ∈ keysOf s := mem_keysOf.2 ⟨e, he, rfl, rfl⟩
  refine fun p w hk => ⟨fun hp => hs.voiced.voice_unique (hp ▸ hk) hkey, fun hw hwe => ?_⟩
  obtain ⟨v, rfl⟩ := Option.isSome_iff_exists.1 hw
  exact Option.some.inj ((hs.voiced.plays p v hk).symm.trans (hs.voiced.plays e.pattern v (hwe ▸ hkey)))

/-- An entry that ends leaves with its voice, whether or not it stood in the queue still. -/
theorem endEntry_paired {s : State} {e : ChimeEntry} (cause : ChimeEnd) (hs : Paired s) (he : Agrees e s) :
    Paired (endEntry e cause s) := by
  refine hs.drop (keysOf_endEntry e cause s) fun w => ?_
  rw [voiceOf_endEntry_eq]
  by_cases hkey : (e.pattern, some w) ∈ keysOf s
  · rw [if_pos hkey, if_pos ((he _ _ hkey).1 rfl).symm]
  · rw [if_neg hkey]
    split
    · rename_i hw
      cases hv : (voiceOf s w).map Voice.pattern with
      | none => exact (Option.map_eq_none_iff.1 hv).symm
      | some p =>
        have hnamed := hs.named p w hv
        exact absurd ((he _ _ hnamed).2 rfl hw.symm ▸ hnamed) hkey
    · rfl

theorem cutEntry_paired {s : State} {e : ChimeEntry} (hs : Paired s) (he : Agrees e s) :
    Paired (cutEntry s e) ∧ keysOf (cutEntry s e) ⊆ keysOf s := by
  rcases cutEntry_cases s e with ⟨_, heq⟩ | ⟨_, _, heq⟩ | ⟨_, _, heq⟩ <;> rw [heq]
  · exact ⟨hs, List.Subset.refl _⟩
  · refine ⟨endEntry_paired _ hs he, ?_⟩
    rw [keysOf_endEntry]
    exact List.filter_subset_self _
  · have hkeys := keysOf_modEntry_same (p := e.pattern) (f := ChimeEntry.lastRepeat) (fun _ => ⟨rfl, rfl⟩) s
    exact ⟨hs.of_patterns hkeys fun v => by rw [voiceOf_modEntry], hkeys ▸ List.Subset.refl _⟩

theorem foldl_cutEntry_paired {l : List ChimeEntry} {s : State} (hs : Paired s) (hl : ∀ e ∈ l, Agrees e s) :
    Paired (l.foldl cutEntry s) := by
  induction l generalizing s with
  | nil => exact hs
  | cons e l ih =>
    obtain ⟨hcut, hsub⟩ := cutEntry_paired hs (hl e List.mem_cons_self)
    exact ih hcut fun x hx => (hl x (List.mem_cons_of_mem _ hx)).mono hsub

theorem afterCuts_paired {s : State} (hs : Paired s) : Paired (afterCuts s) :=
  voicesLook_paired (foldl_cutEntry_paired hs fun _ he => hs.agrees he)

/-! ### Playing by time -/

/-- A voice goes on with the pattern that it plays. -/
theorem setVoice_paired {v : VoiceId} {x y : Voice} {s : State} (hs : Paired s) (hx : voiceOf s v = some x)
    (hy : y.pattern = x.pattern) : Paired (setVoice v (some y) s) := by
  refine hs.of_patterns (keysOf_setVoice v _ s) fun w => ?_
  rw [voiceOf_setVoice]
  split
  · rename_i hw
    rw [hw, hx]
    exact congrArg some hy
  · rfl

theorem noteReroute_paired {p : PatternId} {pos : SegmentPosition} {zs : List Cabin} {s : State} (hs : Paired s) :
    Paired (noteReroute p pos zs s) :=
  hs.of_patterns (keysOf_noteReroute p pos zs s) fun v => by rw [voiceOf_noteReroute]

theorem beginTone_paired {v : VoiceId} {x y : Voice} {s : State} (hs : Paired s) (hx : voiceOf s v = some x)
    (hy : y.pattern = x.pattern) : Paired (beginTone v y s) := by
  unfold beginTone
  dsimp only
  exact noteReroute_paired (setVoice_paired hs hx hy)

/-- A change of an entry that keeps its pattern and its voice. -/
theorem modEntry_paired {p : PatternId} {f : ChimeEntry → ChimeEntry} {s : State}
    (hf : ∀ e, (f e).pattern = e.pattern ∧ (f e).voice = e.voice) (hs : Paired s) : Paired (modEntry p f s) :=
  hs.of_patterns (keysOf_modEntry_same hf s) fun v => by rw [voiceOf_modEntry]

theorem nextRepeat_paired {v : VoiceId} {x : Voice} {s : State} (hs : Paired s) (hx : voiceOf s v = some x) :
    Paired (nextRepeat v x s) :=
  beginTone_paired (x := x) (modEntry_paired (f := fun e => { e with reached := x.rep + 1 }) (fun _ => ⟨rfl, rfl⟩) hs)
    (by rw [voiceOf_modEntry, hx]) rfl

theorem repeatGap_paired {v : VoiceId} {x : Voice} {s : State} (hs : Paired s) (hx : voiceOf s v = some x) :
    Paired (repeatGap v x s) := by
  unfold repeatGap
  dsimp only
  split
  · exact nextRepeat_paired hs hx
  · exact setVoice_paired hs hx rfl

/-- The entry of the pattern that a voice plays is PLAYING on the voice. -/
theorem Paired.entryFor_of_plays {s : State} {v : VoiceId} {x : Voice} (hs : Paired s) (hx : voiceOf s v = some x) :
    ∃ e, entryFor s x.pattern = some e ∧ e ∈ s.chimes.queue ∧ e.voice = some v ∧ e.pattern = x.pattern := by
  obtain ⟨e, he, hp, hv⟩ := mem_keysOf.1 (hs.named x.pattern v (by rw [hx]; rfl))
  obtain ⟨y, hy⟩ := Option.isSome_iff_exists.1 (List.find?_isSome.2 ⟨e, he, beq_iff_eq.2 hp⟩ : (entryFor s x.pattern).isSome)
  obtain rfl := hs.voiced.eq_of_pattern (List.mem_of_find?_eq_some hy) he ((entryFor_pattern hy).trans hp.symm)
  exact ⟨y, hy, he, hv, hp⟩

theorem repeatEnd_paired {v : VoiceId} {x : Voice} {s : State} (hs : Paired s) (hx : voiceOf s v = some x) :
    Paired (repeatEnd v x s) := by
  obtain ⟨e, he, hmem, _⟩ := hs.entryFor_of_plays hx
  unfold repeatEnd
  rw [he]
  dsimp only
  split
  · exact repeatGap_paired hs hx
  · rename_i n _
    split
    · exact repeatGap_paired (modEntry_paired (f := fun e => { e with remaining := .count (n - 1) }) (fun _ => ⟨rfl, rfl⟩) hs)
        (by rw [voiceOf_modEntry, hx])
    · exact voicesLook_paired (endEntry_paired _ hs (hs.agrees hmem))

theorem gapEnd_paired {v : VoiceId} {x : Voice} {s : State} (hs : Paired s) (hx : voiceOf s v = some x) :
    Paired (gapEnd v x s) := by
  unfold gapEnd
  split
  · exact beginTone_paired hs hx rfl
  · exact repeatEnd_paired hs hx

theorem voicePhaseEnds_paired {v : VoiceId} {s : State} (hs : Paired s) : Paired (voicePhaseEnds v s) := by
  unfold voicePhaseEnds
  split
  · exact hs
  · rename_i x hx
    unfold phaseEnd toneEnd
    dsimp only
    split
    · split
      · exact gapEnd_paired hs hx
      · exact setVoice_paired hs hx rfl
    · exact gapEnd_paired hs hx
    · exact nextRepeat_paired hs hx

/-! ### Requests -/

theorem joinTone_paired {v : VoiceId} {p : PatternId} {added : CabinSet} {s : State} (hs : Paired s) :
    Paired (joinTone v p added s) := by
  unfold joinTone
  split
  · exact hs
  · rename_i x hx
    refine Paired.of_chimes ?_ (insertChimes_chimes _)
    exact noteReroute_paired (setVoice_paired hs hx rfl)

theorem mergeChime_paired {e : ChimeEntry} {t : Pattern} {zones : CabinSet} {s : State} (hs : Paired s) :
    Paired (mergeChime e t zones s) := by
  have hmerged : Paired (modEntry e.pattern (ChimeEntry.merged t zones) s) := modEntry_paired (fun _ => ⟨rfl, rfl⟩) hs
  unfold mergeChime
  dsimp only
  split
  · exact joinTone_paired hmerged
  · exact hmerged

/-- A new entry that waits adds its key. -/
theorem keysOf_placeChime {e : ChimeEntry} {s : State} (hwaits : e.voice = none) :
    (keysOf (placeChime e s)).Perm ((e.pattern, none) :: keysOf s) := by
  obtain ⟨l, r, hold, hplaced⟩ := placeChime_queue e s
  rw [keysOf, keysOf, hplaced, hold, ← hwaits]
  exact List.perm_middle.map _

/-- A waiting entry of a new pattern is placed. -/
theorem placeChime_paired {e : ChimeEntry} {s : State} (hs : Paired s) (hnew : entryFor s e.pattern = none)
    (hwaits : e.voice = none) : Paired (placeChime e s) := by
  have hkeys := keysOf_placeChime (s := s) hwaits
  have hvoice (v : VoiceId) : voiceOf (placeChime e s) v = voiceOf s v := by cases v <;> rfl
  refine ⟨⟨?_, fun p v h => ?_⟩, fun p v h => ?_⟩
  · refine (hkeys.map Prod.fst).nodup_iff.2 (List.nodup_cons.2 ⟨fun h => ?_, hs.voiced.distinct⟩)
    obtain ⟨⟨p, w⟩, hk, rfl⟩ := List.mem_map.1 h
    obtain ⟨y, hy, hyp, _⟩ := mem_keysOf.1 hk
    exact (entryFor_eq_none_iff s _).1 hnew y hy hyp
  · rw [hvoice]
    have hmem := hkeys.mem_iff.1 h
    exact hs.voiced.plays p v (by simpa using hmem)
  · rw [hvoice] at h
    exact hkeys.mem_iff.2 (List.mem_cons_of_mem _ (hs.named p v h))

/-- A waiting entry is displaced. -/
theorem dropEntry_paired {e : ChimeEntry} {s : State} (hs : Paired s) (he : e ∈ s.chimes.queue) (hwaits : e.voice = none) :
    Paired (dropEntry e.pattern s) := by
  refine hs.drop (p := e.pattern) ?_ fun w => ?_
  · rw [keysOf, keysOf, List.filter_map]
    rfl
  · rw [if_neg fun hkey => ?_]
    · cases w <;> rfl
    · simpa [hwaits] using ((hs.agrees he) _ _ hkey).1 rfl

theorem lastQueued_waits {s : State} {e : ChimeEntry} (h : lastQueued s = some e) : e ∈ s.chimes.queue ∧ e.voice = none := by
  obtain ⟨hmem, hwaits⟩ := List.mem_filter.1 (List.mem_of_getLast? h)
  exact ⟨hmem, Option.isNone_iff_eq_none.1 hwaits⟩

theorem entryFor_dropEntry_none {s : State} {p q : PatternId} (h : entryFor s p = none) : entryFor (dropEntry q s) p = none := by
  rw [entryFor_eq_none_iff] at h ⊢
  exact fun e he => h e (List.mem_of_mem_filter he)

theorem dropEntry_length_lt {s : State} {e : ChimeEntry} (he : e ∈ s.chimes.queue) :
    (dropEntry e.pattern s).chimes.queue.length < s.chimes.queue.length :=
  List.length_filter_lt_length_iff_exists.2 ⟨e, he, by simp⟩

theorem placeChime_length (e : ChimeEntry) (s : State) :
    (placeChime e s).chimes.queue.length = s.chimes.queue.length + 1 := by
  obtain ⟨l, r, hold, hplaced⟩ := placeChime_queue e s
  rw [hold, hplaced]
  simp only [List.length_append, List.length_cons]
  omega

theorem voicesLook_chimesOk {s : State} (hlen : s.chimes.queue.length ≤ 8) (hs : Paired s) : ChimesOk (voicesLook s) :=
  (chimesOk_iff _).2 ⟨(voicesLook_coresKept s).length_eq ▸ hlen, voicesLook_paired hs⟩

theorem mergeChime_length (e : ChimeEntry) (t : Pattern) (zones : CabinSet) (s : State) :
    (mergeChime e t zones s).chimes.queue.length = s.chimes.queue.length :=
  (mergeChime_coresKept e t zones s).length_eq.trans (List.length_map _)

theorem takeChime_chimesOk {s : State} (p : PatternId) (t : Pattern) (zones : CabinSet) (hs : ChimesOk s) :
    ChimesOk (takeChime p t zones s).1 := by
  obtain ⟨hlen, hpaired⟩ := (chimesOk_iff s).1 hs
  have placed {u : State} (hu : Paired u) (hroom : u.chimes.queue.length < 8) (hnew : entryFor u p = none) :
      ChimesOk (voicesLook (placeChime (newEntry u p t zones) u)) :=
    voicesLook_chimesOk (by rw [placeChime_length]; omega) (placeChime_paired hu hnew rfl)
  unfold takeChime
  split
  · exact voicesLook_chimesOk ((mergeChime_length ..).trans_le hlen) (mergeChime_paired hpaired)
  · rename_i hnew
    split
    · rename_i hroom
      exact placed hpaired hroom hnew
    · split
      · exact hs
      · rename_i e hlast
        split
        · obtain ⟨hmem, hwaits⟩ := lastQueued_waits hlast
          have hdropped : Paired (post .chimeDropped e.pattern.val
              (cabinSetField e.zones ++ (u8 (priorityOf s e.pattern) ++ u8 p.val)) (dropEntry e.pattern s)) :=
            (dropEntry_paired hpaired hmem hwaits).of_chimes rfl
          exact placed hdropped ((dropEntry_length_lt hmem).trans_le hlen) (entryFor_dropEntry_none hnew)
        · exact hs

end Sys2Proof.Machine
end

section
/-! SUPPORT. The order of the chime queue (R86): which operations leave the entries' ranks as they stand or thin them out, that
a new entry is placed in its rank, and every step. -/

-- One declaration at a time: together they would start more threads than the check's memory limit has stacks for.
set_option Elab.async false

namespace Sys2Proof.Machine

/-! ### Ranks -/

/-- What an entry's place rests on: its pattern and its arrival. -/
def ChimeEntry.rank (e : ChimeEntry) : PatternId × Nat := (e.pattern, e.arrival)

/-- The ranks of the queue's entries, in order. -/
def ranksOf (s : State) : List (PatternId × Nat) := s.chimes.queue.map ChimeEntry.rank

/-- One rank stands before another: by the priority of its pattern, and within one priority by arrival (R86). -/
def Precedes (s : State) (a b : PatternId × Nat) : Prop :=
  priorityOf s a.1 < priorityOf s b.1 ∨ (priorityOf s a.1 = priorityOf s b.1 ∧ a.2 < b.2)

/-- The queue's entries stand in their order, and every arrival mark has been given (R86). -/
structure RanksInOrder (s : State) : Prop where
  sorted : (ranksOf s).Pairwise (Precedes s)
  given : ∀ r ∈ ranksOf s, r.2 < s.chimes.nextArrival

theorem chimeOrderOk_iff (s : State) :
    ChimeOrderOk s ↔ RanksInOrder s ∧ (s.chimes.queue ≠ [] → s.safety.locked = true) := by
  constructor
  · rintro ⟨hsorted, hgiven, hlock⟩
    exact ⟨⟨List.pairwise_map.2 hsorted, List.forall_mem_map.2 hgiven⟩, hlock⟩
  · rintro ⟨⟨hsorted, hgiven⟩, hlock⟩
    exact ⟨List.pairwise_map.1 hsorted, List.forall_mem_map.1 hgiven, hlock⟩

theorem priorityOf_congr {s t : State} (h : t.patterns.table = s.patterns.table) : priorityOf t = priorityOf s := by
  funext p
  simp only [priorityOf, h]

/-- From one state to another entries may have left the queue; those that stay have kept their ranks and their order. -/
structure Thinned (s t : State) : Prop where
  ranks : (ranksOf t).Sublist (ranksOf s)
  arrival : t.chimes.nextArrival = s.chimes.nextArrival

section
variable {s t u : State}

theorem Thinned.refl : Thinned s s := ⟨.refl _, rfl⟩

theorem Thinned.trans (h : Thinned s t) (h' : Thinned t u) : Thinned s u :=
  ⟨h'.ranks.trans h.ranks, h'.arrival.trans h.arrival⟩

theorem Thinned.of_chimes (hq : t.chimes.queue = s.chimes.queue) (ha : t.chimes.nextArrival = s.chimes.nextArrival) :
    Thinned s t := ⟨by rw [ranksOf, ranksOf, hq], ha⟩

theorem Thinned.length_le (h : Thinned s t) : t.chimes.queue.length ≤ s.chimes.queue.length := by
  simpa [ranksOf] using h.ranks.length_le

theorem Thinned.ne_nil (h : Thinned s t) (ht : t.chimes.queue ≠ []) : s.chimes.queue ≠ [] := fun hs =>
  ht (List.length_eq_zero_iff.1 (Nat.le_zero.1 (h.length_le.trans_eq (by rw [hs]; rfl))))

theorem CoresKept.thinned (h : CoresKept s t) : Thinned s t := by
  have hrank (v : State) : ranksOf v = (coresOf v).map (fun c => (c.1, c.2.2.2.2)) := by
    rw [ranksOf, coresOf, List.map_map]
    rfl
  exact ⟨by rw [hrank, hrank, h.cores], h.arrival⟩

theorem RanksInOrder.thinned (hs : RanksInOrder s) (h : Thinned s t) (htable : t.patterns.table = s.patterns.table) :
    RanksInOrder t := by
  refine ⟨(hs.sorted.sublist h.ranks).imp fun hab => ?_, fun r hr => h.arrival ▸ hs.given r (h.ranks.subset hr)⟩
  simpa only [Precedes, priorityOf_congr htable] using hab

theorem Thinned.chimeOrderOk (h : Thinned s t) (hsafety : t.safety.locked = s.safety.locked)
    (htable : t.patterns.table = s.patterns.table) (hs : ChimeOrderOk s) : ChimeOrderOk t := by
  obtain ⟨horder, hlock⟩ := (chimeOrderOk_iff s).1 hs
  exact (chimeOrderOk_iff t).2 ⟨horder.thinned h htable, fun ht => hsafety ▸ hlock (h.ne_nil ht)⟩

end

theorem chimeOrderOk_of_empty {s : State} (h : s.chimes.queue = []) : ChimeOrderOk s := by
  refine (chimeOrderOk_iff s).2 ⟨⟨?_, ?_⟩, fun hne => absurd h hne⟩ <;> simp [ranksOf, h]

theorem chimesOk_of_empty {s : State} (hq : s.chimes.queue = []) (hv : ∀ v, voiceOf s v = none) : ChimesOk s := by
  refine (chimesOk_iff s).2 ⟨by simp [hq], ⟨⟨?_, ?_⟩, ?_⟩⟩ <;> simp [keysOf, hq, hv]

/-! ### Operations that thin the queue -/

theorem modEntry_thinned {p : PatternId} {f : ChimeEntry → ChimeEntry} (hf : ∀ e, (f e).rank = e.rank) (s : State) :
    Thinned s (modEntry p f s) := by
  refine ⟨?_, rfl⟩
  have hranks : ranksOf (modEntry p f s) = ranksOf s := by
    rw [ranksOf, modEntry_queue, List.map_map]
    refine List.map_congr_left fun e _ => ?_
    simp only [Function.comp_apply]
    split
    · exact hf e
    · rfl
  rw [hranks]

theorem filter_thinned {s t : State} {p : ChimeEntry → Bool} (hq : t.chimes.queue = s.chimes.queue.filter p)
    (ha : t.chimes.nextArrival = s.chimes.nextArrival) : Thinned s t :=
  ⟨by rw [ranksOf, hq]; exact List.filter_sublist.map _, ha⟩

theorem endEntry_thinned (e : ChimeEntry) (cause : ChimeEnd) (s : State) : Thinned s (endEntry e cause s) :=
  filter_thinned (endEntry_queue e cause s).1 (endEntry_queue e cause s).2

theorem dropEntry_thinned (p : PatternId) (s : State) : Thinned s (dropEntry p s) := filter_thinned rfl rfl

theorem cutEntry_thinned (s : State) (e : ChimeEntry) : Thinned s (cutEntry s e) := by
  rcases cutEntry_cases s e with ⟨_, heq⟩ | ⟨_, _, heq⟩ | ⟨_, _, heq⟩ <;> rw [heq]
  · exact .refl
  · exact endEntry_thinned e _ s
  · exact modEntry_thinned (f := ChimeEntry.lastRepeat) (fun _ => rfl) s

theorem afterCuts_thinned (s : State) : Thinned s (afterCuts s) := by
  have cuts (l : List ChimeEntry) (u : State) : Thinned u (l.foldl cutEntry u) := by
    induction l generalizing u with
    | nil => exact .refl
    | cons e l ih => exact (cutEntry_thinned u e).trans (ih _)
  exact (cuts s.chimes.queue s).trans (voicesLook_coresKept _).thinned

theorem nextRepeat_thinned (v : VoiceId) (x : Voice) (s : State) : Thinned s (nextRepeat v x s) :=
  (modEntry_thinned (f := fun e => { e with reached := x.rep + 1 }) (fun _ => rfl) s).trans (beginTone_coresKept v _ _).thinned

theorem repeatGap_thinned (v : VoiceId) (x : Voice) (s : State) : Thinned s (repeatGap v x s) := by
  unfold repeatGap
  dsimp only
  split
  · exact nextRepeat_thinned v x s
  · exact (setVoice_coresKept v _ s).thinned

theorem repeatEnd_thinned (v : VoiceId) (x : Voice) (s : State) : Thinned s (repeatEnd v x s) := by
  unfold repeatEnd
  split
  · exact (setVoice_coresKept v _ s).thinned
  · split
    · exact repeatGap_thinned v x s
    · rename_i n _
      split
      · exact (modEntry_thinned (f := fun e => { e with remaining := .count (n - 1) }) (fun _ => rfl) s).trans
          (repeatGap_thinned v x _)
      · exact (endEntry_thinned _ _ s).trans (voicesLook_coresKept _).thinned

theorem gapEnd_thinned (v : VoiceId) (x : Voice) (s : State) : Thinned s (gapEnd v x s) := by
  unfold gapEnd
  split
  · exact (beginTone_coresKept v _ s).thinned
  · exact repeatEnd_thinned v x s

theorem voicePhaseEnds_thinned (v : VoiceId) (s : State) : Thinned s (voicePhaseEnds v s) := by
  unfold voicePhaseEnds
  split
  · exact .refl
  · unfold phaseEnd toneEnd
    dsimp only
    split
    · split
      · exact gapEnd_thinned v _ s
      · exact (setVoice_coresKept v _ s).thinned
    · exact gapEnd_thinned v _ s
    · exact nextRepeat_thinned v _ s

/-- What CHIME_CANCEL can do to the part: nothing, or the end of an entry and the voices' look (R89). -/
theorem answerCancel_cases (body : Bytes) (s : State) :
    (answerCancel body s).state = s ∨
      ∃ e ∈ s.chimes.queue, (answerCancel body s).state = voicesLook (endEntry e .cancelled s) := by
  unfold answerCancel
  repeat' split
  case h_2 e he => exact .inr ⟨e, List.mem_of_find?_eq_some he, rfl⟩
  all_goals exact .inl rfl

theorem answerCancel_thinned (body : Bytes) (s : State) : Thinned s (answerCancel body s).state := by
  rcases answerCancel_cases body s with heq | ⟨e, _, heq⟩ <;> rw [heq]
  · exact .refl
  · exact (endEntry_thinned e _ s).trans (voicesLook_coresKept _).thinned

/-! ### A new entry in its rank (R87) -/

/-- A new entry stands behind every entry of its priority and before every entry of a lower one. -/
theorem placeChime_inOrder {e : ChimeEntry} {s : State} (hs : RanksInOrder s) (he : e.arrival = s.chimes.nextArrival) :
    RanksInOrder (placeChime e s) := by
  let ahead (x : ChimeEntry) : Bool := decide (priorityOf s x.pattern ≤ priorityOf s e.pattern)
  have hqueue : (placeChime e s).chimes.queue = s.chimes.queue.takeWhile ahead ++ e :: s.chimes.queue.dropWhile ahead := rfl
  have hsplit := List.takeWhile_append_dropWhile (p := ahead) (l := s.chimes.queue)
  have hsorted := List.pairwise_map.1 hs.sorted
  have hgiven := List.forall_mem_map.1 hs.given
  have hbefore : ∀ a ∈ s.chimes.queue.takeWhile ahead, Precedes s a.rank e.rank := fun a ha => by
    have hle : priorityOf s a.pattern ≤ priorityOf s e.pattern := by simpa [ahead] using List.mem_takeWhile_imp ha
    have hlt := hgiven a (List.takeWhile_subset _ ha)
    rcases Nat.lt_or_eq_of_le hle with hlower | hsame
    · exact .inl hlower
    · exact .inr ⟨hsame, hlt.trans_eq he.symm⟩
  have hafter : ∀ b ∈ s.chimes.queue.dropWhile ahead, priorityOf s e.pattern < priorityOf s b.pattern := fun b hb => by
    cases hdrop : s.chimes.queue.dropWhile ahead with
    | nil => simp [hdrop] at hb
    | cons h rest =>
      have hhead : priorityOf s e.pattern < priorityOf s h.pattern := by
        have hnot := List.head_dropWhile_not ahead (w := by simp [hdrop]) (l := s.chimes.queue)
        simpa [hdrop, ahead] using hnot
      have hrest : (h :: rest).Pairwise (fun a b => Precedes s a.rank b.rank) :=
        hdrop ▸ hsorted.sublist (List.dropWhile_sublist _)
      rcases List.mem_cons.1 (hdrop ▸ hb) with rfl | hb
      · exact hhead
      · rcases (List.pairwise_cons.1 hrest).1 b hb with hlt | ⟨heq, _⟩
        · exact hhead.trans hlt
        · exact heq ▸ hhead
  constructor
  case sorted =>
    refine List.pairwise_map.2 ?_
    rw [hqueue, List.pairwise_append, List.pairwise_cons]
    rw [← hsplit, List.pairwise_append] at hsorted
    obtain ⟨htake, hdrop, hacross⟩ := hsorted
    refine ⟨htake, ⟨fun b hb => .inl (hafter b hb), hdrop⟩, fun a ha b hb => ?_⟩
    rcases List.mem_cons.1 hb with rfl | hb
    · exact hbefore a ha
    · exact hacross a ha b hb
  case given =>
    refine List.forall_mem_map.2 fun a ha => Nat.lt_succ_of_le ?_
    rw [hqueue, List.mem_append, List.mem_cons] at ha
    rcases ha with ha | rfl | ha
    · exact (hgiven a (List.takeWhile_subset _ ha)).le
    · exact he.le
    · exact (hgiven a ((List.dropWhile_sublist _).subset ha)).le

theorem takeChime_inOrder {s : State} (p : PatternId) (t : Pattern) (zones : CabinSet) (hs : RanksInOrder s) :
    RanksInOrder (takeChime p t zones s).1 := by
  have placed {u : State} (hu : RanksInOrder u) : RanksInOrder (voicesLook (placeChime (newEntry u p t zones) u)) :=
    (placeChime_inOrder (e := newEntry u p t zones) hu rfl).thinned (voicesLook_coresKept _).thinned
      (by rw [(voicesLook_within _).patterns_eq])
  unfold takeChime
  split
  · rename_i e _
    refine hs.thinned ?_ (by rw [(voicesLook_within _).patterns_eq, (mergeChime_within ..).patterns_eq])
    exact ((modEntry_thinned (f := ChimeEntry.merged t zones) (fun _ => rfl) s).trans
      (mergeChime_coresKept e t zones s).thinned).trans (voicesLook_coresKept _).thinned
  · split
    · exact placed hs
    · split
      · exact hs
      · rename_i e _
        split
        · exact placed (hs.thinned ((dropEntry_thinned e.pattern s).trans (.of_chimes rfl rfl)) rfl)
        · exact hs

theorem failsafeChime_inOrder {s : State} (hs : RanksInOrder s) : RanksInOrder (failsafeChime s) := by
  unfold failsafeChime
  split
  · exact hs
  · split
    · exact hs
    · split
      · exact takeChime_inOrder _ _ _ hs
      · exact hs

theorem failsafeChime_chimesOk {s : State} (hs : ChimesOk s) : ChimesOk (failsafeChime s) := by
  unfold failsafeChime
  split
  · exact hs
  · split
    · exact hs
    · split
      · exact takeChime_chimesOk _ _ _ hs
      · exact hs

/-! ### The commands that move the voices -/

theorem answerChime_keeps {P : State → Prop} {s : State} (body : Bytes) (hs : P s)
    (htake : ∀ p t z, P (takeChime p t z s).1) : P (answerChime body s).state := by
  have refused (st : Status) : P (refuse s st).state := hs
  unfold answerChime
  dsimp only
  repeat' split
  any_goals with_reducible exact refused _
  · exact htake _ _ _
  · exact htake _ _ _

theorem answerCancel_chimesOk {s : State} (body : Bytes) (hs : ChimesOk s) : ChimesOk (answerCancel body s).state := by
  obtain ⟨hlen, hpaired⟩ := (chimesOk_iff s).1 hs
  rcases answerCancel_cases body s with heq | ⟨e, he, heq⟩ <;> rw [heq]
  · exact hs
  · exact voicesLook_chimesOk ((endEntry_thinned e _ s).length_le.trans hlen) (endEntry_paired _ hpaired (hpaired.agrees he))

theorem voicePhaseEnds_chimesOk {v : VoiceId} {s : State} (hs : ChimesOk s) : ChimesOk (voicePhaseEnds v s) := by
  obtain ⟨hlen, hpaired⟩ := (chimesOk_iff s).1 hs
  exact (chimesOk_iff _).2 ⟨(voicePhaseEnds_thinned v s).length_le.trans hlen, voicePhaseEnds_paired hpaired⟩

theorem watchdogExpires_chimesOk {s : State} (hs : ChimesOk s) : ChimesOk (watchdogExpires s) := by
  unfold watchdogExpires
  split
  · dsimp only
    split
    · have hbefore : ChimesOk (beforeSounds (setWatchdog .expired s)) :=
        chimesOk_congr (s := s) (beforeSounds_chimes (setWatchdog .expired s)) hs
      obtain ⟨hlen, hpaired⟩ := (chimesOk_iff _).1 hbefore
      rw [enterFailsafe_eq, failsafeSounds_eq]
      refine failsafeChime_chimesOk ((chimesOk_iff _).2 ⟨?_, afterCuts_paired hpaired⟩)
      exact (afterCuts_thinned _).length_le.trans hlen
    · exact hs
  · exact hs

/-- FAILSAFE is entered from RUN, and so on a LOCKED part (R15, R17). -/
theorem watchdogExpires_orderOk {s : State} (hstates : StatesOk s) (hs : ChimeOrderOk s) :
    ChimeOrderOk (watchdogExpires s) := by
  unfold watchdogExpires
  split
  · dsimp only
    split
    · rename_i hrun
      have hlock : s.safety.locked = true := (hstates.1 (by simp [isPlaying, show s.sc.opState = .run from hrun])).1
      have hw := enterFailsafe_within (setWatchdog .expired s)
      refine (chimeOrderOk_iff _).2 ⟨?_, fun _ => by rw [hw.safety_eq]; exact hlock⟩
      have hbefore : RanksInOrder (beforeSounds (setWatchdog .expired s)) := by
        have hchimes := beforeSounds_chimes (setWatchdog .expired s)
        exact ((chimeOrderOk_iff s).1 hs).1.thinned
          (.of_chimes (congrArg ChimeUnit.queue hchimes) (congrArg ChimeUnit.nextArrival hchimes))
          (by rw [(beforeSounds_within _).patterns_eq]; rfl)
      rw [enterFailsafe_eq, failsafeSounds_eq]
      exact failsafeChime_inOrder (hbefore.thinned (afterCuts_thinned _) (by rw [(afterCuts_within _).patterns_eq]))
    · exact hs
  · exact hs

theorem voiceOf_pattern_of_same {s t : State} (h : Block.same .chimes s t) (v : VoiceId) :
    (voiceOf t v).map Voice.pattern = (voiceOf s v).map Voice.pattern := by
  obtain ⟨_, hv1, hv2, _⟩ := h
  have hpattern {a b : Option Voice} (hab : a.map Voice.ungained = b.map Voice.ungained) :
      a.map Voice.pattern = b.map Voice.pattern := by
    have hmap := congrArg (Option.map Voice.pattern) hab
    rwa [Option.map_map, Option.map_map] at hmap
  cases v with
  | v1 => exact hpattern hv1
  | v2 => exact hpattern hv2

theorem thinned_of_same {s t : State} (h : Block.same .chimes s t) : Thinned s t := by
  obtain ⟨hq, _, _, ha, _⟩ := h
  exact .of_chimes hq ha

theorem chimesOk_of_same {s t : State} (h : Block.same .chimes s t) (hs : ChimesOk s) : ChimesOk t := by
  obtain ⟨hlen, hpaired⟩ := (chimesOk_iff s).1 hs
  refine (chimesOk_iff t).2 ⟨(thinned_of_same h).length_le.trans hlen, ?_⟩
  exact hpaired.of_patterns (keysOf_congr h.1) (voiceOf_pattern_of_same h)

theorem arrival_sameChimes (kind : Byte) (s : State) : Block.same .chimes s (arrival kind s) :=
  (arrival_within kind s).same .chimes (by decide)

/-- A command that moves no voice leaves the queue and the voices' patterns as they were. -/
theorem exec_sameChimes {i : Instr} {s t : State} (h : exec i s = .next t) (hi : Instr.movesVoices i = false) :
    Block.same .chimes s t := by
  have hb : .chimes ∉ Block.cp :: Instr.changes i := by
    intro hmem
    cases i <;> simp [Instr.movesVoices, Instr.changes, Instr.touches] at hi hmem
  cases exec_touched i s t h with
  | event h => exact h .chimes hb
  | frame kind h => exact Block.same_trans (arrival_sameChimes kind s) (h .chimes hb)

theorem answerStandby_chimes {s : State} {P : State → Prop} (hs : P s)
    (hsilent : ∀ t : State, t.chimes.queue = [] → (∀ v, voiceOf t v = none) → P t) : P (answerStandby s).state := by
  unfold answerStandby
  split
  · exact hs
  · split
    · exact hs
    · rw [accept_state]
      obtain ⟨hq, hv1, hv2, _⟩ := (enterStandby_after_silence s).same .chimes (by decide)
      rw [silenced_chimes] at hq hv1 hv2
      refine hsilent _ hq fun v => ?_
      cases v with
      | v1 => exact Option.map_eq_none_iff.1 hv1
      | v2 => exact Option.map_eq_none_iff.1 hv2

/-! ### Every step -/

theorem settled_chimesOk {s : State} (hs : ChimesOk s) : ChimesOk (settle s) :=
  chimesOk_of_same ((settle_within s).same .chimes (by decide)) hs

theorem replied_chimesOk {r : Byte} {st : Status} {b : Bytes} {u : State} (hs : ChimesOk u) :
    ChimesOk (settle (setReply r st b u)) := settled_chimesOk (chimesOk_congr (s := u) rfl hs)

theorem exec_chimesOk {i : Instr} {s t : State} (hs : ChimesOk s) (h : exec i s = .next t) : ChimesOk t := by
  have next {u : State} (hu : exec i s = .next u) : u = t := Host.Outcome.next.inj (hu.symm.trans h)
  have arrived (kind : Byte) : ChimesOk (arrival kind s) := chimesOk_of_same (arrival_sameChimes kind s) hs
  cases hm : Instr.movesVoices i
  case false => exact chimesOk_of_same (exec_sameChimes h hm) hs
  cases i with
  | powerOnReset => exact next rfl ▸ chimesOk_of_empty rfl (fun v => by cases v <;> rfl)
  | restart body =>
    exact next rfl ▸ request_keeps (fun _ _ _ _ => replied_chimesOk) (arrived _)
      (fun _ _ _ => chimesOk_of_empty rfl (fun v => by cases v <;> rfl))
  | standby body =>
    exact next rfl ▸ request_keeps (fun _ _ _ _ => replied_chimesOk) (arrived _)
      (fun _ _ hu => answerStandby_chimes hu fun _ => chimesOk_of_empty)
  | chimeRequest body =>
    exact next rfl ▸ request_keeps (fun _ _ _ _ => replied_chimesOk) (arrived _)
      (fun _ _ hu => answerChime_keeps body hu fun p t z => takeChime_chimesOk p t z hu)
  | chimeCancel body =>
    exact next rfl ▸ request_keeps (fun _ _ _ _ => replied_chimesOk) (arrived _)
      (fun _ _ hu => answerCancel_chimesOk body hu)
  | voicePhaseEnd v => exact next rfl ▸ settled_chimesOk (voicePhaseEnds_chimesOk hs)
  | watchdogExpiry => exact next rfl ▸ settled_chimesOk (watchdogExpires_chimesOk hs)
  | _ => simp [Instr.movesVoices] at hm

theorem settled_orderOk {s : State} (hs : ChimeOrderOk s) : ChimeOrderOk (settle s) := hs

theorem arrival_orderOk {kind : Byte} {s : State} (hs : ChimeOrderOk s) : ChimeOrderOk (arrival kind s) :=
  (thinned_of_same (arrival_sameChimes kind s)).chimeOrderOk (arrival_guarded kind s).locked (arrival_guarded kind s).table hs

theorem Within.orderOk {bs : List Block} {s t : State} (h : Within bs s t) (hthin : Thinned s t) (hs : ChimeOrderOk s)
    (hsafety : .safety ∉ bs := by decide) (hpatterns : .patterns ∉ bs := by decide) : ChimeOrderOk t :=
  hthin.chimeOrderOk (by rw [h.safety_eq hsafety]) (by rw [h.patterns_eq hpatterns]) hs

/-- Chimes are requested in RUN, and so on a LOCKED part (R16, R17). -/
theorem answerChime_orderOk {s : State} (body : Bytes) (hacc : accepted .chimeRequest s.sc.opState = true)
    (hstates : StatesOk s) (hs : ChimeOrderOk s) : ChimeOrderOk (answerChime body s).state := by
  have hplays : isPlaying s = true := by
    revert hacc
    unfold isPlaying
    cases s.sc.opState <;> decide
  refine answerChime_keeps (P := ChimeOrderOk) body hs fun p t z => ?_
  refine (chimeOrderOk_iff _).2 ⟨takeChime_inOrder p t z ((chimeOrderOk_iff s).1 hs).1, fun _ => ?_⟩
  rw [(takeChime_within p t z s).safety_eq]
  exact (hstates.1 hplays).1

theorem exec_orderOk {i : Instr} {s t : State} (hstates : StatesOk s) (hs : ChimeOrderOk s) (h : exec i s = .next t) :
    ChimeOrderOk t := by
  have next {u : State} (hu : exec i s = .next u) : u = t := Host.Outcome.next.inj (hu.symm.trans h)
  cases hm : Instr.movesVoices i
  case false =>
    have hsame := thinned_of_same (exec_sameChimes h hm)
    by_cases hempty : s.chimes.queue = []
    · exact chimeOrderOk_of_empty (by_contra fun hne => hsame.ne_nil hne hempty)
    · have hguard : Guarded s t := exec_guarded h (by rintro rfl; simp [Instr.movesVoices] at hm) (.inl (hs.2.2 hempty))
      exact hsame.chimeOrderOk hguard.locked hguard.table hs
  cases i with
  | powerOnReset => exact next rfl ▸ chimeOrderOk_of_empty rfl
  | restart body =>
    exact next rfl ▸ request_keeps (P := ChimeOrderOk) (fun _ _ _ _ hu => hu) (arrival_orderOk hs)
      (fun _ _ _ => chimeOrderOk_of_empty rfl)
  | standby body =>
    exact next rfl ▸ request_keeps (P := ChimeOrderOk) (fun _ _ _ _ hu => hu) (arrival_orderOk hs)
      (fun _ _ hu => answerStandby_chimes hu fun _ hq _ => chimeOrderOk_of_empty hq)
  | chimeRequest body =>
    exact next rfl ▸ (request_keeps (P := fun u => StatesOk u ∧ ChimeOrderOk u) (fun _ _ _ _ hu => hu)
      ⟨arrival_statesOk hstates, arrival_orderOk hs⟩
      (fun u hacc hu => ⟨(answerChime_within body u).statesOk hu.1, answerChime_orderOk body hacc hu.1 hu.2⟩)).2
  | chimeCancel body =>
    exact next rfl ▸ request_keeps (P := ChimeOrderOk) (fun _ _ _ _ hu => hu) (arrival_orderOk hs)
      (fun u _ hu => Within.orderOk (answerCancel_within body u) (answerCancel_thinned body u) hu)
  | voicePhaseEnd v =>
    exact next rfl ▸ settled_orderOk ((voicePhaseEnds_within v s).orderOk (voicePhaseEnds_thinned v s) hs)
  | watchdogExpiry => exact next rfl ▸ settled_orderOk (watchdogExpires_orderOk hstates hs)
  | _ => simp [Instr.movesVoices] at hm

theorem elapse_paired {s : State} (hs : Paired s) : Paired (elapse s) := by
  have hticked (x : Option Voice) : (x.map Voice.tick).map Voice.pattern = x.map Voice.pattern := by
    rw [Option.map_map]
    rfl
  refine hs.of_patterns rfl fun v => ?_
  cases v with
  | v1 => exact hticked s.chimes.v1
  | v2 => exact hticked s.chimes.v2

/-- Settles O38: every command keeps each playing voice with its entry (`exec_chimesOk`), and none but a request on a LOCKED
part adds an entry, which it places in its rank (`exec_orderOk`). -/
theorem chimeQueueStaysInOrder : Obligations.ChimeQueueStaysInOrder := by
  unfold Obligations.ChimeQueueStaysInOrder
  intro s t hs hstep
  rcases step_cases hstep with ⟨_, rfl⟩ | ⟨i, rest, _, hexec⟩
  · obtain ⟨hlen, hpaired⟩ := (chimesOk_iff s).1 hs
    exact ⟨(chimesOk_iff _).2 ⟨hlen, elapse_paired hpaired⟩, fun _ horder => horder⟩
  · refine ⟨exec_chimesOk (s := s.setPending rest) (chimesOk_congr rfl hs) hexec, fun hstates horder => ?_⟩
    exact exec_orderOk (s := s.setPending rest) hstates horder hexec

end Sys2Proof.Machine
end

section
/-! SUPPORT. Pattern memory and the pattern table (R82, R83, R85): PATTERN_LOAD, PATTERN_SEGMENT and DEFINE_PATTERN in the open
edit window. -/

-- One declaration at a time: together they would start more threads than the check's memory limit has stacks for.
set_option Elab.async false

namespace Sys2Proof.Machine

/-! ### A request in the open edit window (R26) -/

/-- A request of a kind finds the state given, in which the edit window of an UNLOCKED part is open (R26). -/
structure EditOpen (k : Kind) (s u : State) : Prop where
  reached : u = atRequest k s
  opState : u.sc.opState = .config ∨ u.sc.opState = .run
  unlocked : u.safety.locked = false
  window : u.safety.windowOpen = true

/-- Another edit's request finds the window open as well. -/
theorem EditOpen.other {k : Kind} {s u : State} (h : EditOpen k s u) (j : Kind) : EditOpen j s (atRequest j s) := by
  obtain ⟨rfl, hop, hl, hw⟩ := h
  have hsc : (atRequest j s).sc = (atRequest k s).sc := (arrival_opState _ s).trans (arrival_opState _ s).symm
  have hsafety : (atRequest j s).safety = (atRequest k s).safety := (arrival_safety _ s).trans (arrival_safety _ s).symm
  exact ⟨rfl, hsc ▸ hop, hsafety ▸ hl, hsafety ▸ hw⟩

section
variable {k : Kind} {s u : State} {i : Instr} {body : Bytes} {act : State → Answer} (h : EditOpen k s u) (hk : k ∈ editKinds)
  (hi : exec i s = .next (request k body (whileEditing act) s)) (hlen : lengthAllowed k body = true)
include h hk hi hlen

theorem EditOpen.answers : exec i s = .next (settle ((act u).state.replying k (act u).status (act u).body)) := by
  obtain ⟨rfl, hop, hl, hw⟩ := h
  rw [hi, request_acts k body _ s hlen (accepted_edit (.inr hk) hop), whileEditing_open hl hw]

theorem EditOpen.accepts {v : State} {b : Bytes} (hact : act u = accept v b) : exec i s = .next (v.accepting k b) := by
  rw [h.answers hk hi hlen, hact]
  rfl

theorem EditOpen.refuses {st : Status} (hact : act u = refuse u st) : exec i s = .next (u.refusing k st) := by
  rw [h.answers hk hi hlen, hact]
  rfl

end

/-! ### The segments of a request (R83) -/

theorem readSegments_length {n : Nat} {body : Bytes} {gs : List Segment} (h : readSegments n body = some gs) :
    gs.length = n := by
  induction n generalizing body gs with
  | zero =>
    obtain rfl := Option.some.inj h
    rfl
  | succ n ih =>
    unfold readSegments at h
    split at h
    · rename_i hrest
      obtain rfl := Option.some.inj h
      rw [List.length_cons, ih hrest]
    · simp at h

/-- One segment written, and the rest behind it. -/
theorem writeSegments_cons (g : Segment) (gs : List Segment) (n : Nat) (l : List (Nat × Segment)) :
    writeSegments (g :: gs) (.slot n) l =
      ((writeSegments gs (cursorAfter n) (writeSlot n g l)).1 + 1, (writeSegments gs (cursorAfter n) (writeSlot n g l)).2) :=
  rfl

theorem cursorAfter_inside {n : Nat} (h : n + 1 < 512) : cursorAfter n = .slot (n + 1) := if_pos h

theorem cursorAfter_last {n : Nat} (h : ¬n + 1 < 512) : cursorAfter n = .atEnd := if_neg h

/-- As many segments are written as slots stand from the cursor on. -/
theorem writeSegments_count (gs : List Segment) {n : Nat} (hn : n < 512) (l : List (Nat × Segment)) :
    (writeSegments gs (.slot n) l).1 = min gs.length (512 - n) := by
  induction gs generalizing n l with
  | nil => simp [writeSegments]
  | cons g gs ih =>
    rw [writeSegments_cons, List.length_cons]
    by_cases hlast : n + 1 < 512
    · rw [cursorAfter_inside hlast, ih hlast]
      omega
    · rw [cursorAfter_last hlast, writeSegments_atEnd]
      omega

/-- The cursor moves past the segments, to END where they reach it. -/
theorem writeSegments_cursor (gs : List Segment) {n : Nat} (hn : n < 512) (l : List (Nat × Segment)) :
    (writeSegments gs (.slot n) l).2.1 = if n + gs.length < 512 then .slot (n + gs.length) else .atEnd := by
  induction gs generalizing n l with
  | nil => simp [writeSegments, hn]
  | cons g gs ih =>
    rw [writeSegments_cons, List.length_cons]
    by_cases hlast : n + 1 < 512
    · rw [cursorAfter_inside hlast, ih hlast, Nat.add_right_comm n 1, Nat.add_assoc n]
    · rw [cursorAfter_last hlast, writeSegments_atEnd, if_neg (by omega)]

/-- A slot outside the segments' run reads as before. -/
theorem writeSegments_find_other {gs : List Segment} {n m : Nat} (h : m < n ∨ n + gs.length ≤ m) (l : List (Nat × Segment)) :
    (writeSegments gs (.slot n) l).2.2.find? (fun x => x.1 == m) = l.find? (fun x => x.1 == m) := by
  induction gs generalizing n l with
  | nil => rfl
  | cons g gs ih =>
    rw [List.length_cons] at h
    have hslot := writeSlot_find_other m n g l (by omega)
    rw [writeSegments_cons]
    by_cases hlast : n + 1 < 512
    · rw [cursorAfter_inside hlast, ih (by omega), hslot]
    · rw [cursorAfter_last hlast, writeSegments_atEnd, hslot]

/-- Each slot of the run reads its segment. -/
theorem writeSegments_find {gs : List Segment} {n j : Nat} (hj : j < min gs.length (512 - n)) (l : List (Nat × Segment)) :
    ((writeSegments gs (.slot n) l).2.2.find? (fun x => x.1 == n + j)).map Prod.snd = gs[j]? := by
  induction gs generalizing n j l with
  | nil => simp at hj
  | cons g gs ih =>
    rw [List.length_cons] at hj
    rw [writeSegments_cons]
    cases j with
    | zero =>
      have hfirst : (writeSegments gs (cursorAfter n) (writeSlot n g l)).2.2.find? (fun x => x.1 == n) = some (n, g) := by
        by_cases hlast : n + 1 < 512
        · rw [cursorAfter_inside hlast, writeSegments_find_other (by omega), writeSlot_find]
        · rw [cursorAfter_last hlast, writeSegments_atEnd, writeSlot_find]
      simp [hfirst]
    | succ j =>
      rw [cursorAfter_inside (by omega), show n + (j + 1) = n + 1 + j by omega, ih (by omega), List.getElem?_cons_succ]

/-! ### PATTERN_LOAD and PATTERN_SEGMENT (R82, R83) -/

theorem answerPatternSegment_unloaded {body : Bytes} {w : State} (h : w.patterns.load = none) :
    answerPatternSegment body w = refuse w .wrongState := by
  simp only [answerPatternSegment, h]

theorem answerPatternSegment_unread {body : Bytes} {w : State} (h : w.patterns.load ≠ none)
    (hread : readSegments (body.length / 10) body = none) : answerPatternSegment body w = refuse w .outOfRange := by
  obtain ⟨c, hc⟩ := Option.ne_none_iff_exists'.1 h
  simp only [answerPatternSegment, hc, hread]

/-- A run of segments at the cursor. -/
theorem answerPatternSegment_writes {body : Bytes} {w : State} {c : Cursor} {gs : List Segment}
    (h : w.patterns.load = some c) (hread : readSegments (body.length / 10) body = some gs) :
    answerPatternSegment body w =
      { state := w.modPatterns (fun p => { p with
          memory := (writeSegments gs c w.patterns.memory).2.2, load := some (writeSegments gs c w.patterns.memory).2.1 })
        status := if (writeSegments gs c w.patterns.memory).1 = gs.length then .ok else .cursorEnd
        body := u8 (writeSegments gs c w.patterns.memory).1 ++ cursorField (writeSegments gs c w.patterns.memory).2.1 } := by
  simp only [answerPatternSegment, h, hread]

theorem lengthAllowed_patternSegment {body : Bytes} (h : body.length ∈ [10, 20, 30, 40, 50]) :
    lengthAllowed .patternSegment body = true := by
  simpa [lengthAllowed, or_assoc] using h

/-- Clamped to its fields' ranges, a segment is read (R83). -/
theorem readSegment_clamps (f1 f0 l1 l0 d1 d0 g1 g0 : Byte) (wf : Waveform) (pos : SegmentPosition) :
    readSegment [f1, f0, byte wf.code, l1, l0, d1, d0, byte pos.code, g1, g0] =
      some ⟨min (max (nat16 f1 f0) 100) 8000, wf, min (max (int16 l1 l0) (-160)) 0,
        min (max (nat16 d1 d0) 1) 2000, pos, min (nat16 g1 g0) 2000⟩ := by
  cases wf <;> cases pos <;> rfl

/-- With the cursor at END nothing is written. -/
theorem patternSegment_atEnd {s w : State} {body : Bytes} {gs : List Segment} (h : EditOpen .patternSegment s w)
    (hlen : body.length ∈ [10, 20, 30, 40, 50]) (hload : w.patterns.load = some .atEnd)
    (hread : readSegments (body.length / 10) body = some gs) :
    exec (.patternSegment body) s =
      .next (settle (w.replying .patternSegment .cursorEnd [0#8, Config.cursorEnd.1, Config.cursorEnd.2])) := by
  have hsome : ¬0 = gs.length := by
    rw [readSegments_length hread]
    simp only [List.mem_cons, List.not_mem_nil, or_false] at hlen
    omega
  have hsame : w.modPatterns (fun p => { p with memory := w.patterns.memory, load := some .atEnd }) = w := by
    rw [← hload]
    rfl
  rw [h.answers (by simp) rfl (lengthAllowed_patternSegment hlen), answerPatternSegment_writes hload hread,
    writeSegments_atEnd, if_neg hsome, hsame]
  rfl

/-- The segments are written at the cursor, which moves past them. -/
theorem patternSegment_atSlot {s w : State} {body : Bytes} {gs : List Segment} {n m : Nat} (h : EditOpen .patternSegment s w)
    (hlen : body.length ∈ [10, 20, 30, 40, 50]) (hload : w.patterns.load = some (.slot n)) (hn : n < 512)
    (hread : readSegments (body.length / 10) body = some gs) :
    ∃ t, exec (.patternSegment body) s = .next t ∧
      (∀ j ∈ List.range (min gs.length (512 - n)),
        (t.patterns.memory.find? (fun x => x.1 == n + j)).map Prod.snd = gs[j]?) ∧
      (m < n ∨ n + gs.length ≤ m →
        t.patterns.memory.find? (fun x => x.1 == m) = w.patterns.memory.find? (fun x => x.1 == m)) ∧
      t.patterns.table = w.patterns.table ∧
      t.patterns.load = some (if n + gs.length < 512 then .slot (n + gs.length) else .atEnd) ∧
      t.cp.reply = some ⟨0x1d#8, if n + gs.length ≤ 512 then .ok else .cursorEnd,
        byte (min gs.length (512 - n)) ::
          (if n + gs.length < 512 then u16 (n + gs.length) else [Config.cursorEnd.1, Config.cursorEnd.2])⟩ ∧
      keepsBut [.cp, .patterns] w t := by
  refine ⟨_, h.answers (by simp) rfl (lengthAllowed_patternSegment hlen), ?_⟩
  rw [answerPatternSegment_writes hload hread, writeSegments_count gs hn, writeSegments_cursor gs hn]
  refine ⟨fun j hj => writeSegments_find (List.mem_range.1 hj) _, fun hm => writeSegments_find_other hm _, rfl, rfl, ?_, ?_⟩
  · have hstatus : (min gs.length (512 - n) = gs.length) = (n + gs.length ≤ 512) := propext (by omega)
    simp only [hstatus]
    split <;> rfl
  · exact (modPatterns_within _ w).same.trans ((keepsBut_replied _ _ _ _).mono)

/-- Settles O34. -/
theorem segmentsAreLoadedAtTheCursor : Obligations.SegmentsAreLoadedAtTheCursor := by
  unfold Obligations.SegmentsAreLoadedAtTheCursor
  intro s u w hi lo f1 f0 l1 l0 d1 d0 g1 g0 body m hu hw hop hl hopen
  have hload : EditOpen .patternLoad s u := ⟨hu, hop, hl, hopen⟩
  have hsegment : EditOpen .patternSegment s w := hw ▸ hload.other .patternSegment
  refine ⟨fun hslot => ?_, fun hslot => ?_, fun wf _ pos _ => readSegment_clamps .., fun hlen hnone => ?_,
    fun hlen hsome hread => ?_, fun hlen hend hread => ?_,
    fun n hslot hn hlen gs hread => patternSegment_atSlot hsegment hlen hslot hn hread⟩
  · exact hload.accepts (by simp) rfl rfl (if_pos hslot)
  · exact hload.refuses (by simp) rfl rfl (if_neg (Nat.not_lt.2 hslot))
  · exact hsegment.refuses (by simp) rfl (lengthAllowed_patternSegment hlen) (answerPatternSegment_unloaded hnone)
  · exact hsegment.refuses (by simp) rfl (lengthAllowed_patternSegment hlen) (answerPatternSegment_unread hsome hread)
  · obtain ⟨gs, hgs⟩ := Option.isSome_iff_exists.1 hread
    exact patternSegment_atEnd hsegment hlen hend hgs

/-! ### DEFINE_PATTERN (R85) -/

theorem readPattern_byte (p : PatternId) : readPattern (byte p.val) = some p := by
  have hval : (byte p.val).toNat = p.val := by
    rw [byte, BitVec.toNat_ofNat]
    exact Nat.mod_eq_of_lt (p.isLt.trans (by decide))
  rw [readPattern, dif_pos (hval.trans_lt p.isLt)]
  exact congrArg some (Fin.ext hval)

theorem readPattern_none {b : Byte} (h : 32 ≤ b.toNat) : readPattern b = none := dif_neg (Nat.not_lt.2 h)

theorem readRepeats_none {b : Byte} (h : 16 ≤ b.toNat) (hne : b ≠ 255#8) : readRepeats b = none := by
  have hnat : b.toNat ≠ 255 := fun heq => hne (BitVec.eq_of_toNat_eq heq)
  rw [readRepeats, if_neg hnat, if_neg (Nat.not_lt.2 h)]

/-- The repeats that a byte carries. -/
theorem readRepeats_some {b : Byte} (h : b.toNat < 16 ∨ b = 255#8) :
    readRepeats b = some (if b = 255#8 then .continuous else .count (b.toNat + 1)) := by
  by_cases hcont : b = 255#8
  · subst hcont
    rfl
  · have hnat : b.toNat ≠ 255 := fun heq => hcont (BitVec.eq_of_toNat_eq heq)
    rw [readRepeats, if_neg hnat, if_pos (h.resolve_right hcont), if_neg hcont]

/-- The repeats go back into the byte that carried them. -/
theorem repeatsField_read (b : Byte) : repeatsField (if b = 255#8 then .continuous else .count (b.toNat + 1)) = [b] := by
  by_cases hcont : b = 255#8
  · subst hcont
    rfl
  · simp [hcont, repeatsField, u8]

theorem emptySlot_eq_some {u : State} {first count n : Nat} (hlow : first ≤ n) (hhigh : n < first + count)
    (hempty : slotLoaded u n = false) (hloaded : ∀ j ∈ List.range n, first ≤ j → slotLoaded u j = true) :
    emptySlot u first count = some n := by
  unfold emptySlot
  rw [List.find?_map, Option.map_eq_some_iff]
  refine ⟨n - first, ?_, by omega⟩
  rw [List.find?_range_eq_some]
  simp only [Function.comp_apply]
  refine ⟨?_, by simp; omega, fun j hj => ?_⟩
  · rw [show first + (n - first) = n by omega, hempty]
    rfl
  · rw [hloaded (first + j) (List.mem_range.2 (by omega)) (by omega)]
    rfl

theorem emptySlot_eq_none {u : State} {first count : Nat}
    (hloaded : ∀ n, first ≤ n → n < first + count → slotLoaded u n = true) : emptySlot u first count = none := by
  refine List.find?_eq_none.2 fun n hn => ?_
  obtain ⟨j, hj, rfl⟩ := List.mem_map.1 hn
  rw [hloaded _ (by omega) (by have := List.mem_range.1 hj; omega)]
  decide

section
variable {u : State} {id : PatternId} {x f1 f0 cb rb g1 g0 pb : Byte} {reps : Repeats}

theorem answerDefine_undefines :
    answerDefine [byte id.val, 0#8, f1, f0, cb, rb, g1, g0, pb] u =
      accept (setPattern id none u) (byte id.val :: List.replicate 8 0#8) := by
  simp only [answerDefine, readPattern_byte, if_true]
  rfl

theorem answerDefine_badId (h : 32 ≤ x.toNat) :
    answerDefine [x, 1#8, f1, f0, cb, rb, g1, g0, pb] u = refuse u .outOfRange := by
  simp only [answerDefine, readPattern_none h]

theorem answerDefine_badMark (h : 2 ≤ x.toNat) :
    answerDefine [byte id.val, x, f1, f0, cb, rb, g1, g0, pb] u = refuse u .outOfRange := by
  have h0 : x ≠ 0#8 := by rintro rfl; simp at h
  have h1 : x ≠ 1#8 := by rintro rfl; simp at h
  simp only [answerDefine, readPattern_byte, h0, h1, if_false]

theorem answerDefine_badRepeats (h : readRepeats rb = none) :
    answerDefine [byte id.val, 1#8, f1, f0, cb, rb, g1, g0, pb] u = refuse u .outOfRange := by
  simp only [answerDefine, readPattern_byte, show ¬(1#8 = 0#8) by decide, if_false, if_true, h]

theorem answerDefine_badFirst (h : 512 ≤ nat16 f1 f0) :
    answerDefine [byte id.val, 1#8, f1, f0, cb, rb, g1, g0, pb] u = refuse u .outOfRange := by
  cases hreps : readRepeats rb with
  | none => exact answerDefine_badRepeats hreps
  | some reps =>
    have hslots : Config.segmentSlots ≤ nat16 f1 f0 := h
    simp only [answerDefine, readPattern_byte, show ¬(1#8 = 0#8) by decide, if_false, if_true, hreps, hslots]

variable (hreps : readRepeats rb = some reps) (hfirst : nat16 f1 f0 < 512)
include hreps hfirst

theorem answerDefine_beyond (h : 512 < nat16 f1 f0 + (cb.toNat % 32 + 1)) :
    answerDefine [byte id.val, 1#8, f1, f0, cb, rb, g1, g0, pb] u =
      { state := u, status := .badPattern, body := u16 (nat16 f1 f0) ++ u8 (cb.toNat % 32 + 1 - 1) } := by
  have hslots : ¬Config.segmentSlots ≤ nat16 f1 f0 := Nat.not_le.2 hfirst
  have hbeyond : Config.segmentSlots < nat16 f1 f0 + (cb.toNat % 32 + 1) := h
  simp only [answerDefine, readPattern_byte, show ¬(1#8 = 0#8) by decide, if_false, if_true, hreps, hslots, hbeyond]

variable (h : nat16 f1 f0 + (cb.toNat % 32 + 1) ≤ 512)
include h

theorem answerDefine_emptySlot {n : Nat} (hempty : emptySlot u (nat16 f1 f0) (cb.toNat % 32 + 1) = some n) :
    answerDefine [byte id.val, 1#8, f1, f0, cb, rb, g1, g0, pb] u = { state := u, status := .badPattern, body := u16 n } := by
  have hslots : ¬Config.segmentSlots ≤ nat16 f1 f0 := Nat.not_le.2 hfirst
  have hinside : ¬Config.segmentSlots < nat16 f1 f0 + (cb.toNat % 32 + 1) := Nat.not_lt.2 h
  simp only [answerDefine, readPattern_byte, show ¬(1#8 = 0#8) by decide, if_false, if_true, hreps, hslots, hinside, hempty]

theorem answerDefine_defines (hloaded : emptySlot u (nat16 f1 f0) (cb.toNat % 32 + 1) = none) :
    answerDefine [byte id.val, 1#8, f1, f0, cb, rb, g1, g0, pb] u =
      accept (setPattern id (some ⟨nat16 f1 f0, cb.toNat % 32 + 1, reps, min (nat16 g1 g0) 5000, min pb.toNat 7⟩) u)
        (patternField id ⟨nat16 f1 f0, cb.toNat % 32 + 1, reps, min (nat16 g1 g0) 5000, min pb.toNat 7⟩) := by
  have hslots : ¬Config.segmentSlots ≤ nat16 f1 f0 := Nat.not_le.2 hfirst
  have hinside : ¬Config.segmentSlots < nat16 f1 f0 + (cb.toNat % 32 + 1) := Nat.not_lt.2 h
  simp only [answerDefine, readPattern_byte, show ¬(1#8 = 0#8) by decide, if_false, if_true, hreps, hslots, hinside, hloaded]

end

/-- Settles O35. -/
theorem patternIsDefined : Obligations.PatternIsDefined := by
  unfold Obligations.PatternIsDefined
  intro s u id x f1 f0 cb rb g1 g0 pb first count reps hu hop hl hw hfirst hcount hreps
  have hopen : EditOpen .definePattern s u := ⟨hu, hop, hl, hw⟩
  subst hfirst hcount
  refine ⟨hopen.accepts (by simp) rfl rfl answerDefine_undefines,
    fun hx => hopen.refuses (by simp) rfl rfl (answerDefine_badId hx),
    fun hx => hopen.refuses (by simp) rfl rfl (answerDefine_badMark hx), fun hbad => ?_, fun hrb hslot => ?_⟩
  · refine hopen.refuses (by simp) rfl rfl ?_
    rcases hbad with ⟨hhigh, hne⟩ | hslot
    · exact answerDefine_badRepeats (readRepeats_none hhigh hne)
    · exact answerDefine_badFirst hslot
  have hread : readRepeats rb = some reps := hreps ▸ readRepeats_some hrb
  refine ⟨fun hbeyond => ?_, fun hinside n _ hlow hhigh hempty hloaded => ?_, fun hinside hloaded => ?_⟩
  · rw [hopen.answers (by simp) rfl rfl, answerDefine_beyond hread hslot hbeyond]
    rfl
  · rw [hopen.answers (by simp) rfl rfl,
      answerDefine_emptySlot hread hslot hinside (emptySlot_eq_some hlow hhigh hempty hloaded)]
  · have hnone : emptySlot u (nat16 f1 f0) (cb.toNat % 32 + 1) = none :=
      emptySlot_eq_none fun n hlow hhigh => hloaded n (List.mem_range.2 (by omega)) hlow hhigh
    rw [hopen.accepts (by simp) rfl rfl (answerDefine_defines hread hslot hinside hnone), patternField, hreps,
      repeatsField_read]
    rfl

end Sys2Proof.Machine
end

section
/-! SUPPORT. The channels of a segment (R94, R95) and the beginning of a tone (R92, R94 to R96). -/

-- One declaration at a time: together they would start more threads than the check's memory limit has stacks for.
set_option Elab.async false

namespace Sys2Proof.Machine

/-! ### The channels of a zone (R94, R95) -/

section
variable {u : State} {pos : SegmentPosition} {z : Cabin} {c : Chan}

theorem serves_cabin : serves u.install (.cabin z) c = true ↔ ∃ p, servedBy u.install c = some (z, p) := by
  cases h : servedBy u.install c with
  | none => simp [serves, h]
  | some q =>
    obtain ⟨y, p⟩ := q
    simp [serves, h]

theorem isServed_iff : isServed u.install z = true ↔ ∃ c, serves u.install (.cabin z) c = true := by
  simp [isServed, channelsOf, List.filter_eq_nil_iff, Chan.mem_all]

theorem mem_channelsAt {p : Position} : c ∈ channelsAt u z p ↔ servedBy u.install c = some (z, p) := by
  simp [channelsAt, Chan.mem_all]

theorem mem_channelsNotSub :
    c ∈ channelsNotSub u z ↔ serves u.install (.cabin z) c = true ∧ servedBy u.install c ≠ some (z, .sub) := by
  simp [channelsNotSub, channelsOf, Chan.mem_all, and_comm]

/-- The candidates where the position names channels of the zone by one side. -/
theorem mem_candidates_of_side {named : List Chan}
    (hcand : candidates u z pos = if named.isEmpty then channelsNotSub u z else named)
    (hnamed : ∀ c, c ∈ named ↔ NamedChannel u pos z c) : c ∈ candidates u z pos ↔ CandidateChannel u pos z c := by
  rw [hcand]
  by_cases hempty : named = []
  · have hnone (d : Chan) : ¬NamedChannel u pos z d := fun h => by simpa [hempty] using (hnamed d).2 h
    rw [hempty, List.isEmpty_nil, if_pos rfl, mem_channelsNotSub]
    exact ⟨fun h => .inr ⟨fun d _ => hnone d, h⟩, fun h => (h.resolve_left (hnone c)).2⟩
  · obtain ⟨d, hd⟩ := List.exists_mem_of_ne_nil _ hempty
    rw [if_neg (by simpa using hempty), hnamed]
    exact ⟨.inl, fun h => h.resolve_right fun hno => hno.1 d (Chan.mem_all d) ((hnamed d).1 hd)⟩

theorem mem_candidates : c ∈ candidates u z pos ↔ CandidateChannel u pos z c := by
  cases pos with
  | left => exact mem_candidates_of_side rfl fun c => by simp [mem_channelsAt, NamedChannel]
  | right => exact mem_candidates_of_side rfl fun c => by simp [mem_channelsAt, NamedChannel]
  | both =>
    have hnone (d : Chan) : ¬NamedChannel u .both z d := by simp [NamedChannel]
    have hcand : candidates u z .both = channelsNotSub u z := ite_self _
    rw [hcand, mem_channelsNotSub]
    exact ⟨fun h => .inr ⟨fun d _ => hnone d, h⟩, fun h => (h.resolve_left (hnone c)).2⟩

theorem mem_liveCandidates : c ∈ liveCandidates u z pos ↔ CandidateChannel u pos z c ∧ chanLive u c = true := by
  rw [liveCandidates, List.mem_filter, mem_candidates]

theorem mem_liveFallback : c ∈ liveFallback u ↔ c ∈ u.safety.config.fallback ∧ chanLive u c = true := List.mem_filter

theorem callsFallback_iff : callsFallback u pos z = true ↔ CallsForFallback u pos z := by
  have hempty : (liveCandidates u z pos).isEmpty = true ↔
      ∀ c ∈ Chan.all, CandidateChannel u pos z c → chanLive u c = false := by
    rw [List.isEmpty_iff, List.eq_nil_iff_forall_not_mem]
    refine forall_congr' fun c => ?_
    rw [mem_liveCandidates]
    simp only [Chan.mem_all, forall_const, not_and, Bool.not_eq_true]
  rw [callsFallback, Bool.and_eq_true, hempty]

/-- A zone that has a candidate is served by it. -/
theorem CandidateChannel.isServed (h : CandidateChannel u pos z c) : isServed u.install z = true := by
  refine isServed_iff.2 ⟨c, ?_⟩
  rcases h with (⟨_, hside⟩ | ⟨_, hside⟩) | ⟨_, hserves, _⟩
  · exact serves_cabin.2 ⟨_, hside⟩
  · exact serves_cabin.2 ⟨_, hside⟩
  · exact hserves

theorem mem_chosenFor : c ∈ chosenFor u pos z ↔ CarriesSegment u pos z c := by
  unfold chosenFor
  by_cases hserved : isServed u.install z = true
  · rw [if_pos hserved]
    by_cases hcalls : CallsForFallback u pos z
    · have hempty : (liveCandidates u z pos).isEmpty = true := by
        have := callsFallback_iff.2 hcalls
        rw [callsFallback, Bool.and_eq_true] at this
        exact this.2
      rw [if_pos hempty, mem_liveFallback]
      refine ⟨fun h => ⟨h.2, .inr ⟨hcalls, h.1⟩⟩, fun h => ⟨?_, h.1⟩⟩
      rcases h.2 with hcand | hfall
      · exact absurd h.1 (by rw [hcalls.2 c (Chan.mem_all c) hcand]; decide)
      · exact hfall.2
    · have hsome : ¬(liveCandidates u z pos).isEmpty = true := fun hempty =>
        hcalls (callsFallback_iff.1 (by rw [callsFallback, hserved, hempty]; rfl))
      rw [if_neg hsome, mem_liveCandidates]
      exact ⟨fun h => ⟨h.2, .inl h.1⟩, fun h => ⟨h.2.resolve_right fun hfall => hcalls hfall.1, h.1⟩⟩
  · rw [if_neg hserved]
    refine ⟨fun h => absurd h List.not_mem_nil, fun h => ?_⟩
    rcases h.2 with hcand | hfall
    · exact absurd (CandidateChannel.isServed hcand) hserved
    · exact absurd hfall.1.1 hserved

end

/-! ### The paths of a segment (R94) -/

section
variable {s : State} {level : Int} {pos : SegmentPosition}

theorem addChimePath_chans (z : Cabin) (ps : List ChimePath) (c : Chan) :
    ps.map ChimePath.chan ⊆ (addChimePath s level z ps c).map ChimePath.chan ∧
      c ∈ (addChimePath s level z ps c).map ChimePath.chan := by
  unfold addChimePath
  split
  · rename_i hin
    obtain ⟨p, hp, hc⟩ := List.any_eq_true.1 hin
    exact ⟨List.Subset.refl _, List.mem_map.2 ⟨p, hp, beq_iff_eq.1 hc⟩⟩
  · simp

theorem addChimePath_nodup {z : Cabin} {ps : List ChimePath} {c : Chan} (h : (ps.map ChimePath.chan).Nodup) :
    ((addChimePath s level z ps c).map ChimePath.chan).Nodup := by
  unfold addChimePath
  split
  · exact h
  · rename_i hout
    rw [List.map_append, List.nodup_append]
    refine ⟨h, List.nodup_singleton _, fun a ha b hb => ?_⟩
    obtain rfl := List.mem_singleton.1 hb
    rintro rfl
    obtain ⟨p, hp, hpc⟩ := List.mem_map.1 ha
    exact hout (List.any_eq_true.2 ⟨p, hp, beq_iff_eq.2 hpc⟩)

theorem mem_addChimePath {z : Cabin} {ps : List ChimePath} {c : Chan} {p : ChimePath} (h : p ∈ addChimePath s level z ps c) :
    p ∈ ps ∨ (p.zone = z ∧ p.chan = c) := by
  unfold addChimePath at h
  split at h
  · exact .inl h
  · rcases List.mem_append.1 h with h | h
    · exact .inl h
    · obtain rfl := List.mem_singleton.1 h
      exact .inr ⟨rfl, rfl⟩

/-- The paths to the channels that one zone is given, beside those that stand. -/
theorem zonePaths_spec (z : Cabin) (cs : List Chan) (ps : List ChimePath) (hps : (ps.map ChimePath.chan).Nodup) :
    ((cs.foldl (addChimePath s level z) ps).map ChimePath.chan).Nodup ∧
      (∀ p ∈ cs.foldl (addChimePath s level z) ps, p ∈ ps ∨ (p.zone = z ∧ p.chan ∈ cs)) ∧
      ps.map ChimePath.chan ++ cs ⊆ (cs.foldl (addChimePath s level z) ps).map ChimePath.chan := by
  induction cs generalizing ps with
  | nil => exact ⟨hps, fun p hp => .inl hp, by simp⟩
  | cons c cs ih =>
    obtain ⟨hnodup, hmem, hsub⟩ := ih (addChimePath s level z ps c) (addChimePath_nodup hps)
    obtain ⟨hold, hnew⟩ := addChimePath_chans (s := s) (level := level) z ps c
    refine ⟨hnodup, fun p hp => ?_, fun d hd => hsub ?_⟩
    · rcases hmem p hp with hp | ⟨hz, hc⟩
      · rcases mem_addChimePath hp with hp | ⟨hz, hc⟩
        · exact .inl hp
        · exact .inr ⟨hz, hc ▸ List.mem_cons_self⟩
      · exact .inr ⟨hz, List.mem_cons_of_mem _ hc⟩
    · rw [List.mem_append, List.mem_cons] at hd
      rw [List.mem_append]
      rcases hd with hd | rfl | hd
      · exact .inl (hold hd)
      · exact .inl hnew
      · exact .inr hd

/-- The paths of a list of zones lead, one to each, to the channels that the zones are given. -/
theorem chimePaths_spec (zs : List Cabin) (ps : List ChimePath) (hps : (ps.map ChimePath.chan).Nodup) :
    ((chimePaths s level pos zs ps).map ChimePath.chan).Nodup ∧
      (∀ p ∈ chimePaths s level pos zs ps, p ∈ ps ∨ (p.zone ∈ zs ∧ p.chan ∈ chosenFor s pos p.zone)) ∧
      ps.map ChimePath.chan ⊆ (chimePaths s level pos zs ps).map ChimePath.chan ∧
      ∀ z ∈ zs, chosenFor s pos z ⊆ (chimePaths s level pos zs ps).map ChimePath.chan := by
  induction zs generalizing ps with
  | nil => exact ⟨hps, fun p hp => .inl hp, List.Subset.refl _, fun z hz => absurd hz List.not_mem_nil⟩
  | cons y zs ih =>
    obtain ⟨hnodup, hmem, hsub⟩ := zonePaths_spec (s := s) (level := level) y (chosenFor s pos y) ps hps
    obtain ⟨hnodup', hmem', hsub', hcover⟩ := ih _ hnodup
    obtain ⟨hold, hnew⟩ := List.append_subset.1 hsub
    refine ⟨hnodup', fun p hp => ?_, List.Subset.trans hold hsub', fun z hz => ?_⟩
    · rcases hmem' p hp with hp | ⟨hz, hc⟩
      · rcases hmem p hp with hp | ⟨hz, hc⟩
        · exact .inl hp
        · exact .inr ⟨hz ▸ List.mem_cons_self, hz ▸ hc⟩
      · exact .inr ⟨List.mem_cons_of_mem _ hz, hc⟩
    · rcases List.mem_cons.1 hz with rfl | hz
      · exact List.Subset.trans hnew hsub'
      · exact hcover z hz

theorem mem_toList {zones : CabinSet} {z : Cabin} : z ∈ zones.toList ↔ zones.get z = true := by
  simp [CabinSet.toList, Cabin.mem_all]

theorem chimePaths_chosen (zones : CabinSet) : ChannelsChosen s pos zones (chimePaths s level pos zones.toList []) := by
  obtain ⟨hnodup, hmem, _, hcover⟩ := chimePaths_spec (s := s) (level := level) (pos := pos) zones.toList [] List.nodup_nil
  refine ⟨hnodup, fun p hp => ?_, fun z _ c _ hz hc => hcover z (mem_toList.2 hz) (mem_chosenFor.2 hc)⟩
  obtain ⟨hz, hc⟩ := (hmem p hp).resolve_left List.not_mem_nil
  exact ⟨mem_toList.1 hz, mem_chosenFor.1 hc⟩

end

/-! ### What a tone reads of the part -/

/-- Two states of one part: what chimes read beside the queue and the voices is the same (R94 to R96). -/
structure SameSetup (u a : State) : Prop where
  install : a.install = u.install
  safety : a.safety = u.safety
  patterns : a.patterns = u.patterns
  os : a.os = u.os

theorem SameSetup.refl {u : State} : SameSetup u u := ⟨rfl, rfl, rfl, rfl⟩

theorem SameSetup.trans {u a b : State} (h : SameSetup u a) (h' : SameSetup a b) : SameSetup u b :=
  ⟨h'.install.trans h.install, h'.safety.trans h.safety, h'.patterns.trans h.patterns, h'.os.trans h.os⟩

theorem Within.sameSetup {bs : List Block} {u a : State} (h : Within bs u a)
    (hb : bs.any [Block.install, .safety, .patterns, .os].contains = false := by decide) : SameSetup u a := by
  have hout (b : Block) (hin : b ∈ [Block.install, .safety, .patterns, .os]) : b ∉ bs := fun hmem => by
    simpa [hb] using List.any_eq_true.2 ⟨b, hmem, List.contains_iff_mem.2 hin⟩
  exact ⟨h.install_eq (hout _ (by simp)), h.safety_eq (hout _ (by simp)), h.patterns_eq (hout _ (by simp)),
    h.os_eq (hout _ (by simp))⟩

section
variable {u a : State} (h : SameSetup u a)
include h

theorem SameSetup.priorityOf_eq : priorityOf a = priorityOf u := priorityOf_congr (by rw [h.patterns])

theorem SameSetup.patternAt_eq : patternAt a = patternAt u := by
  funext p
  simp only [patternAt, h.patterns]

theorem SameSetup.presentSegment_eq : presentSegment a = presentSegment u := by
  funext x
  simp only [presentSegment, segmentAt, h.patternAt_eq, h.patterns]

theorem SameSetup.chanLive_eq : chanLive a = chanLive u := by
  funext c
  cases c <;> simp only [chanLive, h.os]

theorem SameSetup.carries_iff (pos : SegmentPosition) (z : Cabin) (c : Chan) :
    CarriesSegment a pos z c ↔ CarriesSegment u pos z c := by
  simp only [CarriesSegment, CandidateChannel, NamedChannel, CallsForFallback, h.chanLive_eq, h.install, h.safety]

theorem SameSetup.liveFallback_eq : liveFallback a = liveFallback u := by
  simp only [liveFallback, h.chanLive_eq, h.safety]

theorem SameSetup.callsFor_iff (pos : SegmentPosition) (z : Cabin) : CallsForFallback a pos z ↔ CallsForFallback u pos z := by
  simp only [CallsForFallback, CandidateChannel, NamedChannel, h.chanLive_eq, h.install]

theorem SameSetup.chosen {pos : SegmentPosition} {zones : CabinSet} {ps : List ChimePath}
    (hc : ChannelsChosen a pos zones ps) : ChannelsChosen u pos zones ps := by
  simpa only [ChannelsChosen, h.carries_iff] using hc

end

/-! ### CHIME_REROUTED (R95) -/

theorem fallbackCarries_iff {u : State} {e : ChimeEntry} {pos : SegmentPosition} :
    FallbackCarries u e pos ↔ liveFallback u ≠ [] ∧ ∃ z, e.zones.toList.find? (callsFallback u pos) = some z := by
  have hfind : (∃ z, e.zones.toList.find? (callsFallback u pos) = some z) ↔
      ∃ z ∈ Cabin.all, e.zones.get z = true ∧ CallsForFallback u pos z := by
    rw [← Option.isSome_iff_exists, List.find?_isSome]
    simp only [mem_toList, callsFallback_iff, Cabin.mem_all, true_and]
  rw [hfind]

/-- The fields of CHIME_REROUTED, byte by byte. -/
theorem reroutedFields (z : Cabin) (l : List Chan) :
    u8 (zoneCode (.cabin z)) ++ (u8 l.length ++ (l.map (fun c => u8 (chanCode c))).flatten) =
      [byte (zoneCode (.cabin z)), byte l.length] ++ l.map (fun c => byte (chanCode c)) := by
  have hflat : (l.map (fun c => u8 (chanCode c))).flatten = l.map (fun c => byte (chanCode c)) := by
    induction l with
    | nil => rfl
    | cons c l ih => rw [List.map_cons, List.flatten_cons, ih]; rfl
  rw [hflat]
  rfl

/-- Nothing is told, and nothing marked, where no fallback channel carries the segment or the entry is marked already. -/
theorem noteReroute_quiet {p : PatternId} {pos : SegmentPosition} {e : ChimeEntry} {b : State} (he : entryFor b p = some e)
    (h : ¬FallbackCarries b e pos ∨ e.rerouted = true) : noteReroute p pos e.zones.toList b = b := by
  unfold noteReroute
  rw [he]
  split
  · rename_i e' z he' hz
    obtain rfl := Option.some.inj he'
    refine if_pos ?_
    rcases h with h | h
    · have hnone : liveFallback b = [] := by
        by_contra hne
        exact h (fallbackCarries_iff.2 ⟨hne, z, hz⟩)
      simp [hnone]
    · simp [h]
  · rfl

theorem noteReroute_tells {p : PatternId} {pos : SegmentPosition} {e : ChimeEntry} {b : State} (he : entryFor b p = some e)
    (h : FallbackCarries b e pos) (hfresh : e.rerouted = false) :
    ∃ z, e.zones.get z = true ∧ CallsForFallback b pos z ∧
      noteReroute p pos e.zones.toList b =
        post .chimeRerouted p.val
          ([byte (zoneCode (.cabin z)), byte (liveFallback b).length] ++ (liveFallback b).map (fun c => byte (chanCode c)))
          (modEntry p (fun e => { e with rerouted := true }) b) := by
  obtain ⟨hlive, z, hz⟩ := fallbackCarries_iff.1 h
  have hzone := List.mem_of_find?_eq_some hz
  refine ⟨z, mem_toList.1 hzone, callsFallback_iff.1 (List.find?_some hz), ?_⟩
  have hgo : ¬((e.rerouted || (liveFallback b).isEmpty) = true) := by simp [hfresh, hlive]
  simp only [noteReroute, he, hz, if_neg hgo, reroutedFields]

/-- The entries are marked at most (R95). -/
theorem noteReroute_entry (p q : PatternId) (pos : SegmentPosition) (zs : List Cabin) (m : Bool) (b : State) :
    (entryFor (noteReroute p pos zs b) q).map (fun y => { y with rerouted := m }) =
      (entryFor b q).map (fun y => { y with rerouted := m }) := by
  have hmarked : (entryFor (modEntry p (fun e => { e with rerouted := true }) b) q).map (fun y => { y with rerouted := m }) =
      (entryFor b q).map (fun y => { y with rerouted := m }) := by
    rw [entryFor_modEntry (f := fun e => { e with rerouted := true }) (fun _ => rfl)]
    split
    · rw [Option.map_map]
      rfl
    · rfl
  unfold noteReroute
  split
  · split
    · rfl
    · exact hmarked
  · rfl

/-- The entries of other patterns stand as they were. -/
theorem noteReroute_other {p q : PatternId} (h : q ≠ p) (pos : SegmentPosition) (zs : List Cabin) (b : State) :
    entryFor (noteReroute p pos zs b) q = entryFor b q := by
  have hmarked : entryFor (modEntry p (fun e => { e with rerouted := true }) b) q = entryFor b q := by
    rw [entryFor_modEntry (f := fun e => { e with rerouted := true }) (fun _ => rfl), if_neg h]
  unfold noteReroute
  split
  · split
    · rfl
    · exact hmarked
  · rfl

/-- The reroute of R95, seen from an earlier state of the part with the room that the queue had then. -/
theorem noteReroute_rerouted {u b : State} {e y : ChimeEntry} {pos : SegmentPosition} {room : Nat} (hsetup : SameSetup u b)
    (he : entryFor b e.pattern = some y) (hzones : y.zones = e.zones) (hmark : y.rerouted = e.rerouted)
    (hroom : u.cp.reports.length < room → b.cp.reports.length < 24) :
    Rerouted u (noteReroute e.pattern pos e.zones.toList b) e pos room := by
  have hcarries : FallbackCarries b y pos ↔ FallbackCarries u e pos := by
    simp only [FallbackCarries, hsetup.liveFallback_eq, hsetup.callsFor_iff, hzones]
  rw [← hzones]
  refine ⟨fun hcarry => ?_, fun hnot => ?_⟩
  · cases hold : y.rerouted with
    | true =>
      rw [noteReroute_quiet he (.inr hold), he]
      exact ⟨congrArg some hold, fun hfresh => by simp [← hmark, hold] at hfresh⟩
    | false =>
      obtain ⟨z, hz, hcalls, heq⟩ := noteReroute_tells he (hcarries.2 hcarry) hold
      rw [heq]
      refine ⟨?_, fun _ hlt => ⟨z, Cabin.mem_all z, hzones ▸ hz, (hsetup.callsFor_iff pos z).1 hcalls, ?_⟩⟩
      · show (entryFor (modEntry e.pattern (fun e => { e with rerouted := true }) b) e.pattern).map ChimeEntry.rerouted = some true
        rw [entryFor_modEntry (f := fun e => { e with rerouted := true }) (fun _ => rfl), if_pos rfl, he]
        rfl
      · rw [← hsetup.liveFallback_eq]
        exact mem_post_of_event (s := modEntry e.pattern _ b) rfl (hroom hlt)
  · rw [noteReroute_quiet he (.inl fun hcarry => hnot (hcarries.1 hcarry)), he]
    exact congrArg some hmark

/-! ### A tone begins (R92, R94 to R96) -/

/-- A voice at the beginning of the tone of its segment. -/
def Voice.begun (s : State) (x : Voice) (zs : List Cabin) : Voice :=
  { x with
    phase := .tone, remaining := (presentSegment s x).duration, level := (presentSegment s x).level
    paths := chimePaths s (presentSegment s x).level (presentSegment s x).position zs [] }

theorem beginTone_eq (v : VoiceId) (x : Voice) (s : State) :
    beginTone v x s = noteReroute x.pattern (presentSegment s x).position (zonesOf s x.pattern)
      (setVoice v (some (x.begun s (zonesOf s x.pattern))) s) := rfl

theorem voiceOf_beginTone_self (v : VoiceId) (x : Voice) (s : State) :
    voiceOf (beginTone v x s) v = some (x.begun s (zonesOf s x.pattern)) := by
  rw [beginTone_eq, voiceOf_noteReroute, voiceOf_setVoice, if_pos rfl]

theorem entryFor_setVoice (v : VoiceId) (x : Option Voice) (s : State) : entryFor (setVoice v x s) = entryFor s := by
  funext p
  rw [entryFor, entryFor, (setVoice_queue v x s).1]

theorem beginTone_entry (v : VoiceId) (x : Voice) (q : PatternId) (m : Bool) (s : State) :
    (entryFor (beginTone v x s) q).map (fun y => { y with rerouted := m }) =
      (entryFor s q).map (fun y => { y with rerouted := m }) := by
  rw [beginTone_eq, noteReroute_entry, entryFor_setVoice]

theorem beginTone_other {v : VoiceId} {x : Voice} {q : PatternId} (h : q ≠ x.pattern) (s : State) :
    entryFor (beginTone v x s) q = entryFor s q := by
  rw [beginTone_eq, noteReroute_other h, entryFor_setVoice]

/-- A voice that begins a tone of an entry's pattern begins it on the channels chosen, and CHIME_REROUTED tells of the
fallback channels. -/
theorem beginTone_begins {u a : State} {v : VoiceId} {x : Voice} {e y : ChimeEntry} {room : Nat} (hsetup : SameSetup u a)
    (hx : x.pattern = e.pattern) (he : entryFor a e.pattern = some y) (hzones : y.zones = e.zones)
    (hmark : y.rerouted = e.rerouted) (hroom : u.cp.reports.length < room → a.cp.reports.length < 24) :
    ToneBegun u (beginTone v x a) v e x.rep x.seg (presentSegment u x) ∧
      Rerouted u (beginTone v x a) e (presentSegment u x).position room := by
  have hzonesOf : zonesOf a x.pattern = e.zones.toList := by
    simp only [zonesOf, hx, he, hzones]
  have hsegment : presentSegment a x = presentSegment u x := congrFun hsetup.presentSegment_eq x
  constructor
  · rw [ToneBegun, voiceOf_beginTone_self, hzonesOf, Voice.begun, hsegment]
    refine ⟨by simp [hx], fun y hy => ?_⟩
    obtain rfl := Option.some.inj (Option.mem_toList.1 hy)
    exact hsetup.chosen (chimePaths_chosen e.zones)
  · rw [beginTone_eq, hzonesOf, hx, hsegment]
    refine noteReroute_rerouted (hsetup.trans (setVoice_within v _ a).sameSetup) ?_ hzones hmark hroom
    rw [entryFor_setVoice, he]

end Sys2Proof.Machine
end

section
/-! SUPPORT. The voices' turns (R90, R91, R93): what a voice that takes an entry leaves, which entry it takes, and what the look
at the queue makes of an idle voice and of two playing ones. -/

-- One declaration at a time: together they would start more threads than the check's memory limit has stacks for.
set_option Elab.async false

namespace Sys2Proof.Machine

/-! ### A voice that plays on -/

/-- From one state to another a voice has gone on with its pattern: its tone and its entry are the same, the entry's zones have
kept their CHIME entries, and event reports have stayed in the queue. -/
structure PlaysOn (v : VoiceId) (p : PatternId) (a t : State) : Prop where
  voice : (voiceOf t v).map Voice.ungained = (voiceOf a v).map Voice.ungained
  entry : entryFor t p = entryFor a p
  told : ∀ r ∈ a.cp.reports, r.kind.isChange = false → r ∈ t.cp.reports
  sounds : ∀ y, entryFor a p = some y → y.voice = some v → ∀ z, y.zones.get z = true →
    holdsClass (listOf a (.cabin z)) .chime = true → holdsClass (listOf t (.cabin z)) .chime = true

section
variable {v : VoiceId} {p : PatternId} {a b t : State}

theorem PlaysOn.refl : PlaysOn v p a a := ⟨rfl, rfl, fun _ h _ => h, fun _ _ _ _ _ h => h⟩

theorem PlaysOn.trans (h : PlaysOn v p a b) (h' : PlaysOn v p b t) : PlaysOn v p a t :=
  ⟨h'.voice.trans h.voice, h'.entry.trans h.entry, fun r hr he => h'.told r (h.told r hr he) he,
    fun y hy hv z hz hc => h'.sounds y (h.entry.trans hy) hv z hz (h.sounds y hy hv z hz hc)⟩

/-- The queue and the voices are the same but for gains, and so are the lists. -/
theorem PlaysOn.of_same (hc : Block.same .chimes a t) (hzr : t.zr = a.zr)
    (htold : ∀ r ∈ a.cp.reports, r.kind.isChange = false → r ∈ t.cp.reports) : PlaysOn v p a t := by
  obtain ⟨hqueue, hv1, hv2, _⟩ := hc
  refine ⟨?_, by rw [entryFor, entryFor, hqueue], htold, fun y _ _ z _ hheld => ?_⟩
  · cases v with
    | v1 => exact hv1
    | v2 => exact hv2
  · have hlist : listOf t (.cabin z) = listOf a (.cabin z) := by simp only [listOf, hzr]
    rwa [hlist]

theorem settle_playsOn : PlaysOn v p a (settle a) :=
  .of_same ((settle_within a).same .chimes (by decide)) rfl fun _ h _ => h

theorem accepting_playsOn (k : Kind) (body : Bytes) : PlaysOn v p a (a.accepting k body) :=
  .of_same ((accepting_keepsBut a k body) .chimes (by decide)) rfl fun _ h _ => h

/-- What has begun in a voice stands while the voice plays on. -/
theorem ToneBegun.playsOn {u : State} {e : ChimeEntry} {rep seg : Nat} {g : Segment} (h : ToneBegun u a v e rep seg g)
    (hp : PlaysOn v p a t) : ToneBegun u t v e rep seg g := by
  obtain ⟨hstate, hchosen⟩ := h
  have hread {α : Type} (f : Voice → α) (hf : ∀ x, f x.ungained = f x) : (voiceOf t v).map f = (voiceOf a v).map f := by
    have hmap := congrArg (Option.map f) hp.voice
    rw [Option.map_map, Option.map_map] at hmap
    simpa only [Function.comp_def, hf] using hmap
  refine ⟨(hread _ fun _ => rfl).trans hstate, fun y hy => ?_⟩
  have hpaths := hread (fun x => x.paths.map (fun q => (q.zone, q.chan))) fun x => by
    simp only [Voice.ungained, List.map_map, Function.comp_def]
  rw [Option.mem_toList.1 hy] at hpaths
  obtain ⟨x, hx, hxy⟩ := Option.map_eq_some_iff.1 hpaths.symm
  obtain ⟨hnodup, hmem, hcover⟩ := hchosen x (Option.mem_toList.2 hx)
  have hchan : x.paths.map ChimePath.chan = y.paths.map ChimePath.chan := by
    have := congrArg (List.map Prod.snd) hxy
    rwa [List.map_map, List.map_map] at this
  refine ⟨hchan ▸ hnodup, fun q hq => ?_, fun z hz c hc hzone hcarry => hchan ▸ hcover z hz c hc hzone hcarry⟩
  have hin : (q.zone, q.chan) ∈ x.paths.map (fun q => (q.zone, q.chan)) := hxy ▸ List.mem_map_of_mem hq
  obtain ⟨r, hr, hrq⟩ := List.mem_map.1 hin
  obtain ⟨hz, hc⟩ := Prod.mk.inj hrq
  have hr' := hmem r hr
  rwa [hz, hc] at hr'

theorem Rerouted.playsOn {u : State} {e : ChimeEntry} {pos : SegmentPosition} {room : Nat} (h : Rerouted u a e pos room)
    (hp : PlaysOn v e.pattern a t) : Rerouted u t e pos room := by
  obtain ⟨hcarried, hnot⟩ := h
  rw [← hp.entry] at hnot
  refine ⟨fun hcarry => ?_, hnot⟩
  obtain ⟨hmark, htold⟩ := hcarried hcarry
  refine ⟨hp.entry ▸ hmark, fun hfresh hroom => ?_⟩
  obtain ⟨z, hz, hzone, hcalls, hmem⟩ := htold hfresh hroom
  exact ⟨z, hz, hzone, hcalls, hp.told _ hmem rfl⟩

theorem EntryTaken.playsOn {u : State} {e : ChimeEntry} {room : Nat} (h : EntryTaken u a v e room)
    (hp : PlaysOn v e.pattern a t) : EntryTaken u t v e room := by
  obtain ⟨htone, hreroute, hstart, hentry, hheld⟩ := h
  refine ⟨htone.playsOn hp, Rerouted.playsOn hreroute hp, fun y hy => ?_, hp.entry ▸ hentry, fun z hz hzone => ?_⟩
  · have hmap := congrArg (Option.map Voice.start) hp.voice
    rw [Option.map_map, Option.map_map, Option.mem_toList.1 hy] at hmap
    obtain ⟨x, hx, hxy⟩ := Option.map_eq_some_iff.1 hmap.symm
    have hle := hstart x (Option.mem_toList.2 hx)
    exact hle.trans_eq hxy
  · obtain ⟨y, hy, hye⟩ := Option.map_eq_some_iff.1 hentry
    have hvoice : y.voice = some v := congrArg ChimeEntry.voice hye
    have hzones : y.zones = e.zones := (ChimeEntry.mk.inj hye).2.1
    exact hp.sounds y hy hvoice z (hzones ▸ hzone) (hheld z hz hzone)

theorem NextTaken.playsOn {u : State} (h : NextTaken u a v) (hp : ∀ p, PlaysOn v p a t) : NextTaken u t v := by
  obtain ⟨hnone, htaken⟩ := h
  refine ⟨fun hfirst => ?_, fun horder hturn w hw => EntryTaken.playsOn (htaken horder hturn w hw) (hp _)⟩
  have hmap := (hp default).voice
  rw [hnone hfirst] at hmap
  exact Option.map_eq_none_iff.1 hmap

end

/-! ### Reports of the CHIME entries -/

theorem removeChimes_length_le (s : State) : (removeChimes s).cp.reports.length ≤ s.cp.reports.length + 3 :=
  (relistAll_length_le (removeFrom .chime) _ s).trans (Nat.add_le_add_left (List.length_filter_le _ Cabin.all) _)

/-! ### A voice takes an entry (R90) -/

/-- The voice with which an entry is taken, before its tone begins. -/
def takingVoice (s : State) (e : ChimeEntry) : Voice :=
  { pattern := e.pattern, rep := e.reached, seg := 1, phase := .tone, remaining := 0, start := s.chimes.nextStart
    level := 0, paths := [] }

/-- The state in which an entry has been given to a voice, with the next start mark. -/
def entryGiven (v : VoiceId) (e : ChimeEntry) (s : State) : State :=
  (modEntry e.pattern (fun e => { e with voice := some v, played := true }) s).modChimes
    (fun c => { c with nextStart := c.nextStart + 1 })

theorem takeEntry_of_some {v : VoiceId} {s : State} {e : ChimeEntry} (h : firstQueued s = some e) :
    takeEntry v s = insertChimes (beginTone v (takingVoice s e) (entryGiven v e s)) := by
  simp only [takeEntry, h]
  rfl

theorem takeEntry_of_none {v : VoiceId} {s : State} (h : firstQueued s = none) : takeEntry v s = s := by
  simp only [takeEntry, h]

section
variable {s : State} {v : VoiceId} {e : ChimeEntry}

theorem entryGiven_within : Within [.chimes] s (entryGiven v e s) :=
  ((modEntry_within _ _ s).trans (modChimes_within _ _)).mono

theorem entryFor_entryGiven (q : PatternId) :
    entryFor (entryGiven v e s) q =
      if q = e.pattern then (entryFor s q).map (fun e => { e with voice := some v, played := true }) else entryFor s q :=
  entryFor_modEntry (f := fun e => { e with voice := some v, played := true }) (fun _ => rfl) s

theorem voiceOf_entryGiven (w : VoiceId) : voiceOf (entryGiven v e s) w = voiceOf s w := by cases w <;> rfl

/-- The first waiting entry is the entry of its pattern. -/
theorem entryFor_firstQueued (hs : Voiced s) (he : firstQueued s = some e) : entryFor s e.pattern = some e := by
  obtain ⟨hmem, _⟩ := firstQueued_waits he
  have hsome : (entryFor s e.pattern).isSome = true := List.find?_isSome.2 ⟨e, hmem, beq_iff_eq.2 rfl⟩
  obtain ⟨y, hy⟩ := Option.isSome_iff_exists.1 hsome
  rw [hy, hs.eq_of_pattern (List.mem_of_find?_eq_some hy) hmem (entryFor_pattern hy)]

/-- A voice that takes an entry plays it from its first segment, and its zones hold CHIME entries. -/
theorem takeEntry_takes {u : State} {room : Nat} (hsetup : SameSetup u s) (hs : Voiced s) (he : firstQueued s = some e)
    (hstart : u.chimes.nextStart ≤ s.chimes.nextStart) (hroom : u.cp.reports.length < room → s.cp.reports.length < 24) :
    EntryTaken u (takeEntry v s) v e room := by
  have hfor := entryFor_firstQueued hs he
  have hgiven : entryFor (entryGiven v e s) e.pattern = some { e with voice := some v, played := true } := by
    rw [entryFor_entryGiven, if_pos rfl, hfor]
    rfl
  obtain ⟨htone, hreroute⟩ := beginTone_begins (v := v) (x := takingVoice s e) (e := e)
    (hsetup.trans (entryGiven_within (v := v) (e := e)).sameSetup) rfl hgiven rfl rfl hroom
  have htaken : EntryTaken u (takeEntry v s) v e room ↔
      EntryTaken u (insertChimes (beginTone v (takingVoice s e) (entryGiven v e s))) v e room := by
    rw [takeEntry_of_some he]
  have hplays : PlaysOn v e.pattern (beginTone v (takingVoice s e) (entryGiven v e s))
      (insertChimes (beginTone v (takingVoice s e) (entryGiven v e s))) :=
    { voice := by rw [voiceOf_congr (insertChimes_chimes _)]
      entry := entryFor_congr (insertChimes_chimes _) _
      told := fun r hr he => (insertChimes_within _).posted.mem_of_event hr he
      sounds := fun y _ _ z _ hheld => by rw [holdsChime_insertChimes, hheld, Bool.true_or] }
  rw [htaken]
  have hentry : (entryFor (insertChimes (beginTone v (takingVoice s e) (entryGiven v e s))) e.pattern).map
      (fun y => { y with rerouted := e.rerouted }) = some { e with voice := some v, played := true } := by
    rw [hplays.entry, beginTone_entry, hgiven]
    rfl
  refine ⟨htone.playsOn hplays, Rerouted.playsOn hreroute hplays, fun y hy => ?_, hentry, fun z _ hz => ?_⟩
  · rw [voiceOf_congr (insertChimes_chimes _), voiceOf_beginTone_self] at hy
    obtain rfl := Option.some.inj (Option.mem_toList.1 hy)
    exact hstart
  · obtain ⟨y, hy, hye⟩ := Option.map_eq_some_iff.1 hentry
    have hvoice : y.voice = some v := congrArg ChimeEntry.voice hye
    have hzones : y.zones = e.zones := (ChimeEntry.mk.inj hye).2.1
    exact insertChimes_cover _ z (playsIn_iff.2 ⟨y, List.mem_of_find?_eq_some hy, by simp [hvoice], hzones ▸ hz⟩)

theorem voiceOf_takeEntry_other {w : VoiceId} (hw : w ≠ v) : voiceOf (takeEntry v s) w = voiceOf s w := by
  cases he : firstQueued s with
  | none => rw [takeEntry_of_none he]
  | some e => rw [takeEntry_of_some he, voiceOf_congr (insertChimes_chimes _), (voiceOf_beginTone v w _ _).2 hw,
      voiceOf_entryGiven]

/-- While one voice takes an entry, the other plays on. -/
theorem takeEntry_playsOn {w : VoiceId} {p : PatternId} (hw : w ≠ v) (hp : ∀ e, firstQueued s = some e → p ≠ e.pattern) :
    PlaysOn w p s (takeEntry v s) := by
  cases he : firstQueued s with
  | none =>
    rw [takeEntry_of_none he]
    exact .refl
  | some e =>
    have hpe := hp e he
    refine ⟨by rw [voiceOf_takeEntry_other hw], ?_, fun r hr hk => (takeEntry_within v s).posted.mem_of_event hr hk,
      fun y _ _ z _ hheld => ?_⟩ <;> rw [takeEntry_of_some he]
    · rw [entryFor_congr (insertChimes_chimes _), beginTone_other (x := takingVoice s e) hpe, entryFor_entryGiven, if_neg hpe]
    · have hlist : listOf (beginTone v (takingVoice s e) (entryGiven v e s)) (.cabin z) = listOf s (.cabin z) := by
        simp only [listOf, ((entryGiven_within (v := v) (e := e)).trans (beginTone_within v (takingVoice s e) _)).zr_eq]
      rw [holdsChime_insertChimes, hlist, hheld, Bool.true_or]

/-- A voice that takes an entry leaves no other waiting that did not wait before. -/
theorem keysOf_takeEntry (v : VoiceId) (s : State) :
    keysOf (takeEntry v s) = match firstQueued s with
      | none => keysOf s
      | some e => (keysOf s).map (fun k => if k.1 == e.pattern then (k.1, some v) else k) := by
  cases he : firstQueued s with
  | none => rw [takeEntry_of_none he]
  | some e =>
    rw [takeEntry_of_some he, keysOf_congr (congrArg ChimeUnit.queue (insertChimes_chimes _)), keysOf_beginTone]
    exact (keysOf_congr rfl).trans
      (keysOf_modEntry_voice (f := fun e => { e with voice := some v, played := true }) (some v) (fun _ => ⟨rfl, rfl⟩) s)

/-- Who waits after a voice has taken an entry waited before, and is not the entry taken. -/
theorem waits_of_takeEntry {p : PatternId} (h : (p, none) ∈ keysOf (takeEntry v s)) :
    (p, none) ∈ keysOf s ∧ ∀ e, firstQueued s = some e → p ≠ e.pattern := by
  rw [keysOf_takeEntry] at h
  cases he : firstQueued s with
  | none =>
    rw [he] at h
    exact ⟨h, fun _ hno => nomatch hno⟩
  | some e =>
    rw [he] at h
    obtain ⟨k, hk, hkey⟩ := List.mem_map.1 h
    split at hkey
    · simp at hkey
    · rename_i hne
      subst hkey
      refine ⟨hk, fun y hy => ?_⟩
      obtain rfl := Option.some.inj hy
      simpa using hne

theorem firstQueued_eq_none_iff : firstQueued s = none ↔ ∀ p, (p, none) ∉ keysOf s := by
  simp only [firstQueued, List.find?_eq_none, mem_keysOf, not_exists, not_and, Bool.not_eq_true, Option.isNone_eq_false_iff]
  refine ⟨fun h p y hy _ hv => by simpa [hv] using h y hy, fun h y hy => ?_⟩
  exact Option.isSome_iff_ne_none.2 (h y.pattern y hy rfl)

end

/-! ### Which entry is the first (R86, R90) -/

/-- In a queue in its order the first waiting entry outranks every other. -/
theorem firstQueued_outranks {s : State} {e : ChimeEntry} (hs : RanksInOrder s) (he : firstQueued s = some e)
    {p : PatternId} (hp : (p, none) ∈ keysOf s) : priorityOf s e.pattern ≤ priorityOf s p := by
  obtain ⟨y, hy, rfl, hwaits⟩ := mem_keysOf.1 hp
  obtain ⟨_, l, r, hqueue, hl⟩ := List.find?_eq_some_iff_append.1 he
  have hsorted := List.pairwise_map.1 hs.sorted
  rw [hqueue, List.pairwise_append, List.pairwise_cons] at hsorted
  obtain ⟨_, ⟨hbehind, _⟩, _⟩ := hsorted
  rw [hqueue, List.mem_append, List.mem_cons] at hy
  rcases hy with hy | rfl | hy
  · simpa [hwaits] using hl y hy
  · exact le_rfl
  · rcases hbehind y hy with hlt | ⟨heq, _⟩
    · exact hlt.le
    · exact heq.le

/-! ### The voices' look (R90, R91) -/

theorem takeIfIdle_of_playing {v : VoiceId} {s : State} {x : Voice} (h : voiceOf s v = some x) : takeIfIdle v s = s := by
  simp [takeIfIdle, h]

theorem takeIfIdle_of_idle {v : VoiceId} {s : State} (h : voiceOf s v = none) : takeIfIdle v s = takeEntry v s := by
  simp [takeIfIdle, h]

theorem preempt_of_none_waiting {s : State} (h : firstQueued s = none) : preempt s = s := by
  unfold preempt
  rw [h]
  split
  · simp_all
  · rfl

/-- The state in which a voice has left the entry of the pattern it played, which waits again. -/
def released (v : VoiceId) (p : PatternId) (s : State) : State :=
  setVoice v none (modEntry p (fun e => { e with voice := none }) s)

/-- A waiting entry of strictly higher priority takes the lower-ranked voice. -/
theorem preempt_of_higher {s : State} {v : VoiceId} {x : Voice} {e : ChimeEntry} (hlow : lowerRanked s = some (v, x))
    (he : firstQueued s = some e) (hprio : priorityOf s e.pattern < priorityOf s x.pattern) :
    preempt s = removeChimes (takeEntry v (released v x.pattern s)) := by
  simp only [preempt, hlow, he, if_pos hprio, released]

/-- Where the first waiting entry has no strictly higher priority than the lower-ranked voice, nothing happens. -/
theorem preempt_of_not_higher {s : State} (h : ∀ v x e, lowerRanked s = some (v, x) → firstQueued s = some e →
    ¬priorityOf s e.pattern < priorityOf s x.pattern) : preempt s = s := by
  unfold preempt
  split
  · rename_i v x e hlow he
    exact if_neg (h v x e hlow he)
  · rfl

section
variable {s : State} {v : VoiceId} {x : Voice}

theorem released_within (p : PatternId) : Within [.chimes] s (released v p s) :=
  ((modEntry_within _ _ s).trans (setVoice_within _ _ _)).mono

theorem entryFor_released (p q : PatternId) :
    entryFor (released v p s) q = if q = p then (entryFor s q).map (fun e => { e with voice := none }) else entryFor s q := by
  rw [released, entryFor_setVoice, entryFor_modEntry (f := fun e => { e with voice := none }) (fun _ => rfl)]

theorem voiceOf_released (p : PatternId) (w : VoiceId) : voiceOf (released v p s) w = if w = v then none else voiceOf s w := by
  rw [released, voiceOf_setVoice, voiceOf_modEntry]

theorem keysOf_released (p : PatternId) :
    keysOf (released v p s) = (keysOf s).map (fun k => if k.1 == p then (k.1, none) else k) := by
  rw [released, keysOf_setVoice]
  exact keysOf_modEntry_voice (f := fun e => { e with voice := none }) none (fun _ => ⟨rfl, rfl⟩) s

theorem released_paired (hs : Paired s) (hx : voiceOf s v = some x) : Paired (released v x.pattern s) :=
  hs.release (p := x.pattern) (by rw [hx]; rfl) (keysOf_released _) (by rw [voiceOf_released, if_pos rfl])
    fun w hw => by rw [voiceOf_released, if_neg hw]

/-- A voice plays on while the other one's entry waits again. -/
theorem released_playsOn {w : VoiceId} {p q : PatternId} (hw : w ≠ v) (hq : q ≠ p) : PlaysOn w q s (released v p s) := by
  refine ⟨by rw [voiceOf_released, if_neg hw], by rw [entryFor_released, if_neg hq], fun r hr _ => hr,
    fun y _ _ z _ hheld => ?_⟩
  have hlist : listOf (released v p s) (.cabin z) = listOf s (.cabin z) := by simp only [listOf, (released_within p).zr_eq]
  rwa [hlist]

/-- The CHIME entries of a playing entry's zones stay when those where no voice plays are removed. -/
theorem removeChimes_playsOn (p : PatternId) : PlaysOn v p s (removeChimes s) := by
  refine ⟨by rw [voiceOf_congr (removeChimes_chimes s)], entryFor_congr (removeChimes_chimes s) p,
    fun r hr hk => (removeChimes_within s).posted.mem_of_event hr hk, fun y hy hv z hz hheld => ?_⟩
  rw [holdsChime_removeChimes, hheld, Bool.true_and]
  exact playsIn_iff.2 ⟨y, List.mem_of_find?_eq_some hy, by simp [hv], hz⟩

/-- A playing voice that no waiting entry outranks plays on through the look for a preemption. -/
theorem preempt_playsOn (hs : Paired s) (hx : voiceOf s v = some x)
    (hrank : ∀ p, (p, none) ∈ keysOf s → priorityOf s x.pattern ≤ priorityOf s p) : PlaysOn v x.pattern s (preempt s) := by
  have hkey : (x.pattern, some v) ∈ keysOf s := hs.named _ v (by rw [hx]; rfl)
  cases hlow : lowerRanked s with
  | none =>
    rw [preempt_of_not_higher fun _ _ _ h => nomatch hlow.symm.trans h]
    exact .refl
  | some low =>
    obtain ⟨w, y⟩ := low
    cases he : firstQueued s with
    | none =>
      rw [preempt_of_none_waiting he]
      exact .refl
    | some e =>
      by_cases hprio : priorityOf s e.pattern < priorityOf s y.pattern
      · have hy := lowerRanked_plays hlow
        obtain ⟨hmem, hwaits⟩ := firstQueued_waits he
        have hv : v ≠ w := by
          rintro rfl
          obtain rfl := Option.some.inj (hx.symm.trans hy)
          exact absurd hprio (Nat.not_lt.2 (hrank e.pattern (mem_keysOf.2 ⟨e, hmem, rfl, hwaits⟩)))
        have hp : x.pattern ≠ y.pattern := fun heq => by
          have hother : (y.pattern, some w) ∈ keysOf s := hs.named _ w (by rw [hy]; rfl)
          exact hv (Option.some.inj (hs.voiced.voice_unique (heq ▸ hkey) hother))
        rw [preempt_of_higher hlow he hprio]
        refine ((released_playsOn hv hp).trans (takeEntry_playsOn hv fun f hf heq => ?_)).trans (removeChimes_playsOn _)
        obtain ⟨hfmem, hfwaits⟩ := firstQueued_waits hf
        have hreleased : (x.pattern, some v) ∈ keysOf (released w y.pattern s) := by
          rw [keysOf_released]
          exact List.mem_map.2 ⟨_, hkey, by simp [hp]⟩
        have hfkey : (x.pattern, none) ∈ keysOf (released w y.pattern s) := mem_keysOf.2 ⟨f, hfmem, heq.symm, hfwaits⟩
        exact Option.some_ne_none v ((released_paired hs hy).voiced.voice_unique hreleased hfkey)
      · rw [preempt_of_not_higher fun w' y' e' hlow' he' => ?_]
        · exact .refl
        · obtain ⟨rfl, rfl⟩ := Prod.mk.inj (Option.some.inj (hlow.symm.trans hlow'))
          obtain rfl := Option.some.inj (he.symm.trans he')
          exact hprio

end

section
variable {s : State} {v : VoiceId} {e : ChimeEntry}

/-- With no entry waiting the voices go on. -/
theorem voicesLook_of_none_waiting (h : firstQueued s = none) : voicesLook s = s := by
  have htake (w : VoiceId) : takeIfIdle w s = s := by
    unfold takeIfIdle
    rw [takeEntry_of_none h, ite_self]
  rw [voicesLook, htake, htake, preempt_of_none_waiting h]

theorem voicesLook_of_playing {x y : Voice} (h1 : voiceOf s .v1 = some x) (h2 : voiceOf s .v2 = some y) :
    voicesLook s = preempt s := by
  rw [voicesLook, takeIfIdle_of_playing h1, takeIfIdle_of_playing h2]

/-- What a voice's turn has led to: it has taken the first waiting entry, and then the other voice may have, where it was
idle. -/
inductive TurnTaken (v : VoiceId) (s : State) : State → Prop where
  | alone : TurnTaken v s (takeEntry v s)
  | both {w : VoiceId} (hw : w ≠ v) (hidle : voiceOf (takeEntry v s) w = none) :
    TurnTaken v s (takeEntry w (takeEntry v s))

/-- An idle voice's turn: V1's comes first, and V2's where V1 plays; then a preemption may follow (R90, R91). -/
theorem voicesLook_turn (hidle : voiceOf s v = none) (hturn : v = .v1 ∨ s.chimes.v1 ≠ none) :
    ∃ b, TurnTaken v s b ∧ voicesLook s = preempt b := by
  cases v with
  | v1 =>
    rw [voicesLook, takeIfIdle_of_idle hidle]
    cases h2 : voiceOf (takeEntry .v1 s) .v2 with
    | none => exact ⟨_, .both (by decide) h2, by rw [takeIfIdle_of_idle h2]⟩
    | some x => exact ⟨_, .alone, by rw [takeIfIdle_of_playing h2]⟩
  | v2 =>
    obtain ⟨x, hx⟩ := Option.ne_none_iff_exists'.1 (hturn.resolve_left (by decide))
    exact ⟨_, .alone, by rw [voicesLook, takeIfIdle_of_playing (show voiceOf s .v1 = some x from hx), takeIfIdle_of_idle hidle]⟩

/-- Where one entry alone waits, an idle voice takes it, and the other voice goes on. -/
theorem voicesLook_of_one_waiting (hidle : voiceOf s v = none) (hturn : v = .v1 ∨ s.chimes.v1 ≠ none)
    (he : firstQueued s = some e) (honly : ∀ p, (p, none) ∈ keysOf s → p = e.pattern) : voicesLook s = takeEntry v s := by
  have hnone : firstQueued (takeEntry v s) = none := firstQueued_eq_none_iff.2 fun p hp => by
    obtain ⟨hold, hother⟩ := waits_of_takeEntry hp
    exact hother e he (honly p hold)
  obtain ⟨b, hb, heq⟩ := voicesLook_turn hidle hturn
  rw [heq]
  cases hb with
  | alone => exact preempt_of_none_waiting hnone
  | both _ _ => rw [takeEntry_of_none hnone, preempt_of_none_waiting hnone]

/-- The other voice's turn leaves the entry taken playing, and none waits that did not. -/
theorem TurnTaken.spec {b : State} (h : TurnTaken v s b) (hs : Paired s) (hidle : voiceOf s v = none)
    (he : firstQueued s = some e) :
    Paired b ∧ PlaysOn v e.pattern (takeEntry v s) b ∧ SameSetup s b ∧ ∀ p, (p, none) ∈ keysOf b → (p, none) ∈ keysOf s := by
  have hpaired := takeEntry_paired hs hidle
  cases h with
  | alone => exact ⟨hpaired, .refl, (takeEntry_within v s).sameSetup, fun p hp => (waits_of_takeEntry hp).1⟩
  | both hw hfree =>
    refine ⟨takeEntry_paired hpaired hfree, takeEntry_playsOn (Ne.symm hw) fun f hf heq => ?_,
      (takeEntry_within v s).sameSetup.trans (takeEntry_within _ _).sameSetup,
      fun p hp => (waits_of_takeEntry (waits_of_takeEntry hp).1).1⟩
    obtain ⟨hmem, hwaits⟩ := firstQueued_waits hf
    exact (waits_of_takeEntry (mem_keysOf.2 ⟨f, hmem, rfl, hwaits⟩)).2 e he heq.symm

/-- An idle voice at its turn takes the first waiting entry, which no other outranks, and plays it. -/
theorem voicesLook_takes {u : State} {room : Nat} (hsetup : SameSetup u s) (hs : Paired s) (hidle : voiceOf s v = none)
    (hturn : v = .v1 ∨ s.chimes.v1 ≠ none) (he : firstQueued s = some e)
    (hrank : ∀ p, (p, none) ∈ keysOf s → priorityOf s e.pattern ≤ priorityOf s p)
    (hstart : u.chimes.nextStart ≤ s.chimes.nextStart) (hroom : u.cp.reports.length < room → s.cp.reports.length < 24) :
    EntryTaken u (voicesLook s) v e room := by
  obtain ⟨b, hb, heq⟩ := voicesLook_turn hidle hturn
  obtain ⟨hpaired, hplays, hsame, hwaits⟩ := hb.spec hs hidle he
  have htaken : EntryTaken u b v e room := EntryTaken.playsOn (takeEntry_takes hsetup hs.voiced he hstart hroom) hplays
  obtain ⟨⟨hvoice, _⟩, _⟩ := id htaken
  obtain ⟨x, hx, hxe⟩ := Option.map_eq_some_iff.1 hvoice
  have hpattern : x.pattern = e.pattern := congrArg Prod.fst hxe
  have hon : PlaysOn v x.pattern b (preempt b) := preempt_playsOn hpaired hx fun p hp => by
    rw [hsame.priorityOf_eq, hpattern]
    exact hrank p (hwaits p hp)
  rw [heq]
  exact EntryTaken.playsOn htaken (hpattern ▸ hon)

/-- The lower-ranked of two playing voices (R91). -/
theorem lowerRanked_eq {o : VoiceId} {x y : Voice} (hvo : v ≠ o) (hx : voiceOf s v = some x) (hy : voiceOf s o = some y)
    (hlow : RanksLower s x y) : lowerRanked s = some (v, x) := by
  unfold lowerRanked
  cases v <;> cases o
  case v1.v2 =>
    rw [show s.chimes.v1 = some x from hx, show s.chimes.v2 = some y from hy]
    exact if_pos (hlow.imp_right fun ⟨hp, hs⟩ => ⟨hp.symm, hs⟩)
  case v2.v1 =>
    rw [show s.chimes.v1 = some y from hy, show s.chimes.v2 = some x from hx]
    refine if_neg ?_
    rintro (hlt | ⟨heq, hlt⟩) <;> rcases hlow with hlow | ⟨heq', hlow⟩ <;> omega
  all_goals exact absurd rfl hvo

theorem voicesLook_of_both {o : VoiceId} {x y : Voice} (hvo : v ≠ o) (hx : voiceOf s v = some x) (hy : voiceOf s o = some y) :
    voicesLook s = preempt s := by
  cases v <;> cases o
  case v1.v2 => exact voicesLook_of_playing hx hy
  case v2.v1 => exact voicesLook_of_playing hy hx
  all_goals exact absurd rfl hvo

/-- A waiting entry of strictly higher priority than the lower-ranked voice takes it, where it is the first still with that
voice's entry waiting; that entry waits with all it had, and the other voice plays on. -/
theorem voicesLook_preempts {u : State} {o : VoiceId} {x y : Voice} {room : Nat} (hsetup : SameSetup u s) (hs : Paired s)
    (hvo : v ≠ o) (hx : voiceOf s v = some x) (hy : voiceOf s o = some y) (hlow : RanksLower s x y)
    (he : firstQueued s = some e) (hfirst : firstQueued (released v x.pattern s) = some e)
    (hprio : priorityOf s e.pattern < priorityOf s x.pattern) (hstart : u.chimes.nextStart ≤ s.chimes.nextStart)
    (hroom : u.cp.reports.length < room → s.cp.reports.length < 24) :
    EntryTaken u (voicesLook s) v e room ∧ (voiceOf (voicesLook s) o).map Voice.ungained = (voiceOf s o).map Voice.ungained ∧
      entryFor (voicesLook s) x.pattern = (entryFor s x.pattern).map (fun y => { y with voice := none }) ∧
      ∀ z, holdsClass (listOf (voicesLook s) (.cabin z)) .chime = playsIn (voicesLook s) z := by
  have hreleased := released_paired hs hx
  have hxe : x.pattern ≠ e.pattern := fun heq => absurd hprio (by rw [heq]; exact lt_irrefl _)
  have hstart' : u.chimes.nextStart ≤ (released v x.pattern s).chimes.nextStart := by cases v <;> exact hstart
  rw [voicesLook_of_both hvo hx hy, preempt_of_higher (lowerRanked_eq hvo hx hy hlow) he hprio]
  refine ⟨?_, ?_, ?_, fun z => ?_⟩
  · exact EntryTaken.playsOn
      (takeEntry_takes (hsetup.trans (released_within _).sameSetup) hreleased.voiced hfirst hstart' hroom)
      (removeChimes_playsOn _)
  · have hother : PlaysOn o y.pattern (released v x.pattern s) (takeEntry v (released v x.pattern s)) :=
      takeEntry_playsOn hvo.symm fun f hf heq => by
        obtain rfl := Option.some.inj (hfirst.symm.trans hf)
        obtain ⟨hmem, hwaits⟩ := firstQueued_waits he
        have hkey : (e.pattern, some o) ∈ keysOf s := heq ▸ hs.named y.pattern o (by rw [hy]; rfl)
        exact Option.some_ne_none o (hs.voiced.voice_unique hkey (mem_keysOf.2 ⟨e, hmem, rfl, hwaits⟩))
    have hon := hother.trans (removeChimes_playsOn y.pattern)
    rw [hon.voice, voiceOf_released, if_neg hvo.symm]
  · rw [entryFor_congr (removeChimes_chimes _), takeEntry_of_some hfirst, entryFor_congr (insertChimes_chimes _),
      beginTone_other (x := takingVoice _ e) hxe, entryFor_entryGiven, if_neg hxe, entryFor_released, if_pos rfl]
  · refine removeChimes_follow ?_ z
    rw [takeEntry_of_some hfirst]
    exact insertChimes_cover _

/-- No voice is preempted by entries that do not outrank the lower-ranked one. -/
theorem voicesLook_of_outranking {o : VoiceId} {x y : Voice} (hvo : v ≠ o) (hx : voiceOf s v = some x)
    (hy : voiceOf s o = some y) (hlow : RanksLower s x y)
    (h : ∀ e, firstQueued s = some e → priorityOf s x.pattern ≤ priorityOf s e.pattern) : voicesLook s = s := by
  rw [voicesLook_of_both hvo hx hy, preempt_of_not_higher]
  intro w z e hw he
  obtain ⟨rfl, rfl⟩ := Prod.mk.inj (Option.some.inj ((lowerRanked_eq hvo hx hy hlow).symm.trans hw))
  exact Nat.not_lt.2 (h e he)

end

/-! ### The end of an entry (R89, R92, R93) -/

section
variable {u : State} {e : ChimeEntry} (cause : ChimeEnd)

theorem endEntry_nextStart : (endEntry e cause u).chimes.nextStart = u.chimes.nextStart := by
  unfold endEntry
  dsimp only
  rw [removeChimes_chimes]
  split
  · rename_i v _
    cases v <;> rfl
  · rfl

/-- An ended entry's removal, before the CHIME entries follow. -/
theorem endEntry_eq_removeChimes : ∃ w, Within [.chimes] u w ∧ w.cp = u.cp ∧
    endEntry e cause u = removeChimes
      (post .chimeEnded e.pattern.val (u8 cause.code ++ (cabinSetField e.zones ++ bit e.played)) w) := by
  unfold endEntry
  dsimp only
  split
  · exact ⟨_, ((setVoice_within _ _ u).trans (dropEntry_within _ _)).mono, rfl, rfl⟩
  · exact ⟨_, dropEntry_within _ u, rfl, rfl⟩

/-- CHIME_ENDED is queued where there is room (R92). -/
theorem endEntry_tells (hroom : u.cp.reports.length < 24) :
    Told (endEntry e cause u) .chimeEnded e.pattern.val (u8 cause.code ++ (cabinSetField e.zones ++ bit e.played)) := by
  obtain ⟨w, _, hcp, heq⟩ := endEntry_eq_removeChimes (u := u) (e := e) cause
  rw [Told, heq]
  exact (removeChimes_within _).posted.mem_of_event (mem_post_of_event (s := w) rfl (hcp ▸ hroom)) rfl

theorem endEntry_length_le : (endEntry e cause u).cp.reports.length ≤ u.cp.reports.length + 4 := by
  obtain ⟨w, _, hcp, heq⟩ := endEntry_eq_removeChimes (u := u) (e := e) cause
  have hpost := post_length_le .chimeEnded e.pattern.val (u8 cause.code ++ (cabinSetField e.zones ++ bit e.played)) w
  have hremoved := removeChimes_length_le
    (post .chimeEnded e.pattern.val (u8 cause.code ++ (cabinSetField e.zones ++ bit e.played)) w)
  rw [heq]
  rw [hcp] at hpost
  omega

/-- The end of a playing entry leaves who waits first. -/
theorem firstQueued_endEntry (hs : Voiced u) (he : e ∈ u.chimes.queue) (hv : e.voice ≠ none) :
    firstQueued (endEntry e cause u) = firstQueued u := by
  rw [firstQueued, (endEntry_queue e cause u).1, List.find?_filter]
  refine List.find?_congr fun x hx => ?_
  by_cases hp : x.pattern = e.pattern
  · obtain rfl := hs.eq_of_pattern hx he hp
    simp [Option.ne_none_iff_isSome.1 hv]
  · cases x.voice <;> simp [hp]

/-- After a playing entry has ended, its voice takes the first waiting entry, or stays idle (R89, R92). -/
theorem endEntry_nextTaken {v : VoiceId} (hs : Paired u) (he : e ∈ u.chimes.queue) (hv : e.voice = some v) :
    NextTaken u (voicesLook (endEntry e cause u)) v := by
  have hfirst := firstQueued_endEntry cause hs.voiced he (by rw [hv]; exact Option.some_ne_none v)
  have hended := endEntry_paired cause hs (hs.agrees he)
  have hidle : voiceOf (endEntry e cause u) v = none := by rw [voiceOf_endEntry_eq, if_pos hv]
  constructor
  · intro hnone
    rw [voicesLook_of_none_waiting (hfirst.trans hnone), hidle]
  · intro horder hturn w hw
    have hwfirst : firstQueued (endEntry e cause u) = some w := hfirst.trans (Option.mem_toList.1 hw)
    have hranks : RanksInOrder (endEntry e cause u) :=
      ((chimeOrderOk_iff u).1 horder).1.thinned (endEntry_thinned e cause u) (by rw [(endEntry_within e cause u).patterns_eq])
    have hlen := endEntry_length_le (u := u) (e := e) cause
    refine voicesLook_takes (endEntry_within e cause u).sameSetup hended hidle ?_ hwfirst
      (fun p hp => firstQueued_outranks hranks hwfirst hp) (endEntry_nextStart cause).ge (fun hroom => by omega)
    by_cases h1 : v = .v1
    · exact .inl h1
    · have hv1 : voiceOf (endEntry e cause u) .v1 = u.chimes.v1 := by
        rw [voiceOf_endEntry_eq, if_neg fun h => h1 (Option.some.inj (hv.symm.trans h))]
        rfl
      exact .inr fun hbusy => hturn.resolve_left h1 (hv1.symm.trans hbusy)

end

/-! ### A new entry among those that wait (R87) -/

section
variable {u : State} {n : ChimeEntry}

/-- Whether an entry has a new one's priority or a higher one, and so stands ahead of it (R87). -/
def standsAhead (u : State) (n x : ChimeEntry) : Bool := decide (priorityOf u x.pattern ≤ priorityOf u n.pattern)

/-- A new entry that outranks all who wait stands behind playing entries of its own priority or a higher one alone. -/
theorem placeChime_split (h : ∀ f, firstQueued u = some f → priorityOf u n.pattern < priorityOf u f.pattern) :
    ∃ l r, (placeChime n u).chimes.queue = l ++ n :: r ∧
      ∀ a ∈ l, a.voice ≠ none ∧ priorityOf u a.pattern ≤ priorityOf u n.pattern := by
  have hle : ∀ a ∈ u.chimes.queue.takeWhile (standsAhead u n), priorityOf u a.pattern ≤ priorityOf u n.pattern :=
    fun a ha => by simpa [standsAhead] using List.mem_takeWhile_imp ha
  refine ⟨u.chimes.queue.takeWhile (standsAhead u n), u.chimes.queue.dropWhile (standsAhead u n), rfl,
    fun a ha => ⟨fun hwaits => ?_, hle a ha⟩⟩
  have hsome : ((u.chimes.queue.takeWhile (standsAhead u n)).find? (fun e => e.voice.isNone)).isSome = true :=
    List.find?_isSome.2 ⟨a, ha, by simp [hwaits]⟩
  obtain ⟨f, hf⟩ := Option.isSome_iff_exists.1 hsome
  have hfirst : firstQueued u = some f := by
    rw [firstQueued, ← List.takeWhile_append_dropWhile (p := standsAhead u n) (l := u.chimes.queue), List.find?_append, hf]
    rfl
  exact absurd (h f hfirst) (Nat.not_lt.2 (hle f (List.mem_of_find?_eq_some hf)))

theorem firstQueued_of_split {s : State} {l r : List ChimeEntry} (hq : s.chimes.queue = l ++ n :: r)
    (hl : ∀ a ∈ l, a.voice ≠ none) (hn : n.voice = none) : firstQueued s = some n := by
  rw [firstQueued, hq, List.find?_append, List.find?_eq_none.2 fun a ha => by simpa [Option.isSome_iff_ne_none] using hl a ha]
  simp [hn]

/-- Such a new entry is the first who waits. -/
theorem firstQueued_placed (hn : n.voice = none)
    (h : ∀ f, firstQueued u = some f → priorityOf u n.pattern < priorityOf u f.pattern) :
    firstQueued (placeChime n u) = some n := by
  obtain ⟨l, r, hq, hl⟩ := placeChime_split h
  exact firstQueued_of_split hq (fun a ha => (hl a ha).1) hn

/-- It is so also with the entry of a lower priority waiting again. -/
theorem firstQueued_released_placed {v : VoiceId} {p : PatternId} (hn : n.voice = none)
    (h : ∀ f, firstQueued u = some f → priorityOf u n.pattern < priorityOf u f.pattern)
    (hp : priorityOf u n.pattern < priorityOf u p) :
    firstQueued (released v p (placeChime n u)) = some n := by
  obtain ⟨l, r, hq, hl⟩ := placeChime_split h
  have hne {a : ChimeEntry} (ha : priorityOf u a.pattern ≤ priorityOf u n.pattern) : ¬(a.pattern == p) = true := fun heq =>
    absurd hp (Nat.not_lt.2 (beq_iff_eq.1 heq ▸ ha))
  refine firstQueued_of_split (l := l) (r := r.map (fun e => if e.pattern == p then { e with voice := none } else e)) ?_
    (fun a ha => (hl a ha).1) hn
  rw [released, (setVoice_queue v none _).1, modEntry_queue, hq, List.map_append, List.map_cons, if_neg (hne le_rfl)]
  exact congrArg (· ++ _) ((List.map_congr_left fun a ha => if_neg (hne (hl a ha).2)).trans (List.map_id' _))

/-- The first who waits with a new entry is the new entry, or the first who waited. -/
theorem firstQueued_placeChime {f : ChimeEntry} (h : firstQueued (placeChime n u) = some f) :
    f = n ∨ firstQueued u = some f := by
  obtain ⟨l, r, hold, hnew⟩ := placeChime_queue n u
  rw [firstQueued, hnew, List.find?_append] at h
  rw [firstQueued, hold, List.find?_append]
  cases hl : l.find? (fun e => e.voice.isNone) with
  | some y =>
    rw [hl] at h
    exact .inr h
  | none =>
    rw [hl, Option.none_or, List.find?_cons] at h
    split at h
    · exact .inl (Option.some.inj h).symm
    · exact .inr h

end

end Sys2Proof.Machine
end

section
/-! SUPPORT. CHIME_REQUEST and CHIME_CANCEL (R87 to R91): the answers by the request's checks, what the queue and the voices
hold after each of its three ways, and what the end of an entry leaves. -/

-- One declaration at a time: together they would start more threads than the check's memory limit has stacks for.
set_option Elab.async false

namespace Sys2Proof.Machine

/-! ### What the voices' look leaves -/

section
variable {s t : State}

theorem CoresKept.patterns_eq (h : CoresKept s t) :
    t.chimes.queue.map ChimeEntry.pattern = s.chimes.queue.map ChimeEntry.pattern := by
  have hmap := congrArg (List.map Prod.fst) h.cores
  rwa [coresOf, coresOf, List.map_map, List.map_map] at hmap

theorem CoresKept.entryFor_none (h : CoresKept s t) {p : PatternId} (hp : entryFor s p = none) : entryFor t p = none := by
  have hcore := h.entryFor_core p
  rw [hp] at hcore
  exact Option.map_eq_none_iff.1 hcore

end

/-! ### What a chime taken comes to (R87, R88) -/

/-- The state in which a waiting entry has left for a newcomer, and CHIME_DROPPED tells so (R88). -/
def displaced (e : ChimeEntry) (p : PatternId) (s : State) : State :=
  post .chimeDropped e.pattern.val (cabinSetField e.zones ++ (u8 (priorityOf s e.pattern) ++ u8 p.val))
    (dropEntry e.pattern s)

section
variable {u : State} {p : PatternId} {t : Pattern} {zones : CabinSet} {e : ChimeEntry}

theorem takeChime_of_queued (he : entryFor u p = some e) :
    takeChime p t zones u = (voicesLook (mergeChime e t zones u), .merged) := by
  simp only [takeChime, he]

theorem takeChime_of_room (hnew : entryFor u p = none) (hroom : u.chimes.queue.length < 8) :
    takeChime p t zones u = (voicesLook (placeChime (newEntry u p t zones) u), .new none) := by
  have hcapacity : u.chimes.queue.length < Config.chimeCapacity := hroom
  simp only [takeChime, hnew, if_pos hcapacity]

variable (hnew : entryFor u p = none) (hfull : 8 ≤ u.chimes.queue.length)
include hnew hfull

theorem takeChime_of_full (h : ((lastQueued u).all (fun e => decide (priorityOf u e.pattern ≤ t.priority))) = true) :
    takeChime p t zones u = (u, .full) := by
  have hcapacity : ¬u.chimes.queue.length < Config.chimeCapacity := Nat.not_lt.2 hfull
  simp only [takeChime, hnew, if_neg hcapacity]
  split
  · rfl
  · rename_i e he
    rw [he, Option.all_some, decide_eq_true_iff] at h
    exact if_neg (Nat.not_lt.2 h)

theorem takeChime_displaces (he : lastQueued u = some e) (hlow : t.priority < priorityOf u e.pattern) :
    takeChime p t zones u =
      (voicesLook (placeChime (newEntry u p t zones) (displaced e p u)), .new (some e.pattern)) := by
  have hcapacity : ¬u.chimes.queue.length < Config.chimeCapacity := Nat.not_lt.2 hfull
  simp only [takeChime, hnew, if_neg hcapacity, he, if_pos hlow]
  rfl

end

/-! ### An entry displaced (R88) -/

section
variable {u : State} {e : ChimeEntry} {p : PatternId}

theorem displaced_within : Within [.chimes] u (displaced e p u) :=
  ((dropEntry_within _ u).trans (post_within _ _ _ _)).mono

theorem displaced_paired (hs : Paired u) (he : lastQueued u = some e) : Paired (displaced e p u) := by
  obtain ⟨hmem, hwaits⟩ := lastQueued_waits he
  exact (dropEntry_paired hs hmem hwaits).of_chimes rfl

/-- The queue without one of its entries is one shorter. -/
theorem dropEntry_length (hs : Voiced u) (he : e ∈ u.chimes.queue) :
    (dropEntry e.pattern u).chimes.queue.length + 1 = u.chimes.queue.length := by
  have hnodup : (u.chimes.queue.map ChimeEntry.pattern).Nodup := by
    have := hs.distinct
    rwa [keysOf, List.map_map] at this
  have hpatterns : (dropEntry e.pattern u).chimes.queue.map ChimeEntry.pattern =
      (u.chimes.queue.map ChimeEntry.pattern).erase e.pattern := by
    rw [hnodup.erase_eq_filter, List.filter_map]
    rfl
  have hlen := congrArg List.length hpatterns
  have hmem : e.pattern ∈ u.chimes.queue.map ChimeEntry.pattern := List.mem_map_of_mem he
  have hpos := List.length_pos_of_mem hmem
  rw [List.length_map, List.length_erase_of_mem hmem, List.length_map] at hlen
  rw [List.length_map] at hpos
  omega

theorem entryFor_displaced_self : entryFor (displaced e p u) e.pattern = none := by
  rw [entryFor_eq_none_iff]
  intro y hy
  simpa using (List.mem_filter.1 hy).2

theorem entryFor_displaced_other {q : PatternId} (h : q ≠ e.pattern) : entryFor (displaced e p u) q = entryFor u q :=
  find?_filter_ne h

/-- Who waits after the displacement waited before. -/
theorem firstQueued_displaced {f : ChimeEntry} (hf : firstQueued (displaced e p u) = some f) :
    (f.pattern, none) ∈ keysOf u := by
  obtain ⟨hmem, hwaits⟩ := firstQueued_waits hf
  exact mem_keysOf.2 ⟨f, (List.mem_filter.1 hmem).1, rfl, hwaits⟩

end

/-! ### The entry of the pattern after a request (R87) -/

section
variable {u : State} {p : PatternId} {t : Pattern} {zones : CabinSet}

/-- The new entry stands in the queue after the voices' look, on whatever voice. -/
theorem placed_core {s : State} (hnew : entryFor s p = none) :
    (entryFor (voicesLook (placeChime (newEntry u p t zones) s)) p).map ChimeEntry.core =
      some (p, zones, t.repeats, false, u.chimes.nextArrival) := by
  have hplaced : entryFor (placeChime (newEntry u p t zones) s) p = some (newEntry u p t zones) :=
    entryFor_placeChime (e := newEntry u p t zones) hnew
  rw [(voicesLook_coresKept _).entryFor_core, hplaced]
  rfl

/-- The entries of the other patterns stand as they were. -/
theorem entryFor_placeChime_other {s : State} {n : ChimeEntry} {q : PatternId} (h : q ≠ n.pattern) :
    entryFor (placeChime n s) q = entryFor s q := by
  obtain ⟨l, r, hold, hnew⟩ := placeChime_queue n s
  rw [entryFor, entryFor, hold, hnew, List.find?_append, List.find?_append, List.find?_cons_of_neg (by simpa using h.symm)]

/-- A queue after a new entry and the voices' look. -/
theorem placed_length (n : ChimeEntry) (s : State) :
    (voicesLook (placeChime n s)).chimes.queue.length = s.chimes.queue.length + 1 :=
  (voicesLook_coresKept _).length_eq.trans (placeChime_length n s)

theorem entryZones_of_core {s : State} {z : CabinSet} {c : Repeats × Bool × Nat}
    (h : (entryFor s p).map ChimeEntry.core = some (p, z, c)) : entryZones s p zones = z := by
  obtain ⟨e, he, hcore⟩ := Option.map_eq_some_iff.1 h
  rw [entryZones, he]
  exact congrArg (fun c => c.2.1) hcore

end

/-! ### CHIME_REQUEST's answers -/

/-- The zones that a byte names go back into the byte. -/
theorem cabinSetField_zonesNamed (zb : Byte) (h8 : zb.toNat < 8) : cabinSetField (zonesNamed zb) = [zb] := by
  revert zb
  decide

section
variable {u a : State} {id : PatternId} {x zb : Byte} {t : Pattern}

theorem answerChime_badId (h : 32 ≤ x.toNat) : answerChime [x, zb] u = refuse u .outOfRange := by
  simp only [answerChime, readPattern_none h]

theorem answerChime_badZones (h : zb = 0#8 ∨ 8 ≤ zb.toNat) :
    answerChime [byte id.val, zb] u = refuse u .outOfRange := by
  simp only [answerChime, readPattern_byte, readCabinSet_none h]

variable (h0 : 0 < zb.toNat) (h8 : zb.toNat < 8)
include h0 h8

theorem readCabinSet_named : readCabinSet zb = some (zonesNamed zb) :=
  readCabinSet_some (by rintro rfl; exact absurd h0 (by decide)) h8

theorem answerChime_undefined (hpat : u.patterns.table[id] = none) :
    answerChime [byte id.val, zb] u = refuse u .badPattern := by
  simp only [answerChime, readPattern_byte, readCabinSet_named h0 h8, hpat]

variable (hpat : u.patterns.table[id] = some t)
include hpat

theorem answerChime_unserved (h : anyServed u (zonesNamed zb) = false) :
    answerChime [byte id.val, zb] u = refuse u .notFitted := by
  simp only [answerChime, readPattern_byte, readCabinSet_named h0 h8, hpat, if_pos h]

variable (hserved : anyServed u (zonesNamed zb) = true)
include hserved

theorem answerChime_full (h : takeChime id t (zonesNamed zb) u = (u, .full)) :
    answerChime [byte id.val, zb] u = refuse u .queueFull := by
  have hgo : ¬anyServed u (zonesNamed zb) = false := by rw [hserved]; decide
  simp only [answerChime, readPattern_byte, readCabinSet_named h0 h8, hpat, if_neg hgo, h]

theorem answerChime_merged (h : takeChime id t (zonesNamed zb) u = (a, .merged)) {z : CabinSet} {c : Repeats × Bool × Nat}
    (hcore : (entryFor a id).map ChimeEntry.core = some (id, z, c)) :
    answerChime [byte id.val, zb] u = accept a ([byte id.val, 1#8] ++ cabinSetField z) := by
  have hgo : ¬anyServed u (zonesNamed zb) = false := by rw [hserved]; decide
  simp only [answerChime, readPattern_byte, readCabinSet_named h0 h8, hpat, if_neg hgo, h, entryZones_of_core hcore]
  rfl

theorem answerChime_new {d : Option PatternId} (h : takeChime id t (zonesNamed zb) u = (a, .new d)) {c : Repeats × Bool × Nat}
    (hcore : (entryFor a id).map ChimeEntry.core = some (id, zonesNamed zb, c)) :
    answerChime [byte id.val, zb] u =
      accept a ([byte id.val, 0#8, zb] ++ (d.map fun q => byte q.val).toList) := by
  have hgo : ¬anyServed u (zonesNamed zb) = false := by rw [hserved]; decide
  simp only [answerChime, readPattern_byte, readCabinSet_named h0 h8, hpat, if_neg hgo, h, entryZones_of_core hcore,
    chimeField, cabinSetField_zonesNamed zb h8]
  cases d <;> rfl

end

end Sys2Proof.Machine
end

section
/-! SUPPORT. What CHIME_REQUEST and CHIME_CANCEL leave of the queue, the voices and the reports (R87 to R91), case by case. -/

-- One declaration at a time: together they would start more threads than the check's memory limit has stacks for.
set_option Elab.async false

namespace Sys2Proof.Machine

/-! ### A request in RUN -/

section
variable {s t : State} {id : PatternId} {zb x : Byte} {b : Bytes}

theorem chimeRequest_refuses {st : Status} (hop : (atRequest .chimeRequest s).sc.opState = .run)
    (hact : answerChime [x, zb] (atRequest .chimeRequest s) = refuse (atRequest .chimeRequest s) st) :
    exec (.chimeRequest [x, zb]) s = .next ((atRequest .chimeRequest s).refusing .chimeRequest st) :=
  exec_next_refusing (act := answerChime _) rfl rfl (congrArg (accepted .chimeRequest) hop) hact

theorem chimeRequest_accepts (hop : (atRequest .chimeRequest s).sc.opState = .run)
    (hact : answerChime [byte id.val, zb] (atRequest .chimeRequest s) = accept t b) :
    exec (.chimeRequest [byte id.val, zb]) s = .next (t.accepting .chimeRequest b) ∧
      keepsBut [.cp, .zr, .chimes] (atRequest .chimeRequest s) (t.accepting .chimeRequest b) := by
  have hwithin : Within [.zr, .chimes] (atRequest .chimeRequest s) t := by
    have hanswers := answerChime_within [byte id.val, zb] (atRequest .chimeRequest s)
    rwa [hact] at hanswers
  exact ⟨exec_next_accepting (act := answerChime _) rfl rfl (congrArg (accepted .chimeRequest) hop) hact,
    hwithin.accepted_keepsBut _ _⟩

theorem chimeCancel_accepts (hop : (atRequest .chimeCancel s).sc.opState = .run)
    (hact : answerCancel [byte id.val] (atRequest .chimeCancel s) = accept t b) :
    exec (.chimeCancel [byte id.val]) s = .next (t.accepting .chimeCancel b) ∧
      keepsBut [.cp, .zr, .chimes] (atRequest .chimeCancel s) (t.accepting .chimeCancel b) := by
  have hwithin : Within [.zr, .chimes] (atRequest .chimeCancel s) t := by
    have hanswers := answerCancel_within [byte id.val] (atRequest .chimeCancel s)
    rwa [hact] at hanswers
  exact ⟨exec_next_accepting (act := answerCancel _) rfl rfl (congrArg (accepted .chimeCancel) hop) hact,
    hwithin.accepted_keepsBut _ _⟩

end

theorem anyServed_none {u : State} {zones : CabinSet} (h : ∀ c, zones.get c = true → isServed u.install c = false) :
    anyServed u zones = false :=
  List.any_eq_false.2 fun c hc => by rw [h c (mem_toList.1 hc)]; decide

/-! ### The three ways of a request (R87, R88) -/

section
variable {s u : State} {id : PatternId} {zb : Byte} {t : Pattern} {e : ChimeEntry} (hu : u = atRequest .chimeRequest s)
  (hop : u.sc.opState = .run) (h0 : 0 < zb.toNat) (h8 : zb.toNat < 8) (hpat : u.patterns.table[id] = some t)
  (hserved : anyServed u (zonesNamed zb) = true)
include hu hop h0 h8 hpat hserved

theorem chimeRequest_merges (he : entryFor u id = some e) :
    ∃ a, exec (.chimeRequest [byte id.val, zb]) s = .next a ∧
      a.chimes.queue.length = u.chimes.queue.length ∧
      (entryFor a id).map (fun y => (y.zones, y.remaining, y.cutShort, y.arrival)) =
        some (e.zones.union (zonesNamed zb), t.repeats, false, e.arrival) ∧
      a.cp.reply = some ⟨0x1f#8, .ok, [byte id.val, 1#8] ++ cabinSetField (e.zones.union (zonesNamed zb))⟩ ∧
      keepsBut [.cp, .zr, .chimes] u a := by
  subst hu
  have htake := takeChime_of_queued (t := t) (zones := zonesNamed zb) he
  have hcore := takeChime_merges t (zonesNamed zb) he
  rw [htake] at hcore
  obtain ⟨hexec, hkeeps⟩ := chimeRequest_accepts hop (answerChime_merged h0 h8 hpat hserved htake hcore)
  exact ⟨_, hexec, (voicesLook_coresKept _).length_eq.trans (mergeChime_length ..), entryFor_tail hcore, rfl, hkeeps⟩

/-- A new entry in a queue with room is placed, and the voices look at the queue. -/
theorem chimeRequest_places (hnew : entryFor u id = none) (hroom : u.chimes.queue.length < 8) :
    exec (.chimeRequest [byte id.val, zb]) s =
        .next ((voicesLook (placeChime (newEntry u id t (zonesNamed zb)) u)).accepting .chimeRequest [byte id.val, 0#8, zb]) ∧
      keepsBut [.cp, .zr, .chimes] u
        ((voicesLook (placeChime (newEntry u id t (zonesNamed zb)) u)).accepting .chimeRequest [byte id.val, 0#8, zb]) := by
  subst hu
  exact chimeRequest_accepts hop
    (answerChime_new h0 h8 hpat hserved (takeChime_of_room (zones := zonesNamed zb) hnew hroom) (placed_core hnew))

/-- A new entry in a full queue is placed where a waiting entry of lower priority leaves. -/
theorem chimeRequest_displaces (he : lastQueued u = some e) (hnew : entryFor u id = none) (hfull : 8 ≤ u.chimes.queue.length)
    (hlow : t.priority < priorityOf u e.pattern) :
    exec (.chimeRequest [byte id.val, zb]) s =
        .next ((voicesLook (placeChime (newEntry u id t (zonesNamed zb)) (displaced e id u))).accepting .chimeRequest
          [byte id.val, 0#8, zb, byte e.pattern.val]) ∧
      keepsBut [.cp, .zr, .chimes] u
        ((voicesLook (placeChime (newEntry u id t (zonesNamed zb)) (displaced e id u))).accepting .chimeRequest
          [byte id.val, 0#8, zb, byte e.pattern.val]) := by
  subst hu
  exact chimeRequest_accepts hop (answerChime_new h0 h8 hpat hserved
    (takeChime_displaces (zones := zonesNamed zb) hnew hfull he hlow) (placed_core (entryFor_dropEntry_none hnew)))

theorem chimeRequest_queues (hnew : entryFor u id = none) (hroom : u.chimes.queue.length < 8) :
    ∃ a, exec (.chimeRequest [byte id.val, zb]) s = .next a ∧
      a.chimes.queue.length = u.chimes.queue.length + 1 ∧
      (entryFor a id).map (fun y => (y.zones, y.remaining, y.cutShort, y.arrival)) =
        some (zonesNamed zb, t.repeats, false, u.chimes.nextArrival) ∧
      a.cp.reply = some ⟨0x1f#8, .ok, [byte id.val, 0#8, zb]⟩ ∧ keepsBut [.cp, .zr, .chimes] u a := by
  obtain ⟨hexec, hkeeps⟩ := chimeRequest_places hu hop h0 h8 hpat hserved hnew hroom
  exact ⟨_, hexec, placed_length _ _, entryFor_tail (placed_core hnew), rfl, hkeeps⟩

theorem chimeRequest_drops (hok : ChimesOk u) (he : lastQueued u = some e) (hnew : entryFor u id = none)
    (hfull : 8 ≤ u.chimes.queue.length) (hlow : t.priority < priorityOf u e.pattern) :
    ∃ a, exec (.chimeRequest [byte id.val, zb]) s = .next a ∧
      a.chimes.queue.length = u.chimes.queue.length ∧ entryFor a e.pattern = none ∧
      (entryFor a id).map (fun y => (y.zones, y.remaining)) = some (zonesNamed zb, t.repeats) ∧
      a.cp.reply = some ⟨0x1f#8, .ok, [byte id.val, 0#8, zb, byte e.pattern.val]⟩ ∧
      (u.cp.reports.length < 24 →
        (a.cp.reports.any (fun r => r.kind == .chimeDropped && r.subject == e.pattern.val)) = true) ∧
      keepsBut [.cp, .zr, .chimes] u a := by
  obtain ⟨hexec, hkeeps⟩ := chimeRequest_displaces hu hop h0 h8 hpat hserved he hnew hfull hlow
  obtain ⟨_, hpaired⟩ := (chimesOk_iff u).1 hok
  obtain ⟨hmem, _⟩ := lastQueued_waits he
  have hother : e.pattern ≠ id := (entryFor_eq_none_iff u id).1 hnew e hmem
  refine ⟨_, hexec, (placed_length _ _).trans (dropEntry_length hpaired.voiced hmem),
    (voicesLook_coresKept _).entryFor_none ((entryFor_placeChime_other hother).trans entryFor_displaced_self), ?_, rfl,
    fun hroom => ?_, hkeeps⟩
  · have htail := congrArg (Option.map fun c => (c.1, c.2.1))
      (entryFor_tail (placed_core (u := u) (t := t) (zones := zonesNamed zb) (s := displaced e id u)
        (entryFor_dropEntry_none hnew)))
    rwa [Option.map_map] at htail
  · have hposted := ((placeChime_within (newEntry u id t (zonesNamed zb)) (displaced e id u)).trans
      (voicesLook_within _)).posted
    exact hposted.tells (post_tells (s := dropEntry e.pattern u) _ hroom)

end

/-! ### A new entry and the voices (R90, R91) -/

section
variable {u : State} {n : ChimeEntry} {v o : VoiceId} {x y : Voice}

/-- Where an entry waits, there is a last that waits. -/
theorem lastQueued_of_firstQueued {f : ChimeEntry} (hf : firstQueued u = some f) : ∃ e, lastQueued u = some e := by
  obtain ⟨hmem, hwaits⟩ := firstQueued_waits hf
  have hne : u.chimes.queue.filter (fun e => e.voice.isNone) ≠ [] :=
    List.ne_nil_of_mem (List.mem_filter.2 ⟨hmem, Option.isNone_iff_eq_none.2 hwaits⟩)
  exact ⟨_, List.getLast?_eq_some_getLast hne⟩

theorem voiceOf_placeChime (w : VoiceId) : voiceOf (placeChime n u) w = voiceOf u w := by cases w <;> rfl

/-- A new entry that alone waits is taken by an idle voice at its turn, and the other voice goes on. -/
theorem placed_taken (hs : Paired u) (hnew : entryFor u n.pattern = none) (hn : n.voice = none) (hnone : firstQueued u = none)
    (hidle : voiceOf u v = none) (hturn : v = .v1 ∨ u.chimes.v1 ≠ none) (hvo : o ≠ v) :
    EntryTaken u (voicesLook (placeChime n u)) v n 24 ∧ voiceOf (voicesLook (placeChime n u)) o = voiceOf u o := by
  have hfirst : firstQueued (placeChime n u) = some n := firstQueued_placed hn fun f hf => nomatch hnone.symm.trans hf
  have honly (p : PatternId) (hp : (p, none) ∈ keysOf (placeChime n u)) : p = n.pattern := by
    rcases List.mem_cons.1 ((keysOf_placeChime hn).mem_iff.1 hp) with hkey | hkey
    · exact congrArg Prod.fst hkey
    · exact absurd hkey (firstQueued_eq_none_iff.1 hnone p)
  have hidle' : voiceOf (placeChime n u) v = none := (voiceOf_placeChime v).trans hidle
  have htake : voicesLook (placeChime n u) = takeEntry v (placeChime n u) :=
    voicesLook_of_one_waiting hidle' hturn hfirst honly
  rw [htake]
  exact ⟨takeEntry_takes (placeChime_within n u).sameSetup (placeChime_paired hs hnew hn).voiced hfirst le_rfl id,
    (voiceOf_takeEntry_other hvo).trans (voiceOf_placeChime o)⟩

/-- A new entry of strictly higher priority than all who wait and than the lower-ranked voice takes that voice, also where a
waiting entry has left for it before. -/
theorem placed_preempts {s : State} {room : Nat} (hsetup : SameSetup u s) (hs : Paired s)
    (hchimes : s.chimes.v1 = u.chimes.v1 ∧ s.chimes.v2 = u.chimes.v2 ∧ s.chimes.nextStart = u.chimes.nextStart)
    (hroom : u.cp.reports.length < room → s.cp.reports.length < 24) (hnew : entryFor s n.pattern = none) (hn : n.voice = none)
    (hvo : v ≠ o) (hx : voiceOf u v = some x) (hy : voiceOf u o = some y) (hlow : RanksLower u x y)
    (hkept : entryFor s x.pattern = entryFor u x.pattern) (hprio : priorityOf u n.pattern < priorityOf u x.pattern)
    (hwaiting : ∀ f, firstQueued s = some f → priorityOf u n.pattern < priorityOf u f.pattern) :
    EntryPreempts u (voicesLook (placeChime n s)) v o x n room := by
  obtain ⟨hv1, hv2, hstart⟩ := hchimes
  have hvoice (w : VoiceId) : voiceOf (placeChime n s) w = voiceOf u w := by
    cases w with
    | v1 => exact hv1
    | v2 => exact hv2
  have hpriority := hsetup.priorityOf_eq
  have hplaced : SameSetup s (placeChime n s) := (placeChime_within n s).sameSetup
  have hpriority' : priorityOf (placeChime n s) = priorityOf u := hplaced.priorityOf_eq.trans hpriority
  have hwaiting' : ∀ f, firstQueued s = some f → priorityOf s n.pattern < priorityOf s f.pattern := hpriority ▸ hwaiting
  have hne : x.pattern ≠ n.pattern := fun heq => absurd hprio (by rw [heq]; exact lt_irrefl _)
  obtain ⟨htaken, hother, hentry, hfollow⟩ := voicesLook_preempts (hsetup.trans hplaced) (placeChime_paired hs hnew hn) hvo
    ((hvoice v).trans hx) ((hvoice o).trans hy) (by rwa [RanksLower, hpriority']) (firstQueued_placed hn hwaiting')
    (firstQueued_released_placed hn hwaiting' (hpriority.symm ▸ hprio)) (hpriority'.symm ▸ hprio) hstart.ge hroom
  refine ⟨htaken, hother.trans (by rw [hvoice]), hentry.trans ?_, fun z _ => hfollow z⟩
  rw [← hkept, entryFor_placeChime_other hne]

end

/-- What an entry has preempted stands after the reply. -/
theorem EntryPreempts.accepting {u a : State} {v o : VoiceId} {x : Voice} {e : ChimeEntry} {room : Nat}
    (h : EntryPreempts u a v o x e room) (k : Kind) (body : Bytes) : EntryPreempts u (a.accepting k body) v o x e room := by
  obtain ⟨htaken, hother, hentry, hfollow⟩ := h
  exact ⟨EntryTaken.playsOn htaken (accepting_playsOn k body),
    (accepting_playsOn (v := o) (p := x.pattern) k body).voice.trans hother, hentry, hfollow⟩

/-! ### A new entry by request (R87, R90, R91) -/

section
variable {s u : State} {id : PatternId} {zb : Byte} {t : Pattern} {n : ChimeEntry} (hu : u = atRequest .chimeRequest s)
  (hop : u.sc.opState = .run) (h0 : 0 < zb.toNat) (h8 : zb.toNat < 8) (hpat : u.patterns.table[id] = some t)
  (hserved : anyServed u (zonesNamed zb) = true) (hnew : entryFor u id = none)
include hu hop h0 h8 hpat hserved hnew

/-- The idle voice at its turn takes the new entry where no other waits, and the other voice goes on. -/
theorem chimeRequest_taken {v o : VoiceId} (hok : ChimesOk u) (hroom : u.chimes.queue.length < 8) (hnone : firstQueued u = none)
    (hidle : voiceOf u v = none) (hturn : v = .v1 ∨ u.chimes.v1 ≠ none) (hvo : o ≠ v) :
    ∃ a, exec (.chimeRequest [byte id.val, zb]) s = .next a ∧ EntryTaken u a v (newEntry u id t (zonesNamed zb)) 24 ∧
      (voiceOf a o).map Voice.ungained = (voiceOf u o).map Voice.ungained := by
  obtain ⟨_, hpaired⟩ := (chimesOk_iff u).1 hok
  obtain ⟨hexec, _⟩ := chimeRequest_places hu hop h0 h8 hpat hserved hnew hroom
  obtain ⟨htaken, hother⟩ :=
    placed_taken (n := newEntry u id t (zonesNamed zb)) hpaired hnew rfl hnone hidle hturn hvo
  refine ⟨_, hexec, EntryTaken.playsOn htaken (accepting_playsOn _ _), ?_⟩
  rw [(accepting_playsOn (v := o) (p := id) _ _).voice, hother]

variable {v o : VoiceId} {x y : Voice} (hvo : v ≠ o) (hx : voiceOf u v = some x) (hy : voiceOf u o = some y)
  (hlow : RanksLower u x y)
include hvo hx hy hlow

/-- The new entry preempts the lower-ranked voice where it outranks that and all who wait. -/
theorem chimeRequest_preempts (hok : ChimesOk u) (hprio : t.priority < priorityOf u x.pattern)
    (hwaiting : ∀ f, firstQueued u = some f → t.priority < priorityOf u f.pattern)
    (hroom : u.chimes.queue.length < 8 ∨ (firstQueued u ≠ none ∧ ChimeOrderOk u)) :
    ∃ a, exec (.chimeRequest [byte id.val, zb]) s = .next a ∧
      EntryPreempts u a v o x (newEntry u id t (zonesNamed zb)) 23 := by
  obtain ⟨_, hpaired⟩ := (chimesOk_iff u).1 hok
  have hpriority : priorityOf u id = t.priority := by simp only [priorityOf, hpat]
  by_cases hlen : u.chimes.queue.length < 8
  · obtain ⟨hexec, _⟩ := chimeRequest_places hu hop h0 h8 hpat hserved hnew hlen
    exact ⟨_, hexec, EntryPreempts.accepting (placed_preempts .refl hpaired ⟨rfl, rfl, rfl⟩ (by omega) hnew rfl hvo hx hy hlow
      rfl (hpriority.trans_lt hprio) fun f hf => hpriority.trans_lt (hwaiting f hf)) _ _⟩
  · obtain ⟨hsome, horder⟩ := hroom.resolve_left hlen
    obtain ⟨f, hf⟩ := Option.ne_none_iff_exists'.1 hsome
    have outranked {p : PatternId} (hp : (p, none) ∈ keysOf u) : t.priority < priorityOf u p :=
      (hwaiting f hf).trans_le (firstQueued_outranks ((chimeOrderOk_iff u).1 horder).1 hf hp)
    obtain ⟨e, he⟩ := lastQueued_of_firstQueued hf
    obtain ⟨hmem, hwaits⟩ := lastQueued_waits he
    have hkey : (e.pattern, none) ∈ keysOf u := mem_keysOf.2 ⟨e, hmem, rfl, hwaits⟩
    have hplays : (x.pattern, some v) ∈ keysOf u := hpaired.named _ v (by rw [hx]; rfl)
    have hxe : x.pattern ≠ e.pattern := fun heq =>
      Option.some_ne_none v (hpaired.voiced.voice_unique hplays (heq ▸ hkey))
    obtain ⟨hexec, _⟩ := chimeRequest_displaces hu hop h0 h8 hpat hserved he hnew (Nat.le_of_not_lt hlen) (outranked hkey)
    have hcount : u.cp.reports.length < 23 → (displaced e id u).cp.reports.length < 24 := fun hcount =>
      (post_length_le _ _ _ (dropEntry e.pattern u)).trans_lt (Nat.succ_lt_succ hcount)
    exact ⟨_, hexec, EntryPreempts.accepting (placed_preempts displaced_within.sameSetup (displaced_paired hpaired he)
      ⟨rfl, rfl, rfl⟩ hcount (entryFor_dropEntry_none hnew) rfl hvo hx hy hlow (entryFor_displaced_other hxe)
      (hpriority.trans_lt hprio) fun g hg => hpriority.trans_lt (outranked (firstQueued_displaced hg))) _ _⟩

/-- The new entry waits where neither it nor any who wait outranks the lower-ranked voice. -/
theorem chimeRequest_waits (hprio : priorityOf u x.pattern ≤ t.priority)
    (hwaiting : ∀ f, firstQueued u = some f → priorityOf u x.pattern ≤ priorityOf u f.pattern)
    (hroom : u.chimes.queue.length < 8) :
    ∃ a, exec (.chimeRequest [byte id.val, zb]) s = .next a ∧
      entryFor a id = some (newEntry u id t (zonesNamed zb)) ∧ a.zr = u.zr ∧
      a.chimes.v1.map Voice.ungained = u.chimes.v1.map Voice.ungained ∧
      a.chimes.v2.map Voice.ungained = u.chimes.v2.map Voice.ungained := by
  obtain ⟨hexec, _⟩ := chimeRequest_places hu hop h0 h8 hpat hserved hnew hroom
  have hpriority : priorityOf u id = t.priority := by simp only [priorityOf, hpat]
  have hplaced : priorityOf (placeChime (newEntry u id t (zonesNamed zb)) u) = priorityOf u :=
    (placeChime_within _ u).sameSetup.priorityOf_eq
  have hquiet : voicesLook (placeChime (newEntry u id t (zonesNamed zb)) u) = placeChime (newEntry u id t (zonesNamed zb)) u := by
    refine voicesLook_of_outranking hvo ((voiceOf_placeChime v).trans hx) ((voiceOf_placeChime o).trans hy)
      (by rwa [RanksLower, hplaced]) fun f hf => ?_
    rw [hplaced]
    rcases firstQueued_placeChime hf with rfl | hf
    · exact hprio.trans_eq hpriority.symm
    · exact hwaiting f hf
  rw [hquiet] at hexec
  exact ⟨_, hexec, entryFor_placeChime (e := newEntry u id t (zonesNamed zb)) hnew, rfl,
    (accepting_playsOn (v := .v1) (p := id) _ _).voice, (accepting_playsOn (v := .v2) (p := id) _ _).voice⟩

end

/-! ### CHIME_CANCEL (R89) -/

section
variable {u : State} {id : PatternId} {x : Byte} {e : ChimeEntry}

theorem answerCancel_badId (h : 32 ≤ x.toNat) : answerCancel [x] u = refuse u .outOfRange := by
  simp only [answerCancel, readPattern_none h]

theorem answerCancel_absent (h : entryFor u id = none) : answerCancel [byte id.val] u = accept u [byte id.val, 0#8] := by
  simp only [answerCancel, readPattern_byte, h]
  rfl

theorem answerCancel_ends (h : entryFor u id = some e) :
    answerCancel [byte id.val] u = accept (voicesLook (endEntry e .cancelled u)) [byte id.val, 1#8] := by
  simp only [answerCancel, readPattern_byte, h]
  rfl

variable (cause : ChimeEnd)

/-- The patterns of the queue after an entry has ended. -/
theorem ended_patterns (h : entryFor u id = some e) :
    (voicesLook (endEntry e cause u)).chimes.queue.map ChimeEntry.pattern =
      (u.chimes.queue.map ChimeEntry.pattern).filter (fun p => p != id) := by
  obtain rfl := entryFor_pattern h
  rw [(voicesLook_coresKept _).patterns_eq, (endEntry_queue e cause u).1, List.filter_map]
  rfl

/-- No voice plays the pattern of an entry that has ended. -/
theorem ended_silent (hs : Paired u) (h : entryFor u id = some e) (v : VoiceId) :
    (voiceOf (voicesLook (endEntry e cause u)) v).map Voice.pattern ≠ some id := fun hplays => by
  have hended := voicesLook_paired (endEntry_paired cause hs (hs.agrees (List.mem_of_find?_eq_some h)))
  obtain ⟨y, hy, hyp, _⟩ := mem_keysOf.1 (hended.named id v hplays)
  have hmem : id ∈ (voicesLook (endEntry e cause u)).chimes.queue.map ChimeEntry.pattern :=
    List.mem_map.2 ⟨y, hy, hyp⟩
  rw [ended_patterns cause h] at hmem
  simpa using (List.mem_filter.1 hmem).2

/-- CHIME_ENDED stands in the queue after the voices' look. -/
theorem ended_told (hroom : u.cp.reports.length < 24) :
    Told (voicesLook (endEntry e cause u)) .chimeEnded e.pattern.val
      (u8 cause.code ++ (cabinSetField e.zones ++ bit e.played)) :=
  (voicesLook_within _).posted.mem_of_event (endEntry_tells cause hroom) rfl

/-- A report told is found by its kind, its subject and its data. -/
theorem Told.any {t : State} {k : ReportKind} {m : Nat} {d : Bytes} (h : Told t k m d) :
    (t.cp.reports.any (fun r => r.kind == k && r.subject == m && r.data == reportData d)) = true :=
  List.any_eq_true.2 ⟨_, h, by simp⟩

end

/-! ### The obligation -/

/-- Settles O36: the refusals are the answer's branches, its three ways are `takeChime`'s, and what the voices make of a new
entry or of a freed voice is their look at the queue. -/
theorem chimesAreQueuedAndCancelled : Obligations.ChimesAreQueuedAndCancelled := by
  unfold Obligations.ChimesAreQueuedAndCancelled
  refine ⟨?_, ?_, ?_⟩
  · rintro s u id x zb _ hu hop hok rfl
    refine ⟨fun hx => ?_, fun hz => ?_, fun h0 h8 => ⟨fun hpat => ?_, fun hpat hserved => ?_, fun t hpat hserved =>
      ⟨fun e he => chimeRequest_merges hu hop h0 h8 hpat hserved he,
        fun hnew hroom => chimeRequest_queues hu hop h0 h8 hpat hserved hnew hroom, fun hnew hfull hlast => ?_,
        fun e he hnew hfull hlow => chimeRequest_drops hu hop h0 h8 hpat hserved hok he hnew hfull hlow⟩⟩⟩
    all_goals subst hu
    · exact chimeRequest_refuses hop (answerChime_badId hx)
    · exact chimeRequest_refuses hop (answerChime_badZones hz)
    · exact chimeRequest_refuses hop (answerChime_undefined h0 h8 hpat)
    · obtain ⟨t, hpat⟩ := Option.ne_none_iff_exists'.1 hpat
      exact chimeRequest_refuses hop (answerChime_unserved h0 h8 hpat (anyServed_none fun c hc => hserved c hc))
    · exact chimeRequest_refuses hop (answerChime_full h0 h8 hpat hserved (takeChime_of_full hnew hfull hlast))
  · rintro s u id zb _ t _ hu hop hok rfl h0 h8 hpat hserved hnew rfl
    refine ⟨fun hroom hnone => ⟨fun h1 => ?_, fun h1 h2 => ?_⟩, fun v o hvo x hx y hy hlow =>
      ⟨fun hprio hall hroom => ?_, fun hprio hall hroom => ?_⟩⟩
    · exact chimeRequest_taken (v := .v1) (o := .v2) hu hop h0 h8 hpat hserved hnew hok hroom hnone h1 (.inl rfl) (by decide)
    · exact chimeRequest_taken (v := .v2) (o := .v1) hu hop h0 h8 hpat hserved hnew hok hroom hnone h2 (.inr h1) (by decide)
    · exact chimeRequest_preempts hu hop h0 h8 hpat hserved hnew hvo hx hy hlow hok hprio
        (fun f hf => by simpa [hf] using hall) hroom
    · exact chimeRequest_waits hu hop h0 h8 hpat hserved hnew hvo hx hy hlow hprio
        (fun f hf => by simpa [hf] using hall) hroom
  · rintro s u id x hu hop hok
    subst hu
    obtain ⟨_, hpaired⟩ := (chimesOk_iff _).1 hok
    refine ⟨fun hx => ?_, fun hnone => ?_, fun e he => ?_⟩
    · exact exec_next_refusing (act := answerCancel _) rfl rfl (congrArg (accepted .chimeCancel) hop) (answerCancel_badId hx)
    · exact (chimeCancel_accepts hop (answerCancel_absent hnone)).1
    · obtain ⟨hexec, hkeeps⟩ := chimeCancel_accepts hop (answerCancel_ends he)
      obtain rfl := entryFor_pattern he
      refine ⟨_, hexec, ended_patterns .cancelled he, fun v hplays => ended_silent .cancelled hpaired he v ?_,
        fun v hv => NextTaken.playsOn (endEntry_nextTaken .cancelled hpaired (List.mem_of_find?_eq_some he) hv)
          fun p => accepting_playsOn _ _, rfl, fun hroom => Told.any (ended_told .cancelled hroom), hkeeps⟩
      rwa [voiceOf_pattern_of_same ((accepting_keepsBut _ _ _) .chimes (by decide))] at hplays

end Sys2Proof.Machine
end

section
/-! SUPPORT. The phases of a voice (R92): what the end of a tone, of a gap, of a repeat and of a repeat's gap leaves. -/

-- One declaration at a time: together they would start more threads than the check's memory limit has stacks for.
set_option Elab.async false

namespace Sys2Proof.Machine

/-! ### The phases by case -/

section
variable {s : State} {v : VoiceId} {x : Voice} {e : ChimeEntry}

theorem phaseEnd_toGap (hphase : x.phase = .tone) (hgap : (presentSegment s x).gapAfter ≠ 0) :
    phaseEnd v x s = setVoice v (some { x with phase := .gap, remaining := (presentSegment s x).gapAfter }) s := by
  simp only [phaseEnd, hphase, toneEnd, if_neg hgap]

theorem phaseEnd_afterGap (h : x.phase = .gap ∨ (x.phase = .tone ∧ (presentSegment s x).gapAfter = 0)) :
    phaseEnd v x s = gapEnd v x s := by
  rcases h with hphase | ⟨hphase, hgap⟩
  · simp only [phaseEnd, hphase]
  · simp only [phaseEnd, hphase, toneEnd, if_pos hgap]

theorem phaseEnd_afterRepeatGap (hphase : x.phase = .repeatGap) : phaseEnd v x s = nextRepeat v x s := by
  simp only [phaseEnd, hphase]

theorem gapEnd_inside (h : x.seg < (patternAt s x.pattern).count) :
    gapEnd v x s = beginTone v { x with seg := x.seg + 1 } s := if_pos h

theorem gapEnd_last (h : (patternAt s x.pattern).count ≤ x.seg) : gapEnd v x s = repeatEnd v x s := if_neg (Nat.not_lt.2 h)

theorem repeatGap_none (h : (patternAt s x.pattern).repeatGap = 0) : repeatGap v x s = nextRepeat v x s := if_pos h

theorem repeatGap_some (h : (patternAt s x.pattern).repeatGap ≠ 0) :
    repeatGap v x s =
      setVoice v (some { x with phase := .repeatGap, remaining := (patternAt s x.pattern).repeatGap }) s := if_neg h

/-- The repeats that remain after one has ended (R92). -/
def Repeats.less : Repeats → Repeats
  | .continuous => .continuous
  | .count n => .count (n - 1)

/-- The entry with one repeat fewer to play; a CONTINUOUS one is left as it is. -/
def lessRepeat (e : ChimeEntry) (s : State) : State :=
  match e.remaining with
  | .continuous => s
  | .count n => modEntry e.pattern (fun e => { e with remaining := .count (n - 1) }) s

/-- After a repeat that is not the last comes the repeat gap. -/
theorem repeatEnd_goesOn (he : entryFor s x.pattern = some e) (h0 : e.remaining ≠ .count 0) (h1 : e.remaining ≠ .count 1) :
    repeatEnd v x s = repeatGap v x (lessRepeat e s) := by
  have hp := entryFor_pattern he
  cases hr : e.remaining with
  | continuous => simp only [repeatEnd, he, hr, lessRepeat]
  | count n =>
    have hn : 1 < n := by
      rw [hr] at h0 h1
      have hn0 : n ≠ 0 := fun h => h0 (congrArg _ h)
      have hn1 : n ≠ 1 := fun h => h1 (congrArg _ h)
      omega
    simp only [repeatEnd, he, hr, lessRepeat, if_pos hn, hp]

/-- After the last repeat the entry ends (R92). -/
theorem repeatEnd_last (he : entryFor s x.pattern = some e) (h1 : e.remaining = .count 1) :
    repeatEnd v x s = voicesLook (endEntry e (if e.cutShort then .cutShort else .completed) s) := by
  simp only [repeatEnd, he, h1, if_neg (lt_irrefl 1)]

theorem lessRepeat_within : Within [.chimes] s (lessRepeat e s) := by
  unfold lessRepeat
  split
  · exact .refl
  · exact modEntry_within _ _ s

theorem lessRepeat_cp (e : ChimeEntry) (s : State) : (lessRepeat e s).cp = s.cp := by
  unfold lessRepeat
  split <;> rfl

theorem entryFor_lessRepeat (he : entryFor s e.pattern = some e) :
    entryFor (lessRepeat e s) e.pattern = some { e with remaining := e.remaining.less } := by
  unfold lessRepeat
  split
  · rename_i hr
    rw [he, hr, Repeats.less, ← hr]
  · rename_i n hr
    rw [entryFor_modEntry (f := fun e => { e with remaining := .count (n - 1) }) (fun _ => rfl), if_pos rfl, he, hr]
    rfl

end

/-! ### A voice begins a tone by time -/

section
variable {u a : State} {v : VoiceId} {x : Voice} {e y : ChimeEntry} (hsetup : SameSetup u a) (hcp : a.cp = u.cp)
  (hx : e.pattern = x.pattern) (hy : entryFor a x.pattern = some y) (hzones : y.zones = e.zones)
  (hmark : y.rerouted = e.rerouted)
include hsetup hcp hx hy hzones hmark

/-- The next segment's tone. -/
theorem nextTone_begins (rep seg : Nat) :
    ToneBegun u (beginTone v { x with rep := rep, seg := seg } a) v e rep seg (presentSegment u { x with seg := seg }) ∧
      Rerouted u (beginTone v { x with rep := rep, seg := seg } a) e (presentSegment u { x with seg := seg }).position 24 :=
  beginTone_begins (x := { x with rep := rep, seg := seg }) hsetup hx.symm (hx ▸ hy) hzones hmark fun h => hcp ▸ h

/-- The next repeat begins with the first segment's tone, and the entry has reached it. -/
theorem nextRepeat_begins :
    ToneBegun u (nextRepeat v x a) v e (x.rep + 1) 1 (presentSegment u { x with seg := 1 }) ∧
      Rerouted u (nextRepeat v x a) e (presentSegment u { x with seg := 1 }).position 24 ∧
      (entryFor (nextRepeat v x a) x.pattern).map (fun z => { z with rerouted := y.rerouted }) =
        some { y with reached := x.rep + 1 } := by
  have hreached : entryFor (modEntry x.pattern (fun e => { e with reached := x.rep + 1 }) a) x.pattern =
      some { y with reached := x.rep + 1 } := by
    rw [entryFor_modEntry (f := fun e => { e with reached := x.rep + 1 }) (fun _ => rfl), if_pos rfl, hy]
    rfl
  obtain ⟨htone, hreroute⟩ := nextTone_begins (v := v)
    (hsetup.trans (modEntry_within x.pattern (fun e => { e with reached := x.rep + 1 }) a).sameSetup) hcp hx hreached hzones
    hmark (x.rep + 1) 1
  refine ⟨htone, hreroute, ?_⟩
  rw [nextRepeat, beginTone_entry, hreached]
  rfl

end

/-! ### The obligation -/

section
variable {s : State} {v : VoiceId} {x : Voice} {e : ChimeEntry}

/-- The entry that a voice plays is the entry of its pattern. -/
theorem Paired.entryFor_of_on (hs : Paired s) (hx : voiceOf s v = some x) (he : entryOn s v = some e) :
    entryFor s x.pattern = some e ∧ e ∈ s.chimes.queue ∧ e.voice = some v ∧ e.pattern = x.pattern := by
  obtain ⟨y, hy, hmem, hyv, hyp⟩ := hs.entryFor_of_plays hx
  have hemem := List.mem_of_find?_eq_some he
  have hev : e.voice = some v := by simpa using List.find?_some he
  have hplays := hs.voiced.plays e.pattern v (mem_keysOf.2 ⟨e, hemem, rfl, hev⟩)
  rw [hx] at hplays
  have hpattern : e.pattern = x.pattern := (Option.some.inj hplays).symm
  obtain rfl := hs.voiced.eq_of_pattern hmem hemem (hyp.trans hpattern.symm)
  exact ⟨hy, hmem, hyv, hyp⟩

/-- A voice that goes into a gap of its pattern. -/
theorem voiceOf_settle_setVoice {α : Type} (f : Voice → α) (hf : ∀ y, f y.ungained = f y) (y : Voice) :
    (voiceOf (settle (setVoice v (some y) s)) v).map f = some (f y) := by
  have hplays := congrArg (Option.map f) (settle_playsOn (v := v) (p := y.pattern) (a := setVoice v (some y) s)).voice
  rw [Option.map_map, Option.map_map, voiceOf_setVoice, if_pos rfl] at hplays
  simp only [Function.comp_def, hf] at hplays
  exact hplays

/-- After a segment that is not the last the next one's tone begins. -/
theorem gapEnd_begins (hfor : entryFor s x.pattern = some e) (hp : e.pattern = x.pattern)
    (h : x.seg < (patternAt s x.pattern).count) :
    ToneBegun s (settle (gapEnd v x s)) v e x.rep (x.seg + 1) (presentSegment s { x with seg := x.seg + 1 }) ∧
      Rerouted s (settle (gapEnd v x s)) e (presentSegment s { x with seg := x.seg + 1 }).position 24 := by
  rw [gapEnd_inside h]
  obtain ⟨htone, hreroute⟩ := nextTone_begins (v := v) .refl rfl hp hfor rfl rfl x.rep (x.seg + 1)
  exact ⟨htone.playsOn (settle_playsOn (p := e.pattern)), Rerouted.playsOn (v := v) hreroute settle_playsOn⟩

/-- The repeat gap's end begins the next repeat. -/
theorem nextRepeat_settled {a : State} {y : ChimeEntry} (hsetup : SameSetup s a) (hcp : a.cp = s.cp) (hp : e.pattern = x.pattern)
    (hy : entryFor a x.pattern = some y) (hzones : y.zones = e.zones) (hmark : y.rerouted = e.rerouted) :
    ToneBegun s (settle (nextRepeat v x a)) v e (x.rep + 1) 1 (presentSegment s { x with seg := 1 }) ∧
      Rerouted s (settle (nextRepeat v x a)) e (presentSegment s { x with seg := 1 }).position 24 ∧
      (entryFor (settle (nextRepeat v x a)) x.pattern).map (fun z => { z with rerouted := y.rerouted }) =
        some { y with reached := x.rep + 1 } := by
  obtain ⟨htone, hreroute, hentry⟩ := nextRepeat_begins (v := v) hsetup hcp hp hy hzones hmark
  rw [entryFor_settle]
  exact ⟨htone.playsOn (settle_playsOn (p := e.pattern)), Rerouted.playsOn (v := v) hreroute settle_playsOn, hentry⟩

/-- What an entry has beside its mark, read off with any mark set. -/
theorem entryFor_read {α : Type} {t : State} {p : PatternId} {m : Bool} {y : ChimeEntry} (f : ChimeEntry → α)
    (hf : ∀ z, f { z with rerouted := m } = f z)
    (h : (entryFor t p).map (fun z => { z with rerouted := m }) = some y) : (entryFor t p).map f = some (f y) := by
  have hmap := congrArg (Option.map f) h
  rw [Option.map_map] at hmap
  simp only [Function.comp_def, hf] at hmap
  exact hmap

/-- After the last segment of a repeat that is not the last comes the repeat gap, with one repeat fewer. -/
theorem repeatEnd_begins (hfor : entryFor s x.pattern = some e) (hp : e.pattern = x.pattern) (h0 : e.remaining ≠ .count 0)
    (h1 : e.remaining ≠ .count 1) :
    (entryFor (settle (repeatEnd v x s)) x.pattern).map ChimeEntry.remaining = some e.remaining.less ∧
      ((patternAt s x.pattern).repeatGap ≠ 0 →
        (voiceOf (settle (repeatEnd v x s)) v).map (fun y => (y.rep, y.phase, y.remaining)) =
          some (x.rep, .repeatGap, (patternAt s x.pattern).repeatGap)) ∧
      ((patternAt s x.pattern).repeatGap = 0 →
        ToneBegun s (settle (repeatEnd v x s)) v e (x.rep + 1) 1 (presentSegment s { x with seg := 1 }) ∧
        Rerouted s (settle (repeatEnd v x s)) e (presentSegment s { x with seg := 1 }).position 24) := by
  have hsetup : SameSetup s (lessRepeat e s) := lessRepeat_within.sameSetup
  have hless : entryFor (lessRepeat e s) x.pattern = some { e with remaining := e.remaining.less } :=
    hp ▸ entryFor_lessRepeat (hp ▸ hfor)
  rw [repeatEnd_goesOn hfor h0 h1, ← hsetup.patternAt_eq]
  by_cases hgap : (patternAt (lessRepeat e s) x.pattern).repeatGap = 0
  · obtain ⟨htone, hreroute, hentry⟩ := nextRepeat_settled (v := v) hsetup (lessRepeat_cp e s) hp hless rfl rfl
    rw [repeatGap_none hgap]
    exact ⟨entryFor_read ChimeEntry.remaining (fun _ => rfl) hentry, fun hne => absurd hgap hne, fun _ => ⟨htone, hreroute⟩⟩
  · rw [repeatGap_some hgap]
    refine ⟨?_, fun _ => voiceOf_settle_setVoice _ (fun _ => rfl) _, fun hnone => absurd hnone hgap⟩
    rw [entryFor_settle, entryFor_setVoice, hless]
    rfl

/-- The last repeat ends the entry, and the voice takes the first that waits. -/
theorem repeatEnd_ends (hs : Paired s) (hfor : entryFor s x.pattern = some e) (hv : e.voice = some v)
    (h1 : e.remaining = .count 1) :
    (settle (repeatEnd v x s)).chimes.queue.map ChimeEntry.pattern =
        (s.chimes.queue.map ChimeEntry.pattern).filter (fun p => p != x.pattern) ∧
      NextTaken s (settle (repeatEnd v x s)) v ∧
      (s.cp.reports.length < 24 →
        ((settle (repeatEnd v x s)).cp.reports.any (fun r => r.kind == .chimeEnded && r.subject == x.pattern.val &&
          r.data == reportData ([if e.cutShort = true then 2#8 else 0#8] ++ (cabinSetField e.zones ++ bit e.played)))) =
            true) := by
  have hcause : u8 (if e.cutShort then ChimeEnd.cutShort else .completed).code = [if e.cutShort = true then 2#8 else 0#8] := by
    cases e.cutShort <;> rfl
  rw [repeatEnd_last hfor h1, ← hcause, settle_queue, settle_cp, ended_patterns _ hfor]
  refine ⟨rfl, NextTaken.playsOn (endEntry_nextTaken _ hs (List.mem_of_find?_eq_some hfor) hv)
    fun p => settle_playsOn, fun hroom => ?_⟩
  rw [← entryFor_pattern hfor]
  exact Told.any (ended_told _ hroom)

end

/-- Settles O37, by the voice's phase and what its pattern has left to play. -/
theorem voicePlaysItsPattern : Obligations.VoicePlaysItsPattern := by
  unfold Obligations.VoicePlaysItsPattern
  intro s v hok
  refine ⟨fun hidle => ?_, fun x hx e he => ?_⟩
  · show Host.Outcome.next (settle (voicePhaseEnds v s)) = _
    rw [voicePhaseEnds, hidle]
  · obtain ⟨_, hpaired⟩ := (chimesOk_iff s).1 hok
    obtain ⟨hfor, _, hv, hp⟩ := hpaired.entryFor_of_on hx he
    have hends : voicePhaseEnds v s = phaseEnd v x s := by rw [voicePhaseEnds, hx]
    have hexec : exec (.voicePhaseEnd v) s = .next (settle (phaseEnd v x s)) := by
      rw [← hends]
      rfl
    have hwithin : Within [.zr, .chimes] s (phaseEnd v x s) := hends ▸ voicePhaseEnds_within v s
    refine ⟨_, hexec, fun hphase hgap => ?_, fun hphase => ?_, fun hphase => ?_, hwithin.posted.reply_eq,
      hwithin.posted.watchdog_eq, hwithin.settled.same⟩
    · rw [phaseEnd_toGap hphase hgap]
      exact ⟨voiceOf_settle_setVoice _ (fun _ => rfl) _, (settle_queue _).trans (setVoice_queue _ _ s).1⟩
    · rw [phaseEnd_afterGap hphase]
      refine ⟨gapEnd_begins hfor hp, fun hlast h0 h1 => ?_, fun hlast h1 => ?_⟩ <;> rw [gapEnd_last hlast]
      · obtain ⟨hremaining, hgap⟩ := repeatEnd_begins (v := v) hfor hp h0 h1
        refine ⟨hremaining.trans ?_, hgap⟩
        cases e.remaining <;> rfl
      · exact repeatEnd_ends hpaired hfor hv h1
    · rw [phaseEnd_afterRepeatGap hphase]
      obtain ⟨htone, hreroute, hentry⟩ := nextRepeat_settled (v := v) .refl rfl hp hfor rfl rfl
      exact ⟨htone, hreroute, entryFor_read ChimeEntry.reached (fun _ => rfl) hentry⟩

end Sys2Proof.Machine
end
